-- ==== Sys2Proof/Word.lean ====
section
/-! DEFINITION. The byte of the part's frames, pages and profile. -/

namespace Sys2Proof

/-- One byte of a frame, a page or the profile (00_scope.md, Byte order). -/
abbrev Byte := BitVec 8

end Sys2Proof
end

