-- ==== Sys2Proof/Syntax.lean ====
section
/-! DEFINITION. The commands of the 4820: one constructor for each row of spec/opcode_table.json,
with the values that reach the part from outside as operands. -/

namespace Sys2Proof

/-- Array time as the part holds it (R1): seconds and microseconds. -/
structure ArrayTime where
  sec : Nat
  us  : Nat
  deriving DecidableEq, Repr

/-- A time as it stands in seven bytes of a frame (R216): nothing bounds the microseconds yet. -/
structure WireTime where
  sec : BitVec 32
  us  : BitVec 24
  deriving DecidableEq, Repr

/-- A seismic component (R42). -/
inductive Channel where
  | z | n | e
  deriving DecidableEq, Repr

/-- The sign a converter reports with an overrange result (R42). -/
inductive Sign where
  | pos | neg
  deriving DecidableEq, Repr

/-- What a seismic converter delivers (R42): a signed result, and whether it is flagged overrange. -/
structure RawSample where
  value     : Int
  overrange : Option Sign
  deriving DecidableEq, Repr

/-- What the converters deliver at one tick (R41): the three seismic results, and the code of the
one housekeeping conversion. Results of unpowered channels are not read. -/
structure TickInput where
  z  : RawSample
  n  : RawSample
  e  : RawSample
  hk : BitVec 12
  deriving DecidableEq, Repr

/-- One channel's word of a sample set (R45). -/
structure SetWord where
  sample   : Int
  powered  : Bool
  settling : Bool
  clipped  : Bool
  guard    : Bool
  stepped  : Bool
  deriving DecidableEq, Repr

/-- The sender and sequence of a received station frame (R187). -/
structure FrameHeader where
  sender : Byte
  seq    : Byte
  deriving DecidableEq, Repr

/-- The sender, sequence and target of a received QUERY (R187, R216). -/
structure QueryHeader where
  sender : Byte
  seq    : Byte
  target : Byte
  deriving DecidableEq, Repr

/-- The payload of a BEACON (R216). -/
structure BeaconPayload where
  departure    : WireTime
  timeState    : Byte
  grade        : Byte
  intervalCode : Byte
  shed         : Byte
  flags        : Byte
  linePos      : BitVec 16
  east         : BitVec 16
  north        : BitVec 16
  soc          : BitVec 16
  temp         : BitVec 16
  deriving DecidableEq, Repr

/-- The payload of a PICK (R216). -/
structure PickPayload where
  seq   : Byte
  onset : WireTime
  grade : Byte
  mask  : Byte
  amp   : Byte
  flags : Byte
  east  : BitVec 16
  north : BitVec 16
  deriving DecidableEq, Repr

/-- The payload of an ALERT (R216): the vote count is carried beside the origins it announces. -/
structure AlertPayload where
  keyOrigin : Byte
  keyTime   : WireTime
  repeatNo  : Byte
  count     : Byte
  best      : Byte
  amp       : Byte
  origins   : List Byte
  deriving DecidableEq, Repr

/-- What the receiver heard from the kind byte on (R194): the bytes, whether a stop bit was found
dominant, and whether the line fell idle before the last byte. -/
structure HeardBytes where
  bytes   : List Byte
  badStop : Bool
  cutOff  : Bool
  deriving DecidableEq, Repr

/-- The commands, in the order of spec/opcode_table.json. LINE_TURNS_BUSY says of the start bit that is heard whether it is
that of a start delimiter directly after a preamble byte (R194); OPEN_CHECK carries the code of its heater-current
conversion (R48, R179). -/
inductive Instr where
  | powerOn
  | brownOut (supplyAllows : Bool)
  | brownOutRecovery
  | restartTakesEffect
  | profileRead (r1 r2 r3 : Option (List Byte))
  | careRestore
  | startUpScan
  | lineEnable
  | samplerStart
  | sampleTick (inp : TickInput)
  | settlingEnd (c : Channel) (w : SetWord)
  | warmupEnd (c : Channel) (w : SetWord)
  | channelTriggered (c : Channel) (t : ArrayTime) (w : SetWord)
  | triggerEnd (c : Channel) (t : ArrayTime) (w : SetWord)
  | maxTrigger (c : Channel) (t : ArrayTime) (w : SetWord)
  | captureTakeSet
  | captureEndTime
  | recordMaxReached
  | pageAllocation
  | pickAged
  | eventEnd
  | alertRepeatDue
  | schedule
  | owedSnapshot
  | shedExit
  | fullAnchor
  | emptyAnchor
  | maxOn
  | deferralExpired
  | heaterOpenClear
  | exposureReset
  | openCheck (hk : BitVec 12)
  | steeringInstant
  | peerExpiry
  | ppsEdge
  | beaconReceived (h : FrameHeader) (b : BeaconPayload)
  | pickFrameReceived (h : FrameHeader) (p : PickPayload)
  | alertFrameReceived (h : FrameHeader) (a : AlertPayload)
  | badFrame (f : HeardBytes)
  | frameNotHandedOn (kind sender target : Byte)
  | status (q : QueryHeader) (sect : Byte)
  | peer (q : QueryHeader) (index : Byte)
  | event (q : QueryHeader) (index : Byte)
  | record (q : QueryHeader) (index : Byte)
  | page (q : QueryHeader) (recId : BitVec 32) (index : BitVec 16) (slice : Byte)
  | release (q : QueryHeader) (recId : BitVec 32)
  | wipe (q : QueryHeader)
  | setSeconds (q : QueryHeader) (seconds : BitVec 32)
  | latchClear (q : QueryHeader)
  | restart (q : QueryHeader)
  | badRequest (q : QueryHeader) (code : Byte) (args : List Byte)
  | idleGapMet
  | backoffExpiry
  | lineTurnsBusy (delimiter : Bool)
  | mismatch
  | frameSent
  | sectionReset
  | uplinkReportSent
  | engineOperationStart
  | eraseComplete
  | captureProgramComplete
  | careSnapshotComplete
  | markComplete
  | nominalMicrosecond
  deriving DecidableEq, Repr

end Sys2Proof
end

