-- ==== Sys2Proof/Config.lean ====
section
/-! DEFINITION. The values the spec leaves open and never states: opaque constants, of which nothing can be
proved but what their uses bound. -/

namespace Sys2Proof

/-- The profile parameters for which 12.4 gives no default value, and whose chapter gives none (log entry 7). -/
inductive UnstatedDefault where
  | staShift | ltaShift | ltaFloor | onRatio | offRatio | onHold | offHold | maxTrigger | chanVote | repickGap
  | window | retention | slack | vMin | gradeLimit | kVotes | kFloor
  | preS | postS | recordMaxS
  deriving DecidableEq, Repr

/-- FREE VALUE (log entry 7): the listen-only value of a parameter without a stated default. -/
opaque Config.unstatedDefault : UnstatedDefault → Nat

/-- FREE VALUE (log entry 8): the n-th random draw of the part's back-off (R190), before it is brought into
its range. -/
opaque Config.backoffDraw : Nat → Nat

/-- FREE VALUE (log entry 9): a byte left by an engine operation that a brown-out cut short (R149). -/
opaque Config.partWrittenByte : Nat → BitVec 8

/-- FREE VALUE (log entry 25): Q rescaled from a snapshot whose capacity field is 0 (R167). -/
opaque Config.rescaleByZero : Nat → Nat

end Sys2Proof
end

