-- ==== Sys2Proof/Machine/State.lean ====
section
/-! DEFINITION. The state of the 4820 as plain data, one structure for each block of the manual, the reasons a
step can stop, and the state at a power-on. INVENTORY.md lists every field with its rule and its reset value. -/

namespace Sys2Proof.Machine

/-- One value for each of Z, N and E. -/
structure PerChan (α : Type) where
  z : α
  n : α
  e : α
  deriving DecidableEq, Repr

/-! ### The profile (R211, R216): the values after clamping -/

/-- The parameters of the manual under their own names, in the units of the owning chapters. -/
structure Profile where
  linePos      : Nat
  east         : Int
  north        : Int
  ppsEnable    : Bool
  uplinkRole   : Bool
  baseCode     : Nat
  rateCode     : Nat
  ppsWindow    : Nat
  lineNs       : Nat
  tempA        : Int
  tempB        : Int
  tempC        : Int
  tempD        : Int
  tempE        : Int
  staShift     : Nat
  ltaShift     : Nat
  ltaFloor     : Nat
  onRatio      : Nat
  offRatio     : Nat
  onHold       : Nat
  offHold      : Nat
  maxTrigger   : Nat
  chanVote     : Nat
  repickGap    : Nat
  window       : Nat
  retention    : Nat
  slack        : Nat
  vMin         : Nat
  gradeLimit   : Nat
  kVotes       : Nat
  kFloor       : Nat
  alertHold    : Nat
  alertRepeats : Nat
  confirmCount : Nat
  preS         : Nat
  postS        : Nat
  recordMaxS   : Nat
  capacityAh   : Nat
  chargeEff    : Nat
  fullMv       : Int
  taperMa      : Int
  emptyMv      : Int
  shed1        : Nat
  shed2        : Nat
  shed3        : Nat
  vLow         : Int
  vCrit        : Int
  writeFloor   : Int
  chargeMinT   : Int
  chargeMaxT   : Int
  maintT       : Int
  setback      : Int
  hyst         : Int
  sourceMv     : Int
  cutoutT      : Int
  freezeLimit  : Int
  freezeBudget : Nat
  minOn        : Nat
  minOff       : Nat
  maxOn        : Nat
  deferMax     : Nat
  guardS       : Nat
  heaterMinMa  : Nat
  deriving DecidableEq, Repr

/-- What the profile fields hold before step 1 of the first start has read a profile: the stated defaults of
12.4 and of the owning chapters, and the least value of the range where there is none.
DESIGN CHOICE (log entry 6): no block reads a parameter before step 1 ends. -/
def Profile.initial : Profile where
  linePos := 0
  east := 0
  north := 0
  ppsEnable := false
  uplinkRole := false
  baseCode := 1
  rateCode := 1
  ppsWindow := 100
  lineNs := 5
  tempA := 0
  tempB := 0
  tempC := 0
  tempD := 0
  tempE := 0
  staShift := 1
  ltaShift := 5
  ltaFloor := 0
  onRatio := 24
  offRatio := 16
  onHold := 1
  offHold := 1
  maxTrigger := 1
  chanVote := 1
  repickGap := 1
  window := 1
  retention := 5
  slack := 0
  vMin := 1000
  gradeLimit := 0
  kVotes := 2
  kFloor := 2
  alertHold := 120
  alertRepeats := 3
  confirmCount := 2
  preS := 5
  postS := 10
  recordMaxS := 30
  capacityAh := 100
  chargeEff := 95
  fullMv := 14200
  taperMa := 500
  emptyMv := 11000
  shed1 := 40
  shed2 := 20
  shed3 := 8
  vLow := 12000
  vCrit := 11400
  writeFloor := 11000
  chargeMinT := 20
  chargeMaxT := 450
  maintT := -150
  setback := 50
  hyst := 10
  sourceMv := 15000
  cutoutT := 400
  freezeLimit := -250
  freezeBudget := 240
  minOn := 60
  minOff := 120
  maxOn := 1800
  deferMax := 120
  guardS := 3
  heaterMinMa := 1000

/-- Why the part is in listen-only (R210). -/
inductive ListenCause where
  | none | noDevice | badCheck | badIdentifier
  deriving DecidableEq, Repr

/-- Where the start sequence stands (R214), and the two states outside it: browned out (R215), and restarting,
between the completion of a RESTART snapshot and the start it causes (R166). -/
inductive Phase where
  | step1 | step2 | step3 | step4 | step5 | running | restarting | brownOut
  deriving DecidableEq, Repr

/-! ### Timebase -/

/-- The time states of 1.3. -/
inductive TimeState where
  | unset | anchored | following | consensus | holdover
  deriving DecidableEq, Repr

/-- The three values captured on entering HOLDOVER (R6). -/
structure Holdover where
  grade : Nat
  temp  : Int
  time  : ArrayTime
  deriving DecidableEq, Repr

/-- The UNSET seed (R14), with the sender whose removal or conflict empties it. -/
structure Seed where
  sender   : Nat
  grade    : Nat
  reckoned : ArrayTime
  arrival  : ArrayTime
  deriving DecidableEq, Repr

/-- The state of chapter 1. -/
structure Timebase where
  clock       : ArrayTime
  residual    : Int
  steerF      : Int
  p           : Int
  tc          : Int
  state       : TimeState
  grade       : Nat
  holdover    : Option Holdover
  ppsAligned  : Bool
  ppsLast     : Option ArrayTime
  ppsRun      : Nat
  seed        : Option Seed
  nextInstant : Option ArrayTime
  interval    : Nat
  stepped     : Bool
  nextTick    : Option ArrayTime
  lastTick    : Option ArrayTime
  ppsRejects  : Nat
  steps       : Nat
  deriving DecidableEq, Repr

/-! ### Peer Table -/

/-- An occupied entry (2.1); the heard marks stand oldest first. -/
structure PeerEntry where
  id       : Nat
  linePos  : Nat
  east     : Int
  north    : Int
  interval : Nat
  last     : ArrayTime
  offset   : Int
  fresh    : Bool
  state    : TimeState
  grade    : Nat
  shed     : Nat
  running  : Bool
  soc      : Nat
  temp     : Int
  heardA   : Bool
  heardB   : Bool
  heardC   : Bool
  conflict : Bool
  deriving DecidableEq, Repr

/-- The state of chapter 2: the occupied entries in ascending order of identifier, the order of a PEER query. -/
structure PeerTable where
  entries       : List PeerEntry
  refused       : Nat
  full          : Nat
  conflicts     : Nat
  ownId         : Nat
  idConflict    : Bool
  ownIdConflict : Bool
  deriving DecidableEq, Repr

/-! ### Sampler -/

/-- The six inputs in rotation order (R47). -/
inductive HkInput where
  | batVolt | batCurr | batTemp | encTemp | heatCurr | srcVolt
  deriving DecidableEq, Repr

/-- The latest value of each housekeeping input, or absent (R48, R49). -/
structure Latest where
  batVolt  : Option Int
  batCurr  : Option Int
  batTemp  : Option Int
  encTemp  : Option Int
  heatCurr : Option Int
  srcVolt  : Option Int
  deriving DecidableEq, Repr

/-- A sample set (R45). -/
structure SampleSet where
  stamp : ArrayTime
  words : PerChan SetWord
  deriving DecidableEq, Repr

/-- The state of chapter 3: the ring stands newest first. -/
structure Sampler where
  powered         : PerChan Bool
  settling        : PerChan Nat
  slot            : HkInput
  latest          : Latest
  batterySensor   : Bool
  enclosureSensor : Bool
  ring            : List SampleSet
  nextSet         : Nat
  clips           : PerChan Nat
  badBattery      : Nat
  badEnclosure    : Nat
  deriving DecidableEq, Repr

/-! ### Detector -/

/-- The seven channel states (4.3). -/
inductive ChanState where
  | off | settling | warmup | quiet | pending | triggered | ending
  deriving DecidableEq, Repr

/-- The averages of one channel (R58 to R60), with eight fractional bits. -/
structure Averages where
  d : Int
  s : Int
  l : Int
  deriving DecidableEq, Repr

/-- The run marks (R70). -/
structure RunMarks where
  onset   : ArrayTime
  grade   : Nat
  peak    : Int
  clipped : Bool
  stepped : Bool
  deriving DecidableEq, Repr

/-- How a trigger ended (R71). -/
inductive TriggerEnd where
  | normal | long | power
  deriving DecidableEq, Repr

/-- The last-trigger record (R71); its long flag is set exactly when the end is LONG. -/
structure LastTrigger where
  onset    : ArrayTime
  duration : Nat
  peak     : Int
  ended    : TriggerEnd
  clipped  : Bool
  deriving DecidableEq, Repr

/-- The Detector's state of one channel. -/
structure ChanDet where
  state  : ChanState
  avg    : Option Averages
  warmup : Nat
  onRun  : Nat
  offRun : Nat
  run    : Option RunMarks
  last   : Option LastTrigger
  deriving DecidableEq, Repr

/-- A guard interval (R75). -/
structure Guard where
  opens : ArrayTime
  ends  : ArrayTime
  deriving DecidableEq, Repr

/-- The state of chapter 4. -/
structure Detector where
  chan      : PerChan ChanDet
  trigger   : Bool
  running   : Bool
  vote      : Option Nat
  lastSet   : Option ArrayTime
  guard     : Option Guard
  prevPick  : Option ArrayTime
  pickSeq   : Nat
  formed    : Nat
  guardSup  : Nat
  repickSup : Nat
  longTrig  : Nat
  deriving DecidableEq, Repr

/-- A station pick as the Detector hands it on (R77). -/
structure StationPick where
  seq     : Nat
  onset   : ArrayTime
  grade   : Nat
  mask    : PerChan Bool
  amp     : Nat
  clipped : Bool
  stepped : Bool
  deriving DecidableEq, Repr

/-! ### Pick List -/

/-- The key of an event: first-pick origin and time (6.2). -/
structure Key where
  origin : Nat
  time   : ArrayTime
  deriving DecidableEq, Repr

/-- An entry of the Pick List (5.2). -/
structure PickEntry where
  origin   : Nat
  seq      : Nat
  time     : ArrayTime
  grade    : Nat
  east     : Int
  north    : Int
  amp      : Nat
  counted  : Bool
  assigned : Option Key
  deriving DecidableEq, Repr

/-- The state of chapter 5, the oldest entry first. -/
structure PickList where
  entries   : List PickEntry
  malformed : Nat
  future    : Nat
  stale     : Nat
  duplicate : Nat
  displaced : Nat
  declared  : Nat
  deriving DecidableEq, Repr

/-! ### Event Table -/

/-- An entry of the Event Table (6.2); `active` is the state ACTIVE, else ENDED. `serial` is the model's own:
it tells an entry from a later one with the same key (R114, log entry 31). -/
structure EventEntry where
  serial       : Nat
  key          : Key
  active       : Bool
  votes        : List Nat
  declaredBy   : List Nat
  localDecl    : Bool
  kNeeded      : Option Nat
  best         : Nat
  amp          : Nat
  position     : Option (Int × Int)
  recordId     : Option Nat
  lastActivity : ArrayTime
  repeatsLeft  : Nat
  repeatDue    : Option ArrayTime
  deriving DecidableEq, Repr

/-- The state of chapter 6. Alert Reports stand as their 18 bytes; `sentUs` counts the nominal microseconds for which the
report in transmission has been sent, up to its 18.75 ms (R118). -/
structure EventTable where
  entries        : List EventEntry
  nextSerial     : Nat
  alertLine      : Bool
  uplink         : List (List Byte)
  sending        : Option (List Byte)
  sentUs         : Nat
  declRefused    : Nat
  alertRefused   : Nat
  alertMalformed : Nat
  alertLate      : Nat
  sendFailed     : Nat
  uplinkDropped  : Nat
  deriving DecidableEq, Repr

/-! ### Record Memory -/

/-- The end causes of a record (R126). -/
inductive EndCause where
  | normal | full | power | overrun | cut | torn
  deriving DecidableEq, Repr

/-- The hold of a record (7.5). -/
inductive Hold where
  | loose | pending | held | released
  deriving DecidableEq, Repr

/-- The kinds of page-map entries (R123). `programmed` is the model's own: whether the page's PROGRAM has
completed (log entry 31). -/
inductive PageKind where
  | care
  | freeErased
  | freeDirty
  | owned (recId idx : Nat) (programmed : Bool)
  deriving DecidableEq, Repr

/-- An entry of the record directory (R126); it is CLOSED exactly when an end cause is present. -/
structure DirEntry where
  id        : Nat
  closed    : Bool
  hold      : Hold
  firstPage : Option Nat
  pages     : Nat
  firstSet  : ArrayTime
  lastSet   : Option ArrayTime
  endCause  : Option EndCause
  eventRef  : Option Key
  deriving DecidableEq, Repr

/-- A final page of one set, still to be formed (R139, third case): the ring number and the end cause. -/
structure TailSet where
  num   : Nat
  cause : EndCause
  deriving DecidableEq, Repr

/-- The page buffer (7.4): its page, the sets (oldest first), the header values taken with the first set, the
end cause of a final page, whether its PROGRAM is requested and not completed, the page already allocated for
the set that follows, and the tail set of R139's third case. -/
structure PageBuffer where
  page  : Option Nat
  idx   : Nat
  sets  : List SampleSet
  grade : Nat
  stepped : Bool
  final : Option EndCause
  busy  : Bool
  next  : Option Nat
  tail  : Option TailSet
  deriving DecidableEq, Repr

/-- The capture states (7.4). -/
inductive CapMode where
  | idle | opened | closing
  deriving DecidableEq, Repr

/-- The capture: `recId` is the record whose pages pass through the buffer, `waiting` a record that waits
behind it (R132); the read position, end time, awaiting mark and count belong to the waiting record where there
is one, and to `recId` otherwise. -/
structure Capture where
  mode     : CapMode
  recId    : Option Nat
  waiting  : Option Nat
  readPos  : Option Nat
  endTime  : Option ArrayTime
  awaiting : Bool
  taken    : Nat
  buf      : PageBuffer
  deriving DecidableEq, Repr

/-- A waiting MARK: the record, its first page, and the mark byte, 0 for the hold and 1 for the release. -/
structure MarkReq where
  recId : Nat
  page  : Nat
  which : Nat
  deriving DecidableEq, Repr

/-- The operation in flight (R127), with its requester. -/
inductive EngineOp where
  | careErase (page : Nat)
  | careProgram (page offset : Nat) (bytes : List Byte)
  | mark (req : MarkReq)
  | recordProgram (page : Nat) (bytes : List Byte)
  | aheadErase (page : Nat)
  | wipeErase (page : Nat)
  deriving DecidableEq, Repr

/-- The state of chapter 7, but for the bytes of the pages, which are `State.mem`. -/
structure RecordMem where
  map           : List PageKind
  dir           : List DirEntry
  nextId        : Nat
  allocPtr      : Nat
  cap           : Capture
  flight        : Option EngineOp
  marks         : List MarkReq
  programReq    : Bool
  eraseAhead    : Option Nat
  wipeList      : List Nat
  wiping        : Bool
  pendingStep   : Bool
  started       : Nat
  refused       : Nat
  reclaimed     : Nat
  closedFull    : Nat
  closedPower   : Nat
  closedOverrun : Nat
  torn          : Nat
  dropped       : Nat
  deriving DecidableEq, Repr

/-! ### Battery Monitor -/

/-- The values of write permission (R160). -/
inductive WritePerm where
  | absent | careOnly | full
  deriving DecidableEq, Repr

/-- The causes of a care snapshot (R163). -/
inductive SnapCause where
  | schedule | shed | restart
  deriving DecidableEq, Repr

/-- An on-delay: not running (no start), or running since its start, and whether it has been met. -/
structure OnDelay where
  start : Option ArrayTime
  isMet : Bool
  deriving DecidableEq, Repr

/-- How far the engine has served the placed care request (R130). -/
inductive CareStage where
  | needErase | erasing | needProgram | programming
  deriving DecidableEq, Repr

/-- The placed care snapshot request (R130, R165): the care page, the offset and the bytes to program (with the
page header when the slot is 0), and how far it has come. -/
structure PlacedCare where
  page   : Nat
  offset : Nat
  bytes  : List Byte
  seq    : Nat
  cause  : SnapCause
  stage  : CareStage
  deriving DecidableEq, Repr

/-- The state of chapter 8. `restored` keeps the cause as the snapshot's byte. -/
structure Battery where
  q              : Nat
  residual       : Int
  lastCurrent    : Option ArrayTime
  lastHeater     : Option ArrayTime
  full           : OnDelay
  empty          : OnDelay
  shed           : Nat
  exit           : OnDelay
  permit         : Bool
  permission     : WritePerm
  logPage        : Nat
  logSlot        : Nat
  seq            : Nat
  nextDue        : Option ArrayTime
  owed           : Option SnapCause
  placed         : Option PlacedCare
  lastDone       : Option (Nat × SnapCause)
  restored       : Option (Nat × Nat)
  restoredNextId : Nat
  heaterDraw     : Nat
  careLost       : Bool
  fullAnchors    : Nat
  emptyAnchors   : Nat
  shedRaises     : Nat
  written        : Nat
  permitDrops    : Nat
  deriving DecidableEq, Repr

/-! ### Heater Controller -/

/-- The causes of a forced off (R175). -/
inductive ForcedCause where
  | cutout | sensor | opened | maxOn
  deriving DecidableEq, Repr

/-- The state of chapter 9. -/
structure Heater where
  on           : Bool
  since        : ArrayTime
  deferral     : Option ArrayTime
  openSince    : Option ArrayTime
  stuck        : Bool
  openCheck    : Bool
  exposure     : Nat
  rem          : Nat
  accumulating : Bool
  lastTemp     : Option ArrayTime
  resetDelay   : OnDelay
  restoredTime : Option ArrayTime
  restoredFlag : Bool
  lastForced   : Option ForcedCause
  starts       : Nat
  forcedOffs   : Nat
  deferred     : Nat
  expired      : Nat
  resets       : Nat
  opens        : Nat
  deriving DecidableEq, Repr

/-! ### Line Controller -/

/-- The content of a BEACON fixed at its handing (R188): all but the departure stamp. -/
structure BeaconContent where
  state   : TimeState
  grade   : Nat
  code    : Nat
  shed    : Nat
  running : Bool
  linePos : Nat
  east    : Int
  north   : Int
  soc     : Nat
  temp    : Option Int
  deriving DecidableEq, Repr

/-- The content of an ALERT (R113), with the serial of the entry it was formed from. -/
structure AlertContent where
  serial   : Nat
  key      : Key
  repeatNo : Nat
  best     : Nat
  amp      : Nat
  origins  : List Nat
  deriving DecidableEq, Repr

/-- The content of an ANSWER (R188, R200). -/
structure AnswerContent where
  requester : Nat
  code      : Nat
  result    : Nat
  data      : List Byte
  deriving DecidableEq, Repr

/-- A frame handed to the transmit queue (R188). -/
inductive Frame where
  | alert (a : AlertContent)
  | pick (p : StationPick) (east north : Int)
  | beacon (b : BeaconContent)
  | answer (a : AnswerContent)
  deriving DecidableEq, Repr

/-- A queued frame with its sequence and attempt count (R189). -/
structure QFrame where
  frame    : Frame
  seq      : Nat
  attempts : Nat
  deriving DecidableEq, Repr

/-- The access state of the contending frame (R190), its times in nominal microseconds: what is left of the back-off, and
how long a frame has been in transmission, with the departure stamp of a BEACON once it is taken. -/
inductive Access where
  | idle
  | waiting
  | backoff (left : Nat)
  | transmitting (elapsed : Nat) (stamp : Option ArrayTime)
  deriving DecidableEq, Repr

/-- The receive state (R194, R199): deaf before the enable; hunting; taking a frame, with r, local time at the leading edge
of its delimiter's start bit; or a frame discarded, after which the receiver hunts again once the line is idle. The bytes
of the frame being taken come with the command that ends it (log entry 16). -/
inductive RxState where
  | deaf
  | hunting
  | taking (r : ArrayTime)
  | discarded
  deriving DecidableEq, Repr

/-- The state of chapter 10; a frame in transmission stands at the head of the queue. `silence` counts the nominal
microseconds since the leading edge of the last start bit heard, up to the longest that an access asks for (R186, R190);
`driven` holds the levels of the frame in transmission in the order of its bit times, true for recessive, as far as its
content is fixed; `lastValid` is a signed count of microseconds, so that a step can move it below 0 (R196). -/
structure Line where
  rx            : RxState
  silence       : Nat
  queue         : List QFrame
  access        : Access
  driven        : Option (List Bool)
  seq           : Nat
  lastValid     : Option Int
  quiet         : Bool
  sent          : Nat
  collisions    : Nat
  dropped       : Nat
  refused       : Nat
  displaced     : Nat
  replaced      : Nat
  skipped       : Nat
  badFrame      : Nat
  badSender     : Nat
  unknownKind   : Nat
  sectionResets : Nat
  deriving DecidableEq, Repr

/-- The state of chapter 11. -/
structure Query where
  restartPending : Bool
  taken          : Nat
  bad            : Nat
  ignored        : Nat
  deriving DecidableEq, Repr

/-! ### The whole part -/

/-- The state of the part, and the queue of commands that wait for it. -/
structure State where
  phase       : Phase
  profile     : Profile
  ownId       : Option Nat
  listenOnly  : Bool
  listenCause : ListenCause
  clamped     : Nat
  mem         : List Host.Cell
  tb          : Timebase
  peers       : PeerTable
  sampler     : Sampler
  det         : Detector
  picks       : PickList
  events      : EventTable
  rm          : RecordMem
  bat         : Battery
  heat        : Heater
  line        : Line
  query       : Query
  freeCount   : Nat
  pending     : List Instr
  deriving DecidableEq, Repr

/-- The machine stops with a fault only where its state is not one of the part's. -/
inductive Fault where
  /-- Raised by the completion of an engine operation on a page beyond the 512 of R123 (log entry 32). Safe:
  no page request of the part names such a page. -/
  | noSuchPage (page : Nat)
  deriving DecidableEq, Repr

/-- A command without a meaning. -/
inductive Refusal where
  /-- Raised by `exec` for a row that has no meaning yet. Safe: nothing can be proved of such a command.
  No arm raises it. -/
  | notModelled (mnemonic : String)
  deriving DecidableEq, Repr

/-! ### Reset -/

/-- Time 0 s 0 µs (R26). -/
def timeZero : ArrayTime := ⟨0, 0⟩

/-- The Timebase after reset (R26). -/
def Timebase.reset : Timebase where
  clock := timeZero
  residual := 0
  steerF := 0
  p := 0
  tc := 0
  state := .unset
  grade := 15
  holdover := none
  ppsAligned := false
  ppsLast := none
  ppsRun := 0
  seed := none
  nextInstant := none
  interval := 0
  stepped := false
  nextTick := none
  lastTick := none
  ppsRejects := 0
  steps := 0

/-- The Peer Table after reset (R40). -/
def PeerTable.reset : PeerTable := ⟨[], 0, 0, 0, 0, false, false⟩

/-- The Sampler after reset (R56), its channels unpowered until the first tick (R214). -/
def Sampler.reset : Sampler where
  powered := ⟨false, false, false⟩
  settling := ⟨0, 0, 0⟩
  slot := .batVolt
  latest := ⟨none, none, none, none, none, none⟩
  batterySensor := false
  enclosureSensor := false
  ring := []
  nextSet := 0
  clips := ⟨0, 0, 0⟩
  badBattery := 0
  badEnclosure := 0

/-- A channel that is OFF and has no last-trigger record (R82). -/
def ChanDet.reset : ChanDet := ⟨.off, none, 0, 0, 0, none, none⟩

/-- The Detector after reset (R82), before the Sampler is started. -/
def Detector.reset : Detector where
  chan := ⟨ChanDet.reset, ChanDet.reset, ChanDet.reset⟩
  trigger := false
  running := false
  vote := none
  lastSet := none
  guard := none
  prevPick := none
  pickSeq := 0
  formed := 0
  guardSup := 0
  repickSup := 0
  longTrig := 0

/-- The Pick List after reset (R103). -/
def PickList.reset : PickList := ⟨[], 0, 0, 0, 0, 0, 0⟩

/-- The Event Table after reset (R122). -/
def EventTable.reset : EventTable := ⟨[], 0, false, [], none, 0, 0, 0, 0, 0, 0, 0⟩

/-- The page map before the scan: the care pages by number, every pool page FREE-DIRTY (log entry 6). -/
def initialMap : List PageKind :=
  List.replicate 252 .freeDirty ++ (List.replicate 4 .care ++
    (List.replicate 252 .freeDirty ++ List.replicate 4 .care))

/-- An empty page buffer (R151). -/
def PageBuffer.empty : PageBuffer := ⟨none, 0, [], 0, false, none, false, none, none⟩

/-- The capture after reset (R151). -/
def Capture.reset : Capture := ⟨.idle, none, none, none, none, false, 0, PageBuffer.empty⟩

/-- The Record Memory after reset (R151), before the scan. -/
def RecordMem.reset : RecordMem where
  map := initialMap
  dir := []
  nextId := 0
  allocPtr := 0
  cap := Capture.reset
  flight := none
  marks := []
  programReq := false
  eraseAhead := none
  wipeList := []
  wiping := false
  pendingStep := false
  started := 0
  refused := 0
  reclaimed := 0
  closedFull := 0
  closedPower := 0
  closedOverrun := 0
  torn := 0
  dropped := 0

/-- An on-delay that is not running. -/
def OnDelay.stopped : OnDelay := ⟨none, false⟩

/-- The Battery Monitor after reset (R170), before the restore. -/
def Battery.reset : Battery where
  q := 0
  residual := 0
  lastCurrent := none
  lastHeater := none
  full := OnDelay.stopped
  empty := OnDelay.stopped
  shed := 0
  exit := OnDelay.stopped
  permit := false
  permission := .absent
  logPage := 0
  logSlot := 0
  seq := 0
  nextDue := none
  owed := none
  placed := none
  lastDone := none
  restored := none
  restoredNextId := 0
  heaterDraw := 0
  careLost := false
  fullAnchors := 0
  emptyAnchors := 0
  shedRaises := 0
  written := 0
  permitDrops := 0

/-- The Heater Controller after reset (R185), before the restore. -/
def Heater.reset : Heater where
  on := false
  since := timeZero
  deferral := none
  openSince := none
  stuck := false
  openCheck := false
  exposure := 0
  rem := 0
  accumulating := false
  lastTemp := none
  resetDelay := OnDelay.stopped
  restoredTime := none
  restoredFlag := false
  lastForced := none
  starts := 0
  forcedOffs := 0
  deferred := 0
  expired := 0
  resets := 0
  opens := 0

/-- The Line Controller after reset, silent and deaf (R199). DESIGN CHOICE (log entry 39): the line is taken as idle at the
enable, with no idle time yet, since neither R186 nor R199 says how it stands. -/
def Line.reset : Line where
  rx := .deaf
  silence := 160
  queue := []
  access := .idle
  driven := none
  seq := 0
  lastValid := none
  quiet := false
  sent := 0
  collisions := 0
  dropped := 0
  refused := 0
  displaced := 0
  replaced := 0
  skipped := 0
  badFrame := 0
  badSender := 0
  unknownKind := 0
  sectionResets := 0

/-- The query handler after reset (R209). -/
def Query.reset : Query := ⟨false, 0, 0, 0⟩

/-- The part right after a power-on: a start begins at step 1 (R214, R215), with an erased record memory
(log entry 5). -/
def State.reset : State where
  phase := .step1
  profile := Profile.initial
  ownId := none
  listenOnly := false
  listenCause := .none
  clamped := 0
  mem := []
  tb := Timebase.reset
  peers := PeerTable.reset
  sampler := Sampler.reset
  det := Detector.reset
  picks := PickList.reset
  events := EventTable.reset
  rm := RecordMem.reset
  bat := Battery.reset
  heat := Heater.reset
  line := Line.reset
  query := Query.reset
  freeCount := 0
  pending := []

end Sys2Proof.Machine
end

