-- ==== Sys2Proof/Machine/Ops.lean ====
section
/-! DEFINITION. The shared operations below the blocks: array-time arithmetic, counters, clamps, on-delays, values
per channel, and the record memory's bytes. -/

namespace Sys2Proof.Machine

/-! ### Outcomes -/

/-- What a command comes to. -/
abbrev Result := Host.Outcome State Fault Refusal

/-- Whether the part works: not while it is browned out, nor between a RESTART snapshot and its start (R166, R215). -/
def State.awake (s : State) : Bool := s.phase != .brownOut && s.phase != .restarting

/-- A command's work on a condition; a command that cannot come about now changes nothing (log entries 2 and 4). -/
def doWhen (c : Bool) (s : State) (work : State → State) : Result := .next (if c then work s else s)

/-! ### Array time (R1) -/

/-- The microseconds that the seconds of array time span before they become 0 again (R1). -/
def timeSpan : Int := 4294967296000000

/-- A time as a signed count of microseconds (R1). -/
def usOf (t : ArrayTime) : Int := (t.sec : Int) * 1000000 + (t.us : Int)

/-- The array time of a count of microseconds; seconds that pass the last one become 0 (R1, log entry 10). -/
def ofUs (n : Int) : ArrayTime :=
  let m := (n % timeSpan).toNat
  ⟨m / 1000000, m % 1000000⟩

/-- A time moved by a signed count of microseconds. -/
def addUs (t : ArrayTime) (d : Int) : ArrayTime := ofUs (usOf t + d)

/-- The difference of two times as a signed count of microseconds: negative when the first is earlier (R1). -/
def diffUs (a b : ArrayTime) : Int := usOf a - usOf b

/-- The time in seven bytes of a frame, its microseconds as carried. -/
def wireTime (t : WireTime) : ArrayTime := ⟨t.sec.toNat, t.us.toNat⟩

/-- The least multiple of `period` at or after `x`. -/
def multipleFrom (period x : Int) : Int := x + (-x) % period

/-- The least multiple of `period` greater than `x`. -/
def multipleAfter (period x : Int) : Int := multipleFrom period (x + 1)

/-! ### Counters and clamps -/

/-- A counter raised by one, saturating at 65,535. -/
def bump (n : Nat) : Nat := min (n + 1) 65535

/-- A counter raised `k` times. -/
def bumpBy (k n : Nat) : Nat := min (n + k) 65535

/-- A count modulo 2³². -/
def wrap32 (n : Nat) : Nat := n % 4294967296

/-- Clamp (00_scope.md, Clamping). -/
def clampInt (lo hi x : Int) : Int := max lo (min hi x)

/-- Clamp of a natural number. -/
def clampNat (lo hi x : Nat) : Nat := max lo (min hi x)

/-- An elapsed time in whole milliseconds, floored, lowered to 10,000 and raised to 0 (R153, R162, R181). -/
def boundedMs (us : Int) : Int := clampInt 0 10000 (us / 1000)

/-! ### On-delays (00_scope.md, Delays) -/

/-- One evaluation of an on-delay of `need` µs at time `now`: a failing condition ends it; a holding one begins
it if it does not run, and meets it once `need` has elapsed since its beginning. -/
def OnDelay.eval (d : OnDelay) (cond : Bool) (now : ArrayTime) (need : Int) : OnDelay :=
  if cond then
    let start := d.start.getD now
    ⟨some start, d.isMet || decide (need ≤ diffUs now start)⟩
  else OnDelay.stopped

/-! ### Values per channel -/

/-- The value of one channel. -/
def PerChan.get {α : Type} (p : PerChan α) (c : Channel) : α :=
  match c with
  | .z => p.z
  | .n => p.n
  | .e => p.e

/-- The values with that of one channel replaced. -/
def PerChan.set {α : Type} (p : PerChan α) (c : Channel) (x : α) : PerChan α :=
  match c with
  | .z => { p with z := x }
  | .n => { p with n := x }
  | .e => { p with e := x }

/-- The values of the three channels, each computed from its channel. -/
def PerChan.ofFn {α : Type} (f : Channel → α) : PerChan α := ⟨f .z, f .n, f .e⟩

/-- How many channels satisfy a test. -/
def PerChan.count {α : Type} (p : PerChan α) (f : α → Bool) : Nat :=
  (if f p.z then 1 else 0) + (if f p.n then 1 else 0) + (if f p.e then 1 else 0)

/-- Three flags as a channel mask (R216). -/
def PerChan.mask (p : PerChan Bool) : Nat :=
  (if p.z then 1 else 0) + (if p.n then 2 else 0) + (if p.e then 4 else 0)

/-! ### The record memory's bytes (R123, R127) -/

/-- The bytes of the record memory as a canonical list of cells. -/
abbrev Memory := List Host.Cell

/-- What an unlisted address reads as: the erased value (R127; log entry 5 for memory never used). -/
def erasedByte : Byte := 255

/-- The bytes of a page (R123). -/
def pageSize : Nat := 2048

/-- The pages of the memory (R123). -/
def pageCount : Nat := 512

/-- The canonical form: addresses strictly rising, and no cell that reads as an unlisted address does. -/
abbrev Memory.wf (m : Memory) : Prop :=
  m.Pairwise (fun a b => a.1 < b.1) ∧ ∀ c ∈ m, c.2 ≠ erasedByte

/-- The byte at an address. -/
def memRead (m : Memory) (a : Nat) : Byte :=
  match m with
  | [] => erasedByte
  | (b, v) :: rest => if b = a then v else memRead rest a

/-- One byte written, keeping the canonical form. -/
def memWrite (m : Memory) (a : Nat) (v : Byte) : Memory :=
  match m with
  | [] => if v = erasedByte then [] else [(a, v)]
  | (b, w) :: rest =>
    if a < b then (if v = erasedByte then (b, w) :: rest else (a, v) :: (b, w) :: rest)
    else if a = b then (if v = erasedByte then rest else (a, v) :: rest)
    else (b, w) :: memWrite rest a v

/-- Bytes written from an address on. -/
def memWriteList (m : Memory) (a : Nat) (bs : List Byte) : Memory :=
  match bs with
  | [] => m
  | b :: rest => memWriteList (memWrite m a b) (a + 1) rest

/-- Bytes programmed from an address on: programming only moves bits toward 0 (chapter 7, introduction). -/
def memProgram (m : Memory) (a : Nat) (bs : List Byte) : Memory :=
  match bs with
  | [] => m
  | b :: rest => memProgram (memWrite m a (memRead m a &&& b)) (a + 1) rest

/-- The address of a page's first byte. -/
def pageBase (page : Nat) : Nat := page * pageSize

/-- Whether a cell belongs to a page. -/
def inPage (page : Nat) (c : Host.Cell) : Bool :=
  pageBase page ≤ c.1 && c.1 < pageBase page + pageSize

/-- A page erased: every byte becomes 0xFF (R127). -/
def memErase (m : Memory) (page : Nat) : Memory := m.filter (fun c => !inPage page c)

/-- `n` bytes from an address on. -/
def memRange (m : Memory) (a n : Nat) : List Byte := (List.range n).map (fun i => memRead m (a + i))

/-- The listed cells of a page, as a memory of their own. -/
def pageCells (m : Memory) (page : Nat) : Memory := m.filter (inPage page)

/-- The bank of a page (R123): bank A holds pages 0 to 255. -/
def bankOf (page : Nat) : Nat := page / 256

/-- Whether a page is one of the eight care log pages (R123). -/
def isCarePage (page : Nat) : Bool := (252 ≤ page && page ≤ 255) || (508 ≤ page && page ≤ 511)

end Sys2Proof.Machine
end

