-- ==== Sys2Proof/Machine/LineQueue.lean ====
section
/-! DEFINITION. The transmit queue of the Line Controller (R188, R189) and its access state (R190), as operations on
the Line Controller's own state. -/

namespace Sys2Proof.Machine

/-- The priority of a frame (R189): ALERT, then PICK, then BEACON and ANSWER. -/
def Frame.priority (f : Frame) : Nat :=
  match f with
  | .alert _ => 2
  | .pick _ _ _ => 1
  | .beacon _ | .answer _ => 0

/-- Whether a queued frame is a BEACON. -/
def QFrame.isBeacon (q : QFrame) : Bool :=
  match q.frame with
  | .beacon _ => true
  | _ => false

/-- Whether the contending frame is in transmission (R189). -/
def Line.sending (l : Line) : Bool :=
  match l.access with
  | .transmitting _ _ => true
  | _ => false

/-- The access state of a frame that has just become the contending frame (R190). -/
def freshAccess (queue : List QFrame) : Access := if queue = [] then .idle else .waiting

/-- Whether a frame's place is behind some frame of a queue: one of its own or of higher priority (R189). -/
def standsBehind (q : QFrame) (queue : List QFrame) : Bool :=
  queue.any (fun x => decide (q.frame.priority ≤ x.frame.priority))

/-- A frame placed directly behind the last frame of its own or of higher priority (R189); a stopped frame stays at the head
whatever stands behind it (R191; log entry 17). -/
def placeNewest (q : QFrame) (queue : List QFrame) : List QFrame :=
  match queue with
  | [] => [q]
  | x :: rest => if standsBehind q (x :: rest) then x :: placeNewest q rest else q :: x :: rest

/-- A frame accepted at its place. A frame in transmission stays the contending frame; else a new head begins
access afresh (R190). -/
def Line.accept (l : Line) (q : QFrame) : Line :=
  match l.queue with
  | [] => { l with queue := [q], access := .waiting }
  | h :: rest =>
    if l.sending then { l with queue := h :: placeNewest q rest }
    else
      { l with
        queue := placeNewest q (h :: rest)
        access := if standsBehind q (h :: rest) then l.access else .waiting }

/-- The first waiting frame that satisfies a test leaves the queue; a frame in transmission is passed over. -/
def Line.dropFirst (l : Line) (p : QFrame → Bool) : Line :=
  match l.queue with
  | [] => l
  | h :: rest =>
    if l.sending then { l with queue := h :: rest.eraseP p }
    else if p h then { l with queue := rest, access := freshAccess rest }
    else { l with queue := h :: rest.eraseP p }

/-- The frames of the queue that are not in transmission. -/
def Line.waitingFrames (l : Line) : List QFrame := if l.sending then l.queue.drop 1 else l.queue

/-- The lowest priority among the frames not in transmission; 3 when there is none. -/
def Line.lowestPriority (l : Line) : Nat := l.waitingFrames.foldl (fun m q => min m q.frame.priority) 3

/-- What became of a frame handed to the queue (R189). -/
inductive Offer where
  | accepted | skipped | refused
  deriving DecidableEq, Repr

/-- The frame sequence number a frame takes: the answered QUERY's for an ANSWER, else the one in force (R188). -/
def Line.numbered (l : Line) (f : Frame) (querySeq : Option Nat) : Line × QFrame :=
  match querySeq with
  | some n => (l, ⟨f, n, 0⟩)
  | none => ({ l with seq := (l.seq + 1) % 256 }, ⟨f, l.seq, 0⟩)

/-- A frame entered, with its sequence number. -/
def Line.enter (l : Line) (f : Frame) (querySeq : Option Nat) : Line :=
  (l.numbered f querySeq).1.accept (l.numbered f querySeq).2

/-- Whether the frame in transmission is a BEACON. -/
def Line.beaconLeaving (l : Line) : Bool :=
  l.sending && (match l.queue with
    | [] => false
    | h :: _ => h.isBeacon)

/-- Whether a frame is a BEACON. -/
def Frame.isBeacon (f : Frame) : Bool :=
  match f with
  | .beacon _ => true
  | _ => false

/-- A frame handed to the transmit queue (R189). -/
def Line.offer (l : Line) (f : Frame) (querySeq : Option Nat) : Line × Offer :=
  if f.isBeacon && l.queue.any QFrame.isBeacon then
    if l.beaconLeaving then ({ l with skipped := bump l.skipped }, .skipped)
    else
      ({ l with replaced := bump l.replaced }.dropFirst QFrame.isBeacon |>.enter f querySeq, .accepted)
  else if l.queue.length < 8 then (l.enter f querySeq, .accepted)
  else if l.lowestPriority < f.priority then
    ({ l with displaced := bump l.displaced }.dropFirst
      (fun q => q.frame.priority == l.lowestPriority) |>.enter f querySeq, .accepted)
  else ({ l with refused := bump l.refused }, .refused)

/-- A frame handed to the part's Line Controller, whose outcome the block that hands it does not read. -/
def offerFrame (s : State) (f : Frame) (querySeq : Option Nat) : State :=
  { s with line := (s.line.offer f querySeq).1 }

end Sys2Proof.Machine
end

