-- ==== Sys2Proof/Machine/Clock.lean ====
section
/-! DEFINITION. The Timebase's own operations (chapter 1): the count of local time, the correction terms, HOLDOVER,
steps and the tick schedule. -/

namespace Sys2Proof.Machine

/-! ### Intervals and periods -/

/-- The beacon interval in seconds (R11). -/
def beaconInterval (p : Profile) (shed : Nat) : Nat :=
  min 512 (4 * 2 ^ p.baseCode * (if shed = 0 then 1 else if shed ≤ 2 then 4 else 16))

/-- The sample rate in sets per second (R216). -/
def rateOf (code : Nat) : Nat :=
  match code with
  | 0 => 50
  | 1 => 100
  | _ => 200

/-- The tick period in microseconds (R22). -/
def tickPeriod (p : Profile) (shed : Nat) : Int :=
  if shed = 3 then 1000000 else ((1000000 / rateOf p.rateCode : Nat) : Int)

/-- The tick period now in force. -/
def State.period (s : State) : Int := tickPeriod s.profile s.bat.shed

/-! ### Local time and its corrections -/

/-- The applied correction c (R3). -/
def Timebase.correction (b : Timebase) : Int := clampInt (-150000) 150000 (b.steerF + b.p + b.tc)

/-- One nominal microsecond (R1, R2). -/
def Timebase.nominal (b : Timebase) : Timebase :=
  let sum := b.residual + b.correction
  if 1000000000 ≤ sum then { b with residual := sum - 1000000000, clock := addUs b.clock 2 }
  else if sum ≤ -1000000000 then { b with residual := sum + 1000000000 }
  else { b with residual := sum, clock := addUs b.clock 1 }

/-- The PI update with error `e` µs over `t` s (R19). -/
def Timebase.piUpdate (b : Timebase) (e t : Int) : Timebase :=
  { b with
    p := clampInt (-50000) 50000 (-((e * 1000).tdiv (4 * t)))
    steerF := clampInt (-100000) 100000 (b.steerF - (e * 1000).tdiv (16 * t)) }

/-- The offset between two points of the temperature table, the quotient truncated (R4). -/
def segmentOffset (y0 y1 t0 temp : Int) : Int := y0 + ((y1 - y0) * (temp - t0)).tdiv 200

/-- The oscillator offset at an enclosure temperature (R4). -/
def oscillatorOffset (p : Profile) (temp : Int) : Int :=
  if temp ≤ -400 then p.tempA
  else if temp < -200 then segmentOffset p.tempA p.tempB (-400) temp
  else if temp < 0 then segmentOffset p.tempB p.tempC (-200) temp
  else if temp < 200 then segmentOffset p.tempC p.tempD 0 temp
  else if temp < 400 then segmentOffset p.tempD p.tempE 200 temp
  else p.tempE

/-- tc formed from a good enclosure reading (R4). -/
def Timebase.formTc (b : Timebase) (p : Profile) (temp : Int) : Timebase :=
  { b with tc := clampInt (-50000) 50000 (-(oscillatorOffset p temp)) }

/-! ### HOLDOVER (R6) -/

/-- The grade of HOLDOVER from its entry values, the latest enclosure temperature and local time; held to the
range of R5 (log entry 36). -/
def holdoverGrade (h : Holdover) (enc : Option Int) (now : ArrayTime) : Nat :=
  let drift := match enc with
    | none => 0
    | some t => |t - h.temp| / 50
  (clampInt 1 14 ((h.grade : Int) + diffUs now h.time / 1000000 / 1024 + drift)).toNat

/-- The HOLDOVER grade formed anew, in HOLDOVER alone. -/
def reformGrade (s : State) : State :=
  match s.tb.state, s.tb.holdover with
  | .holdover, some h =>
    { s with tb := { s.tb with grade := holdoverGrade h s.sampler.latest.encTemp s.tb.clock } }
  | _, _ => s

/-- HOLDOVER entered with an entry grade, the entry values captured (R6). -/
def enterHoldover (s : State) (grade : Nat) : State :=
  let h : Holdover := ⟨if grade = 0 then 1 else grade, s.sampler.latest.encTemp.getD 0, s.tb.clock⟩
  { s with
    tb :=
      { s.tb with
        state := .holdover
        holdover := some h
        grade := holdoverGrade h s.sampler.latest.encTemp s.tb.clock } }

/-! ### Steps and ticks (R21, R22) -/

/-- The next tick time after a step: the least multiple of the period at or after the new local time, or the next
one if that is the last tick stamp (R22). -/
def tickAfterStep (period : Int) (now : ArrayTime) (last : Option ArrayTime) : ArrayTime :=
  let n := ofUs (multipleFrom period (usOf now))
  if last = some n then addUs n period else n

/-- A step of local time by a signed count of microseconds (R21), with what moves with it: the scheduled instant
(R11), the next tick (R22), the time of the last valid frame (R196) and the Record Memory's mark (R140). -/
def stepClock (s : State) (d : Int) : State :=
  let now := addUs s.tb.clock d
  { s with
    tb :=
      { s.tb with
        clock := now
        residual := 0
        p := 0
        stepped := true
        steps := bump s.tb.steps
        nextInstant := s.tb.nextInstant.map (fun t => addUs t d)
        nextTick := s.tb.nextTick.map (fun _ => tickAfterStep s.period now s.tb.lastTick) }
    rm := { s.rm with pendingStep := true }
    line := { s.line with lastValid := s.line.lastValid.map (· + diffUs now s.tb.clock) } }

/-- The tick schedule after the shed level has moved into or out of level 3 (R22). -/
def rescheduleTick (s : State) : State :=
  match s.tb.lastTick with
  | none => s
  | some t => { s with tb := { s.tb with nextTick := some (ofUs (multipleAfter s.period (usOf t))) } }

end Sys2Proof.Machine
end

