-- ==== Sys2Proof/Machine/Operands.lean ====
section
/-! DEFINITION. The byte forms of R216: codes, the CRC of R125, frames, record pages, care pages and snapshots,
Alert Reports, and the check of a heard frame (R194). -/

namespace Sys2Proof.Machine

/-! ### Multi-byte fields (R216) -/

/-- One byte of a natural number. -/
def byteOf (n : Nat) : Byte := BitVec.ofNat 8 n

/-- `k` bytes of a natural number, most significant first. -/
def beBytes (k n : Nat) : List Byte :=
  match k with
  | 0 => []
  | j + 1 => beBytes j (n / 256) ++ [byteOf n]

/-- `k` bytes of a signed number in two's complement. -/
def beInt (k : Nat) (x : Int) : List Byte := beBytes k (x % (256 ^ k : Nat)).toNat

/-- The number in big-endian bytes. -/
def ofBytes (bs : List Byte) : Nat := bs.foldl (fun acc b => acc * 256 + b.toNat) 0

/-- A 16-bit field as a signed number. -/
def signed16 (n : Nat) : Int := if n < 32768 then (n : Int) else (n : Int) - 65536

/-- An unsigned value, or all bytes 0xFF when absent. -/
def optBytes (k : Nat) (o : Option Nat) : List Byte :=
  match o with
  | none => List.replicate k erasedByte
  | some n => beBytes k n

/-- A signed 16-bit value, or −32,768 when absent. -/
def optInt16 (o : Option Int) : List Byte := beInt 2 (o.getD (-32768))

/-- An array time in seven bytes. -/
def timeBytes (t : ArrayTime) : List Byte := beBytes 4 t.sec ++ beBytes 3 t.us

/-- An array time, or seven bytes of 0xFF when absent. -/
def optTime (o : Option ArrayTime) : List Byte :=
  match o with
  | none => List.replicate 7 erasedByte
  | some t => timeBytes t

/-- The array time in seven bytes, whole. -/
def parseTime (bs : List Byte) : ArrayTime := ⟨ofBytes (bs.take 4), ofBytes ((bs.drop 4).take 3)⟩

/-- A key: its origin, then its time. -/
def keyBytes (k : Key) : List Byte := byteOf k.origin :: timeBytes k.time

/-- The bits of a list of flags, bit 0 the first. -/
def flagBits (fs : List Bool) : Nat :=
  match fs with
  | [] => 0
  | f :: rest => (if f then 1 else 0) + 2 * flagBits rest

/-- Flags packed eight to a byte, bit 0 the first of them. -/
def flagBytes (fs : List Bool) : List Byte :=
  (List.range ((fs.length + 7) / 8)).map (fun i => byteOf (flagBits ((fs.drop (8 * i)).take 8)))

/-! ### The CRC (R125) -/

/-- One bit of the CRC register's advance: polynomial 0x1021. -/
def crcShift (c : BitVec 16) : BitVec 16 := if c.msb then (c <<< 1) ^^^ 0x1021#16 else c <<< 1

/-- One byte taken into the CRC, most significant bit first. -/
def crcByte (c : BitVec 16) (b : Byte) : BitVec 16 :=
  let x := c ^^^ (b.setWidth 16 <<< 8)
  crcShift (crcShift (crcShift (crcShift (crcShift (crcShift (crcShift (crcShift x)))))))

/-- The CRC of a list of bytes: initial value 0xFFFF, no final inversion. -/
def crc16 (bs : List Byte) : Nat := (bs.foldl crcByte 0xFFFF#16).toNat

/-- The CRC in two bytes. -/
def crcBytes (bs : List Byte) : List Byte := beBytes 2 (crc16 bs)

/-! ### Codes (R216) -/

/-- Time state codes. -/
def TimeState.code (t : TimeState) : Nat :=
  match t with
  | .unset => 0
  | .anchored => 1
  | .following => 2
  | .consensus => 3
  | .holdover => 4

/-- The time state a code names, if it names one. -/
def timeStateOf (n : Nat) : Option TimeState :=
  match n with
  | 0 => some .unset
  | 1 => some .anchored
  | 2 => some .following
  | 3 => some .consensus
  | 4 => some .holdover
  | _ => none

/-- End cause codes. -/
def EndCause.code (c : EndCause) : Nat :=
  match c with
  | .normal => 0
  | .full => 1
  | .power => 2
  | .overrun => 3
  | .cut => 4
  | .torn => 5

/-- The end cause of a page header's two bits. -/
def endCauseOf (n : Nat) : EndCause :=
  match n with
  | 0 => .normal
  | 1 => .full
  | 2 => .power
  | _ => .overrun

/-- Snapshot cause codes. -/
def SnapCause.code (c : SnapCause) : Nat :=
  match c with
  | .schedule => 0
  | .shed => 1
  | .restart => 2

/-- Listen-only cause codes. -/
def ListenCause.code (c : ListenCause) : Nat :=
  match c with
  | .none => 0
  | .noDevice => 1
  | .badCheck => 2
  | .badIdentifier => 3

/-- Channel state codes. -/
def ChanState.code (c : ChanState) : Nat :=
  match c with
  | .off => 0
  | .settling => 1
  | .warmup => 2
  | .quiet => 3
  | .pending => 4
  | .triggered => 5
  | .ending => 6

/-- Last-trigger end codes. -/
def TriggerEnd.code (c : TriggerEnd) : Nat :=
  match c with
  | .normal => 0
  | .long => 1
  | .power => 2

/-- Hold codes. -/
def Hold.code (h : Hold) : Nat :=
  match h with
  | .loose => 0
  | .pending => 1
  | .held => 2
  | .released => 3

/-- Capture state codes. -/
def CapMode.code (m : CapMode) : Nat :=
  match m with
  | .idle => 0
  | .opened => 1
  | .closing => 2

/-- Engine operation codes: ERASE 0, PROGRAM 1, MARK 2. -/
def EngineOp.code (o : EngineOp) : Nat :=
  match o with
  | .careErase _ | .aheadErase _ | .wipeErase _ => 0
  | .careProgram _ _ _ | .recordProgram _ _ => 1
  | .mark _ => 2

/-- The page an operation acts on (R127). -/
def EngineOp.page (o : EngineOp) : Nat :=
  match o with
  | .careErase p | .aheadErase p | .wipeErase p => p
  | .careProgram p _ _ => p
  | .recordProgram p _ => p
  | .mark r => r.page

/-- Write permission codes. -/
def WritePerm.code (w : WritePerm) : Nat :=
  match w with
  | .absent => 0
  | .careOnly => 1
  | .full => 2

/-- Codes of the cause of the last forced off. -/
def ForcedCause.code (c : ForcedCause) : Nat :=
  match c with
  | .cutout => 0
  | .sensor => 1
  | .opened => 2
  | .maxOn => 3

/-- The interval code c of an interval of 4 × 2^c s (R188); 0 for an interval that no code names. -/
def intervalCode (s : Nat) : Nat :=
  ((List.range 8).find? (fun c => 4 * 2 ^ c == s)).getD 0

/-- The interval that a code of a BEACON names, if it names one (R28). -/
def intervalOf (code : Nat) : Option Nat := if code < 8 then some (4 * 2 ^ code) else none

/-! ### Frames (R187, R216) -/

/-- Frame kind codes. -/
def Frame.kindCode (f : Frame) : Nat :=
  match f with
  | .alert _ => 1
  | .pick _ _ _ => 2
  | .beacon _ => 3
  | .answer _ => 5

/-- A frame's payload; a BEACON takes its departure stamp from the moment of sending (R12). -/
def Frame.payload (f : Frame) (stamp : ArrayTime) : List Byte :=
  match f with
  | .alert a =>
    keyBytes a.key ++ [byteOf a.repeatNo, byteOf a.origins.length, byteOf a.best, byteOf a.amp] ++
      a.origins.map byteOf
  | .pick p east north =>
    byteOf p.seq :: timeBytes p.onset ++
      [byteOf p.grade, byteOf p.mask.mask, byteOf p.amp, byteOf (flagBits [p.stepped, p.clipped])] ++
      beInt 2 east ++ beInt 2 north
  | .beacon b =>
    timeBytes stamp ++
      [byteOf b.state.code, byteOf b.grade, byteOf b.code, byteOf b.shed, byteOf (flagBits [b.running])] ++
      beBytes 2 b.linePos ++ beInt 2 b.east ++ beInt 2 b.north ++ beBytes 2 b.soc ++ optInt16 b.temp
  | .answer a => [byteOf a.requester, byteOf a.code, byteOf a.result] ++ a.data

/-- The whole frame as it leaves the line driver: preamble, delimiter, header, payload and CRC. -/
def frameBytes (own : Nat) (q : QFrame) (stamp : ArrayTime) : List Byte :=
  let body := q.frame.payload stamp
  let checked := [byteOf q.frame.kindCode, byteOf own, byteOf q.seq, byteOf body.length] ++ body
  [0x55#8, 0x55#8, 0xB9#8] ++ checked ++ crcBytes checked

/-- How many bytes a frame has (R187). -/
def Frame.size (f : Frame) : Nat := 9 + (f.payload timeZero).length

/-- Bytes in their serial form (R118, R186): for each a start bit, the data bits with the least significant first, and a stop
bit; a start bit and a data bit 0 are false, the level of the stop bit and of a data bit 1 is true. -/
def serialLevels (bs : List Byte) : List Bool :=
  bs.flatMap (fun b => false :: ((List.range 8).map (fun i => b.getLsbD i) ++ [true]))

/-- The levels of a frame in transmission (R186): of a BEACON whose stamp is not taken yet, those of its preamble, the bit
times before its start delimiter. -/
def frameLevels (own : Nat) (q : QFrame) (stamp : Option ArrayTime) : List Bool :=
  match q.frame, stamp with
  | .beacon _, none => serialLevels [0x55#8, 0x55#8]
  | _, stamp => serialLevels (frameBytes own q (stamp.getD timeZero))

/-- Whether a length suits a kind (R194); an unknown kind is bounded by 96 alone. -/
def lengthSuits (kind len : Nat) : Bool :=
  len ≤ 96 &&
    match kind with
    | 1 => 13 ≤ len && len ≤ 28
    | 2 => len == 16
    | 3 => len == 22
    | 4 => 2 ≤ len && len ≤ 10
    | 5 => 3 ≤ len
    | _ => true

/-- Whether the receiver discards what it heard as a bad frame (R194). -/
def heardBad (f : HeardBytes) : Bool :=
  let kind := ((f.bytes[0]?).getD 0).toNat
  let len := ((f.bytes[3]?).getD 0).toNat
  let checked := f.bytes.take (4 + len)
  f.badStop || f.cutOff || f.bytes.length < 6 + len || !lengthSuits kind len ||
    ofBytes ((f.bytes.drop (4 + len)).take 2) != crc16 checked

/-! ### Stored sets and record pages (R124, R216) -/

/-- A word of a stored set: its 24-bit sample, then its flag byte. -/
def wordBytes (w : SetWord) : List Byte :=
  beInt 3 w.sample ++ [byteOf (flagBits [w.powered, w.settling, w.clipped, w.guard, w.stepped])]

/-- A stored set of 12 bytes: Z, N and E. -/
def setBytes (x : SampleSet) : List Byte := wordBytes x.words.z ++ wordBytes x.words.n ++ wordBytes x.words.e

/-- The channels powered in at least one set of a page (R124). -/
def pageMask (sets : List SampleSet) : Nat :=
  PerChan.mask (PerChan.ofFn (fun c => sets.any (fun x => (x.words.get c).powered)))

/-- The header's first 20 bytes: everything before the mark bytes. -/
def headerHead (recId own rate : Nat) (b : PageBuffer) : List Byte :=
  [0x52#8] ++ beBytes 4 recId ++ beBytes 2 b.idx ++
    timeBytes (match b.sets with
      | [] => timeZero
      | x :: _ => x.stamp) ++
    [byteOf b.sets.length, byteOf (pageMask b.sets), byteOf rate, byteOf own, byteOf b.grade,
      byteOf (flagBits [b.stepped, b.final.isSome] +
        16 * (match b.final with
          | none => 0
          | some c => c.code % 4))]

/-- The bytes that a record page's PROGRAM writes: the header with its mark bytes erased and its CRC, and the
sets; the places after the set count are left erased (R124, R125). -/
def recordPageBytes (recId own rate : Nat) (b : PageBuffer) : List Byte :=
  let head := headerHead recId own rate b
  let body := (b.sets.map setBytes).flatten
  let zeros := List.replicate 8 (0 : Byte)
  head ++ [erasedByte, erasedByte] ++ zeros ++ crcBytes (head ++ zeros ++ body) ++ body

/-! ### Care pages and snapshots (R163, R216) -/

/-- The care pages in the order they are used (R163). -/
def carePages : List Nat := [252, 253, 254, 255, 508, 509, 510, 511]

/-- The page of a place in the care order. -/
def carePage (i : Nat) : Nat := carePages.getD (i % 8) 252

/-- The header of a care page. -/
def careHeader (page : Nat) : List Byte :=
  let head := [0x43#8] ++ beBytes 2 page ++ List.replicate 27 (0 : Byte)
  head ++ crcBytes head

/-- The fields of a care snapshot (R163); the time state and the cause stand as their codes. -/
structure Snapshot where
  seq       : Nat
  time      : ArrayTime
  timeState : Nat
  q         : Nat
  capacity  : Nat
  exposure  : Nat
  below     : Bool
  shed      : Nat
  nextId    : Nat
  cause     : Nat
  deriving DecidableEq, Repr

/-- A snapshot in its 32 bytes. -/
def snapshotBytes (x : Snapshot) : List Byte :=
  let body := beBytes 4 x.seq ++ timeBytes x.time ++ [byteOf x.timeState] ++ beBytes 5 x.q ++
    beBytes 2 x.capacity ++ beBytes 4 x.exposure ++ [byteOf (flagBits [x.below]), byteOf x.shed] ++
    beBytes 4 x.nextId ++ [byteOf x.cause]
  body ++ crcBytes body

/-- The fields in a slot's 32 bytes. -/
def parseSnapshot (bs : List Byte) : Snapshot where
  seq := ofBytes (bs.take 4)
  time := parseTime (bs.drop 4)
  timeState := ofBytes ((bs.drop 11).take 1)
  q := ofBytes ((bs.drop 12).take 5)
  capacity := ofBytes ((bs.drop 17).take 2)
  exposure := ofBytes ((bs.drop 19).take 4)
  below := ofBytes ((bs.drop 23).take 1) % 2 == 1
  shed := ofBytes ((bs.drop 24).take 1)
  nextId := ofBytes ((bs.drop 25).take 4)
  cause := ofBytes ((bs.drop 29).take 1)

/-- Whether a slot's bytes are a valid snapshot (R167): not empty, CRC good, shed level 0 to 3. -/
def slotValid (bs : List Byte) : Bool :=
  bs.any (· != erasedByte) && ofBytes (bs.drop 30) == crc16 (bs.take 30) &&
    decide (ofBytes ((bs.drop 24).take 1) ≤ 3)

/-! ### Alert Reports (R117, R216) -/

/-- An Alert Report of 18 bytes; `kind` is 1 for OPENED and 2 for ENDED. -/
def reportBytes (kind own : Nat) (e : EventEntry) : List Byte :=
  let body := [byteOf kind] ++ keyBytes e.key ++
    [byteOf e.votes.length, byteOf e.declaredBy.length, byteOf e.best, byteOf e.amp, byteOf own]
  [0xA5#8, 0x4C#8] ++ body ++ crcBytes body

end Sys2Proof.Machine
end

