-- ==== Sys2Proof/Machine/Ring.lean ====
section
/-! DEFINITION. The pre-event ring (R52 to R54). -/

namespace Sys2Proof.Machine

/-- How many sets the ring holds at most (R52). -/
def ringSize : Nat := 4096

/-- The set a ring number names, if the ring holds it (R53). -/
def ringRead (m : Sampler) (num : Nat) : Option SampleSet :=
  m.ring[(m.nextSet + 4294967295 - num) % 4294967296]?

/-- The number of the oldest set, which the next write into a full ring displaces (R52). -/
def ringOldest (m : Sampler) : Nat := wrap32 (m.nextSet + 4294967296 - ringSize)

/-- A set written into the ring under the next number (R52). -/
def ringWrite (m : Sampler) (x : SampleSet) : Sampler :=
  { m with ring := x :: m.ring.take (ringSize - 1), nextSet := wrap32 (m.nextSet + 1) }

/-- How many sets the walk for a start set passes, from the newest back (R54): `after` is the stamp of the set
written after the one looked at. DESIGN CHOICE (log entry 61): the last set before a backward step is not passed, though it be
the oldest set held and its stamp at or after the start; R54's sentences differ there. -/
def ringWalk (start : Int) (after : Option Int) (sets : List SampleSet) : Nat :=
  match sets with
  | [] => 0
  | x :: rest =>
    let u := usOf x.stamp
    if u < start || (match after with
        | none => false
        | some a => decide (a ≤ u)) then 0
    else 1 + ringWalk start (some u) rest

/-- The start set of a requested time: its number, and the stamp it has (the requested time when the answer is the
next set to be written) (R54, R132). -/
def ringStart (m : Sampler) (start : Int) : Nat × ArrayTime :=
  let k := ringWalk start none m.ring
  (wrap32 (m.nextSet + 4294967296 - k),
    match k with
    | 0 => ofUs start
    | j + 1 => (m.ring[j]?).elim (ofUs start) SampleSet.stamp)

end Sys2Proof.Machine
end

