-- ==== Sys2Proof/Machine/RecordOps.lean ====
section
/-! DEFINITION. The Record Memory's operations (chapter 7): the page map and the directory, allocation and reclaiming,
the capture, holds, the programming engine and the completion of its operations. -/

namespace Sys2Proof.Machine

/-! ### Page map and directory -/

/-- The page-map entry of a page. -/
def State.kindOf (s : State) (page : Nat) : PageKind := s.rm.map.getD page .care

/-- A page-map entry replaced. -/
def setKind (s : State) (page : Nat) (k : PageKind) : State :=
  { s with rm := { s.rm with map := s.rm.map.set page k } }

/-- Whether a page counts as FREE (R123). -/
def PageKind.isFree (k : PageKind) : Bool :=
  match k with
  | .freeErased | .freeDirty => true
  | _ => false

/-- Whether a page belongs to a record. -/
def PageKind.isOwnedBy (k : PageKind) (id : Nat) : Bool :=
  match k with
  | .owned r _ _ => r == id
  | _ => false

/-- The pages from the allocation pointer on, wrapping from 511 to 0 (R135). -/
def pagesFrom (start : Nat) : List Nat := (List.range pageCount).map (fun i => (start + i) % pageCount)

/-- The next free page (R135). -/
def nextFree (s : State) : Option Nat := (pagesFrom s.rm.allocPtr).find? (fun p => (s.kindOf p).isFree)

/-- A directory entry by its identifier. -/
def dirFind (s : State) (id : Nat) : Option DirEntry := s.rm.dir.find? (·.id == id)

/-- The entry of an identifier changed. -/
def dirUpdate (s : State) (id : Nat) (f : DirEntry → DirEntry) : State :=
  { s with rm := { s.rm with dir := s.rm.dir.map (fun e => if e.id == id then f e else e) } }

/-- The entry of an identifier removed. -/
def dirRemove (s : State) (id : Nat) : State :=
  { s with rm := { s.rm with dir := s.rm.dir.filter (fun e => e.id != id) } }

/-- Every page of a record becomes FREE-DIRTY. -/
def freePages (s : State) (id : Nat) : State :=
  { s with rm := { s.rm with map := s.rm.map.map (fun k => if k.isOwnedBy id then .freeDirty else k) } }

/-- A page returned by a closing capture: FREE-DIRTY, and its record's page count falls by one (R139). -/
def returnPage (s : State) (id page : Nat) : State :=
  dirUpdate (setKind s page .freeDirty) id (fun e => { e with pages := e.pages - 1 })

/-- Whether an ERASE of a page is requested or in flight (R135). -/
def eraseAsked (s : State) (page : Nat) : Bool :=
  s.rm.eraseAhead == some page || s.rm.wipeList.contains page ||
    (match s.rm.flight with
      | some (.aheadErase p) => p == page
      | some (.wipeErase p) => p == page
      | _ => false)

/-- The capture's look at the next free page for its erase-ahead (R135); class 4 holds at most one (R128). DESIGN CHOICE (log
entry 49): a look that finds class 4 holding another page's request is dropped, and the capture looks again when an
erase-ahead completes and when an allocation waits. -/
def lookAhead (s : State) : State :=
  match nextFree s with
  | none => s
  | some p =>
    if s.kindOf p = .freeDirty && s.rm.eraseAhead.isNone && !eraseAsked s p then
      { s with rm := { s.rm with eraseAhead := some p } }
    else s

/-- Whether a record can be reclaimed (R136). -/
def DirEntry.reclaimable (e : DirEntry) : Bool := e.closed && (e.hold == .loose || e.hold == .released)

/-- One record reclaimed, if one can be (R136), and the look at the next free page that follows (R135). -/
def reclaim (s : State) : Option State :=
  match s.rm.dir.find? DirEntry.reclaimable with
  | none => none
  | some e =>
    let s := dirRemove (freePages s e.id) e.id
    some (lookAhead { s with rm := { s.rm with reclaimed := bump s.rm.reclaimed } })

/-! ### Allocation (R135) -/

/-- The outcome of an allocation. -/
inductive Alloc where
  | got (s : State) (page : Nat)
  | wait (s : State)
  | fail (s : State)

/-- An erased page given to a record under a page index, and the look ahead that follows. -/
def takePage (s : State) (page id idx : Nat) : State :=
  let s := setKind s page (.owned id idx false)
  let s := dirUpdate s id (fun e =>
    { e with pages := e.pages + 1, firstPage := if e.firstPage.isNone then some page else e.firstPage })
  lookAhead { s with rm := { s.rm with allocPtr := (page + 1) % pageCount } }

/-- A look for a page for a record (R135): the next free page if it is erased, a wait if it is dirty, and what follows
where there is none. An allocation that waits looks for its erase-ahead again (log entry 49). -/
def allocateOr (orElse : State → Alloc) (s : State) (id idx : Nat) : Alloc :=
  match nextFree s with
  | some p => if s.kindOf p = .freeErased then .got (takePage s p id idx) p else .wait (lookAhead s)
  | none => orElse s

/-- A page allocated for a record (R135); where there is none, a reclaim and another look (R136). -/
def allocate (fuel : Nat) (s : State) (id idx : Nat) : Alloc :=
  match fuel with
  | 0 => allocateOr .fail s id idx
  | k + 1 =>
    allocateOr (fun s =>
      match reclaim s with
      | none => .fail s
      | some t => allocate k t id idx) s id idx

/-! ### Closing a record (R137 to R139) -/

/-- The capture replaced. -/
def setCap (s : State) (c : Capture) : State := { s with rm := { s.rm with cap := c } }

/-- The counter of a closing's cause (R137, R138). -/
def countClose (s : State) (cause : EndCause) : State :=
  match cause with
  | .full => { s with rm := { s.rm with closedFull := bump s.rm.closedFull } }
  | .power => { s with rm := { s.rm with closedPower := bump s.rm.closedPower } }
  | .overrun => { s with rm := { s.rm with closedOverrun := bump s.rm.closedOverrun } }
  | _ => s

/-- A record that took no set leaves the directory, and the refusal is counted (R137). -/
def dropRecord (s : State) (id : Nat) : State :=
  let s := dirRemove s id
  { s with rm := { s.rm with refused := bump s.rm.refused } }

/-- A record becomes CLOSED with its end cause (R139). -/
def markClosed (s : State) (id : Nat) (cause : EndCause) : State :=
  dirUpdate s id (fun e => { e with closed := true, endCause := some cause })

/-- The buffer is free: the capture becomes OPEN for a waiting record, or IDLE (R139). -/
def captureFreed (s : State) : State :=
  let c := s.rm.cap
  match c.waiting with
  | some w => setCap s { c with mode := .opened, recId := some w, waiting := none, buf := PageBuffer.empty }
  | none => setCap s Capture.reset

/-- The capture CLOSING for its record, with a buffer; what belongs to an open record lapses. -/
def captureClosing (s : State) (b : PageBuffer) : State :=
  setCap s { s.rm.cap with
    mode := .closing, readPos := none, endTime := none, awaiting := false, buf := b }

/-- Whether the engine has a record-page PROGRAM in flight. -/
def State.programInFlight (s : State) : Bool :=
  match s.rm.flight with
  | some (.recordProgram _ _) => true
  | _ => false

/-- A page given back if there is one. -/
def returnIf (s : State) (id : Nat) (page : Option Nat) : State :=
  match page with
  | none => s
  | some p => returnPage s id p

/-- The record of an OPEN capture closes with a cause (R137, R138); its last page is formed by R139. -/
def closeRecord (s : State) (cause : EndCause) : State :=
  let s := countClose s cause
  let c := s.rm.cap
  let b := c.buf
  match c.recId with
  | none => s
  | some id =>
    if b.busy then
      if s.programInFlight then
        captureClosing s { b with tail := some ⟨c.readPos.getD 0, cause⟩ }
      else
        captureClosing (returnIf s id b.next) { b with final := some cause, next := none }
    else if b.sets.isEmpty then
      if c.taken = 0 then captureFreed (dropRecord (returnIf s id b.page) id)
      else captureFreed (markClosed (returnIf s id b.page) id cause)
    else
      let s := captureClosing s { b with final := some cause, busy := true }
      { s with rm := { s.rm with programReq := true } }

/-- Whether the capture's record is open: OPEN, or CLOSING with a new record waiting. -/
def Capture.isOpen (c : Capture) : Bool := c.mode == .opened || (c.mode == .closing && c.waiting.isSome)

/-- A waiting record closes before it has taken a set: it is removed, and the capture stays CLOSING (R138). -/
def dropWaiting (s : State) : State :=
  match s.rm.cap.waiting with
  | none => s
  | some w =>
    let s := dropRecord s w
    setCap s { s.rm.cap with waiting := none, readPos := none, endTime := none, awaiting := false }

/-- The capture's record closes at once, with a cause (R138). -/
def closeAtOnce (s : State) (cause : EndCause) : State :=
  if s.rm.cap.mode = .opened then closeRecord s cause
  else if s.rm.cap.isOpen then dropWaiting (countClose s cause)
  else s

/-- The Sampler announces the number of the set about to be displaced (R52, R138). -/
def announceDisplaced (s : State) (num : Nat) : State :=
  if s.rm.cap.isOpen && s.rm.cap.readPos == some num then
    closeAtOnce s (if s.bat.permission = .absent then .power else .overrun)
  else s

/-! ### Taking sets (R134) -/

/-- A set placed in the page buffer, beginning the page if the buffer is empty (R134, steps 3 and 4; R140). -/
def bufferSet (s : State) (id : Nat) (x : SampleSet) : State :=
  let c := s.rm.cap
  let b := c.buf
  let fresh := b.sets.isEmpty
  let b' := { b with
    sets := b.sets ++ [x]
    grade := if fresh then s.tb.grade else b.grade
    stepped := (if fresh then s.rm.pendingStep else b.stepped) || x.words.z.stepped }
  let s := dirUpdate s id (fun e => { e with lastSet := some x.stamp })
  { s with
    rm :=
      { s.rm with
        pendingStep := if fresh then false else s.rm.pendingStep
        cap := { c with buf := b', readPos := c.readPos.map (fun n => wrap32 (n + 1)), taken := c.taken + 1 } } }

/-- The count of sets at which a record closes (R134). -/
def recordLimit (p : Profile) : Nat := p.recordMaxS * rateOf p.rateCode

/-- The next ring set stored; the record closes NORMAL when its count is reached (R134, R137). -/
def storeSet (s : State) (id : Nat) (x : SampleSet) : State :=
  let s := bufferSet s id x
  if recordLimit s.profile ≤ s.rm.cap.taken then closeRecord s .normal else s

/-- Whether a set lies after the capture's end time. -/
def pastEnd (s : State) (x : SampleSet) : Bool :=
  match s.rm.cap.endTime with
  | none => false
  | some t => decide (usOf t < usOf x.stamp)

/-- Whether the page in the buffer is to be committed, given the set that follows it (R134). -/
def commitDue (s : State) (x : SampleSet) : Bool :=
  let sets := s.rm.cap.buf.sets
  decide (168 ≤ sets.length) ||
    (match sets.getLast? with
      | none => false
      | some y => x.stamp != addUs y.stamp (tickPeriod s.profile 0))

/-- What a step of the capture is about to do with the set at its read position. -/
inductive CaptureMove where
  /-- nothing: no OPEN capture, a busy buffer, or no such set in the ring -/
  | rest
  /-- a page is allocated for the empty buffer (R134, step 1) -/
  | firstPage (id : Nat)
  /-- the record closes NORMAL at its end time (R134, step 2) -/
  | finish
  /-- the page is committed: the next one is allocated and a PROGRAM requested -/
  | commit (id : Nat)
  /-- the set is stored -/
  | take (id : Nat) (x : SampleSet)

/-- The next move of the capture (R134). -/
def captureMove (s : State) : CaptureMove :=
  let c := s.rm.cap
  if c.mode != .opened || c.buf.busy then .rest
  else
    match c.recId, c.readPos.bind (ringRead s.sampler) with
    | some id, some x =>
      if c.buf.sets.isEmpty then
        if c.buf.page.isNone then .firstPage id
        else if c.taken == 0 && pastEnd s x then .finish
        else .take id x
      else if pastEnd s x then .finish
      else if commitDue s x then .commit id
      else .take id x
    | _, _ => .rest

/-- A page allocated for a record, after as many reclaims as it takes (R135, R136): each takes a record from the directory. -/
def allocatePage (s : State) (id idx : Nat) : Alloc := allocate s.rm.dir.length s id idx

/-- One move of the capture, and whether it may go on at once: it rests where it has no move, and where an allocation waits. -/
def captureStep (s : State) : State × Bool :=
  let c := s.rm.cap
  match captureMove s with
  | .rest => (s, false)
  | .firstPage id =>
    match allocatePage s id c.buf.idx with
    | .got s p => (setCap s { s.rm.cap with buf := { s.rm.cap.buf with page := some p } }, true)
    | .wait s => (s, false)
    | .fail s => (closeRecord s .full, true)
  | .finish => (closeRecord s .normal, true)
  | .commit id =>
    match allocatePage s id (c.buf.idx + 1) with
    | .got s p =>
      let s := setCap s { s.rm.cap with buf := { s.rm.cap.buf with next := some p, busy := true } }
      ({ s with rm := { s.rm with programReq := true } }, true)
    | .wait s => (s, false)
    | .fail s => (closeRecord s .full, true)
  | .take id x => (storeSet s id x, true)

/-- The capture's moves taken until it rests (R134); `fuel` bounds their number. -/
def captureRun (fuel : Nat) (s : State) : State :=
  match fuel with
  | 0 => s
  | k + 1 => if (captureStep s).2 then captureRun k (captureStep s).1 else (captureStep s).1

/-- More moves than two pages can need: each its allocation, its 168 sets and its commit or close. -/
def captureFuel : Nat := 400

/-- The capture's taking of sets (R134). -/
def captureTake (s : State) : State := captureRun captureFuel s

/-! ### Picks and trigger ends (R132, R133) -/

/-- Whether the pool holds a FREE page, after at most one reclaim; none where nothing can be reclaimed. -/
def pageRoom (s : State) : Option State := if (nextFree s).isSome then some s else reclaim s

/-- Whether the directory has room, after at most one reclaim. -/
def directoryRoom (s : State) : Option State := if s.rm.dir.length < 64 then some s else reclaim s

/-- The refusal of a capture (R132). -/
def captureRefused (s : State) : State := { s with rm := { s.rm with refused := bump s.rm.refused } }

/-- The entry, start set and marks of a capture that starts (R132, steps 4 to 6). -/
def captureBegin (s : State) (onset : ArrayTime) : State :=
  let id := s.rm.nextId
  let start := usOf onset - (s.profile.preS : Int) * 1000000
  let (num, stamp) := ringStart s.sampler start
  let entry : DirEntry := ⟨id, false, .loose, none, 0, stamp, none, none, none⟩
  let c := s.rm.cap
  let c' := if c.mode = .closing then { c with waiting := some id }
    else { c with mode := .opened, recId := some id, waiting := none, buf := PageBuffer.empty }
  let s := { s with
    rm :=
      { s.rm with
        dir := s.rm.dir ++ [entry]
        nextId := id + 1
        started := bump s.rm.started
        cap := { c' with readPos := some num, endTime := none, awaiting := true, taken := 0 } } }
  captureTake (lookAhead s)

/-- A station pick at the Record Memory (R132, R133). -/
def capturePick (s : State) (onset : ArrayTime) : State :=
  if s.rm.cap.isOpen then setCap s { s.rm.cap with endTime := none, awaiting := true }
  else if s.rm.wiping || s.rm.nextId == 4294967295 then captureRefused s
  else
    match directoryRoom s with
    | none => captureRefused s
    | some s =>
      match pageRoom s with
      | none => captureRefused s
      | some s => captureBegin s onset

/-- The end of a station trigger at the Record Memory (R133). -/
def captureTriggerEnd (s : State) (stamp : ArrayTime) : State :=
  if s.rm.cap.awaiting then
    setCap s { s.rm.cap with
      endTime := some (addUs stamp ((s.profile.postS : Int) * 1000000)), awaiting := false }
  else s

/-! ### Holds (R141, R142) -/

/-- Whether a time lies in a record's span (R141): an OPEN record's span has no end. -/
def DirEntry.contains (e : DirEntry) (u : Int) : Bool :=
  decide (usOf e.firstSet ≤ u) &&
    (!e.closed || (match e.lastSet with
      | none => false
      | some l => decide (u ≤ usOf l)))

/-- Whether a record's span overlaps a request's span (R141). -/
def DirEntry.overlaps (e : DirEntry) (lo hi : Int) : Bool :=
  decide (usOf e.firstSet ≤ hi) &&
    (!e.closed || (match e.lastSet with
      | none => false
      | some l => decide (lo ≤ usOf l)))

/-- A hold request (R119): the event's key, its span in microseconds, and the pick times that joined. -/
structure HoldReq where
  key   : Key
  lo    : Int
  hi    : Int
  picks : List ArrayTime
  deriving DecidableEq, Repr

/-- Whether a request names a record (R141). -/
def HoldReq.names (r : HoldReq) (e : DirEntry) : Bool :=
  e.overlaps r.lo r.hi || r.picks.any (fun t => e.contains (usOf t))

/-- Whether a page of a record has been programmed. -/
def State.pageProgrammed (s : State) (page : Nat) : Bool :=
  match s.kindOf page with
  | .owned _ _ done => done
  | _ => false

/-- The MARK that a named LOOSE record asks for, if its first page is programmed (R141). -/
def holdMark (s : State) (e : DirEntry) : List MarkReq :=
  match e.firstPage with
  | none => []
  | some p => if s.pageProgrammed p then [⟨e.id, p, 0⟩] else []

/-- A hold request acted on (R141). -/
def holdApply (s : State) (r : HoldReq) : State :=
  { s with
    rm :=
      { s.rm with
        dir := s.rm.dir.map (fun e =>
          if r.names e then
            { e with
              hold := if e.hold = .loose then .pending else e.hold
              eventRef := if e.eventRef.isNone then some r.key else e.eventRef }
          else e)
        marks := s.rm.marks ++
          (s.rm.dir.filter (fun e => r.names e && e.hold == .loose)).flatMap (holdMark s) } }

/-- The answer to a hold request: the record the Event Table stores, if any (R119, R141): the named one that contains a
carried pick time, else the least named one; RELEASED records are left out. DESIGN CHOICE (log entry 52): of several that
contain a carried pick time it is the least. -/
def holdAnswer (s : State) (r : HoldReq) : Option Nat :=
  let named := s.rm.dir.filter (fun e => r.names e && e.hold != .released)
  match named.find? (fun e => r.picks.any (fun t => e.contains (usOf t))) with
  | some e => some e.id
  | none => (named.head?).map DirEntry.id

/-! ### The engine (R127 to R130) -/

/-- Whether write permission lets the engine start a care snapshot (R160). -/
def State.careAllowed (s : State) : Bool := s.bat.permission != .absent

/-- Whether write permission lets the engine start any request (R160). -/
def State.writeAllowed (s : State) : Bool := s.bat.permission == .full

/-- The placed care request started, if one waits (R128, class 1; R130). -/
def startCare (s : State) : Option State :=
  match s.bat.placed with
  | none => none
  | some r =>
    match r.stage with
    | .needErase =>
      some { s with
        bat := { s.bat with placed := some { r with stage := .erasing } }
        rm := { s.rm with flight := some (.careErase r.page) } }
    | .needProgram =>
      some { s with
        bat := { s.bat with placed := some { r with stage := .programming } }
        rm := { s.rm with flight := some (.careProgram r.page r.offset r.bytes) } }
    | _ => none

/-- The oldest waiting MARK started (class 2). -/
def startMark (s : State) : Option State :=
  match s.rm.marks with
  | [] => none
  | m :: rest => some { s with rm := { s.rm with flight := some (.mark m), marks := rest } }

/-- The capture program started (class 3). -/
def startProgram (s : State) : Option State :=
  match s.rm.programReq, s.rm.cap.recId, s.rm.cap.buf.page with
  | true, some id, some p =>
    some { s with
      rm :=
        { s.rm with
          programReq := false
          flight := some (.recordProgram p
            (recordPageBytes id (s.ownId.getD 0) s.profile.rateCode s.rm.cap.buf)) } }
  | _, _, _ => none

/-- The erase-ahead started (class 4), if its page is still FREE-DIRTY (R128). -/
def startAhead (s : State) : Option State :=
  match s.rm.eraseAhead with
  | none => none
  | some p =>
    if s.kindOf p = .freeDirty then
      some { s with rm := { s.rm with eraseAhead := none, flight := some (.aheadErase p) } }
    else none

/-- The lowest waiting wipe erase started (class 5). -/
def startWipe (s : State) : Option State :=
  match s.rm.wipeList with
  | [] => none
  | p :: rest => some { s with rm := { s.rm with flight := some (.wipeErase p), wipeList := rest } }

/-- The first eligible waiting request started (R128, R129). -/
def startFirst (s : State) : Option State :=
  match (if s.careAllowed then startCare s else none) with
  | some s => some s
  | none =>
    if s.writeAllowed then
      (startMark s).or <| (startProgram s).or <| (startAhead s).or (startWipe s)
    else none

/-- The phases in which the engine chooses an operation: not while the part is stopped, nor between a RESTART
snapshot and its start (R149, R215). -/
def Phase.engineRuns (p : Phase) : Bool :=
  match p with
  | .restarting | .brownOut => false
  | _ => true

/-- The engine's choice: when it is idle, it starts the first eligible request (R128). -/
def engineKick (s : State) : State :=
  if s.rm.flight.isSome || !s.phase.engineRuns then s else (startFirst s).getD s

/-! ### Completions -/

/-- The engine idle again. -/
def clearFlight (s : State) : State := { s with rm := { s.rm with flight := none } }

/-- A record's first page is in memory: a HOLD-PENDING record asks for its MARK (R142). -/
def markIfPending (s : State) (id page : Nat) : State :=
  match dirFind s id with
  | none => s
  | some e =>
    if e.hold = .pending then { s with rm := { s.rm with marks := s.rm.marks ++ [⟨id, page, 0⟩] } } else s

/-- A page-map entry marked programmed. -/
def setProgrammed (s : State) (page : Nat) : State :=
  match s.kindOf page with
  | .owned id idx _ =>
    let s := setKind s page (.owned id idx true)
    if idx = 0 then markIfPending s id page else s
  | _ => s

/-- The set at the read position as a final page of one set (R139, third case). -/
def tailPage (s : State) (id : Nat) (b : PageBuffer) (x : SampleSet) (cause : EndCause) : State :=
  let s := dirUpdate s id (fun e => { e with lastSet := some x.stamp })
  { s with
    rm :=
      { s.rm with
        pendingStep := false
        programReq := true
        cap :=
          { s.rm.cap with
            buf := { b with
              sets := [x], grade := s.tb.grade, stepped := s.rm.pendingStep || x.words.z.stepped,
              final := some cause, busy := true, tail := none } } } }

/-- The capture after the PROGRAM of the page in its buffer has completed (R134, R139). -/
def capturePageDone (s : State) : State :=
  let c := s.rm.cap
  let b := c.buf
  match c.recId with
  | none => s
  | some id =>
    match b.final with
    | some cause => captureTake (captureFreed (markClosed s id cause))
    | none =>
      let b' : PageBuffer := { PageBuffer.empty with page := b.next, idx := b.idx + 1 }
      match b.tail with
      | none => captureTake (setCap s { c with buf := b' })
      | some t =>
        match ringRead s.sampler t.num with
        | some x => tailPage s id b' x t.cause
        | none => captureTake (captureFreed (markClosed (returnIf s id b.next) id t.cause))

/-- A record-page PROGRAM completes (R139, R142). -/
def recordProgramDone (s : State) (page : Nat) (bytes : List Byte) : State :=
  let s := clearFlight { s with mem := memProgram s.mem (pageBase page) bytes }
  capturePageDone (setProgrammed s page)

/-- A pool page erased becomes FREE-ERASED (R123). -/
def poolErased (s : State) (page : Nat) : State :=
  let s := clearFlight { s with mem := memErase s.mem page }
  if s.kindOf page = .freeDirty then setKind s page .freeErased else s

/-- A wipe erase completes; the last one ends the wipe (R145). -/
def wipeErased (s : State) (page : Nat) : State :=
  let s := poolErased s page
  if s.rm.wipeList = [] then { s with rm := { s.rm with wiping := false } } else s

/-- A care page's ERASE completes: the request goes on to its PROGRAM (R130). -/
def careErased (s : State) (page : Nat) : State :=
  let s := clearFlight { s with mem := memErase s.mem page }
  match s.bat.placed with
  | none => s
  | some r => { s with bat := { s.bat with placed := some { r with stage := .needProgram } } }

/-- The place of a mark byte (R216). -/
def markAddress (m : MarkReq) : Nat := pageBase m.page + 20 + m.which

/-- A MARK completes: the record's hold becomes HELD or RELEASED (R142, R143). -/
def markDone (s : State) (m : MarkReq) : State :=
  let s := clearFlight { s with mem := memProgram s.mem (markAddress m) [0] }
  dirUpdate s m.recId (fun e => { e with hold := if m.which = 0 then .held else .released })

end Sys2Proof.Machine
end

