-- ==== Sys2Proof/Machine/EventOps.lean ====
section
/-! DEFINITION. The Event Table's operations (chapter 6): places, declarations, attachments, received ALERTs, repeats, the
end of an event, the ALERT line, Alert Reports and hold requests. -/

namespace Sys2Proof.Machine

/-! ### Entries -/

/-- The own identifier as a number; 0 when the part has none. -/
def State.own (s : State) : Nat := s.ownId.getD 0

/-- An entry by its serial. -/
def eventFind (s : State) (serial : Nat) : Option EventEntry := s.events.entries.find? (·.serial == serial)

/-- The entry of a serial changed. -/
def eventUpdate (s : State) (serial : Nat) (f : EventEntry → EventEntry) : State :=
  { s with
    events := { s.events with entries := s.events.entries.map (fun e => if e.serial == serial then f e else e) } }

/-- The ALERT line formed again (R116). -/
def formAlertLine (s : State) : State :=
  { s with
    events :=
      { s.events with
        alertLine := s.events.entries.any (fun e =>
          e.active && decide (s.profile.confirmCount ≤ e.declaredBy.length)) } }

/-- Origins appended to a vote set in order, those already in it passed over, up to 24 (R106, R111). -/
def appendVotes (votes new : List Nat) : List Nat :=
  match new with
  | [] => votes
  | o :: rest =>
    if votes.contains o || 24 ≤ votes.length then appendVotes votes rest else appendVotes (votes ++ [o]) rest

/-- Whether a key comes before another in the order of EVENT queries (R104). -/
def keyBefore (a b : Key) : Bool :=
  usOf a.time < usOf b.time || (usOf a.time == usOf b.time && a.origin < b.origin)

/-- The first entry in key order among those that satisfy a test. -/
def firstByKey (p : EventEntry → Bool) (es : List EventEntry) : Option EventEntry :=
  match es with
  | [] => none
  | e :: rest =>
    match firstByKey p rest with
    | none => if p e then some e else none
    | some f => if p e && !keyBefore f.key e.key then some e else some f

/-- Room for a new entry (R107): a free place, or that of the ENDED entry first in key order. -/
def eventRoom (s : State) : Option State :=
  if s.events.entries.length < 8 then some s
  else
    match firstByKey (fun e => !e.active) s.events.entries with
    | none => none
    | some old =>
      some { s with
        events := { s.events with entries := s.events.entries.filter (fun e => e.serial != old.serial) } }

/-- A new entry under the next serial. -/
def eventAdd (s : State) (e : EventEntry) : State :=
  { s with
    events :=
      { s.events with
        entries := s.events.entries ++ [{ e with serial := s.events.nextSerial }]
        nextSerial := s.events.nextSerial + 1 } }

/-! ### Reports (R117, R118) -/

/-- An Alert Report joins the uplink port's queue, or is taken at once by an idle port; `kind` is 1 for OPENED and
2 for ENDED (R117, R118; log entry 20). -/
def queueReport (s : State) (kind : Nat) (e : EventEntry) : State :=
  if !s.profile.uplinkRole then s
  else
    let r := reportBytes kind s.own e
    if s.events.sending.isNone then { s with events := { s.events with sending := some r, sentUs := 0 } }
    else if s.events.uplink.length < 16 then { s with events := { s.events with uplink := s.events.uplink ++ [r] } }
    else { s with events := { s.events with uplinkDropped := bump s.events.uplinkDropped } }

/-- A report about the entry of a serial as it stands. -/
def reportOf (s : State) (kind serial : Nat) : State :=
  match eventFind s serial with
  | none => s
  | some e => queueReport s kind e

/-! ### ALERT frames (R113, R114) -/

/-- The ALERT frame of an entry as it stands (R113). -/
def alertContent (p : Profile) (e : EventEntry) : AlertContent :=
  ⟨e.serial, e.key, p.alertRepeats - e.repeatsLeft, e.best, e.amp, e.votes.take 16⟩

/-- The completion of an ALERT frame (R113, R114). -/
def alertDone (s : State) (serial : Nat) (failed : Bool) : State :=
  let s := if failed then { s with events := { s.events with sendFailed := bump s.events.sendFailed } } else s
  eventUpdate s serial (fun e =>
    if e.active && decide (0 < e.repeatsLeft) then { e with repeatDue := some (addUs s.tb.clock 2000000) } else e)

/-- The next ALERT frame of an entry handed to the Line Controller; a refusal is reported at once. -/
def handAlert (s : State) (serial : Nat) : State :=
  match eventFind s serial with
  | none => s
  | some e =>
    let r := s.line.offer (.alert (alertContent s.profile e)) none
    let s := { s with line := r.1 }
    if r.2 = .refused then alertDone s serial true else s

/-- The first frame of a local declaration (R105, step 3). -/
def startAlerts (s : State) (serial : Nat) : State :=
  handAlert (eventUpdate s serial (fun e =>
    { e with repeatsLeft := s.profile.alertRepeats - 1, repeatDue := none })) serial

/-! ### Hold requests (R119) -/

/-- The hold request of an entry, with the pick times that joined. -/
def holdReq (p : Profile) (e : EventEntry) (picks : List ArrayTime) : HoldReq :=
  ⟨e.key, usOf e.key.time - 5000000, usOf e.key.time + (p.window : Int) * 1000000, picks⟩

/-- A hold request made, and its answer stored in the entry if that names no record yet (R119). -/
def requestHold (s : State) (serial : Nat) (picks : List ArrayTime) : State :=
  match eventFind s serial with
  | none => s
  | some e =>
    let r := holdReq s.profile e picks
    let answer := holdAnswer s r
    eventUpdate (holdApply s r) serial (fun e =>
      { e with recordId := if e.recordId.isNone then answer else e.recordId })

/-! ### Local declaration (R105, R106) -/

/-- A declaration (R96), with the pick times of its own-origin members (R119). -/
structure Declaration where
  key      : Key
  votes    : List Nat
  kNeeded  : Nat
  best     : Nat
  amp      : Nat
  position : Int × Int
  ownPicks : List ArrayTime
  deriving DecidableEq, Repr

/-- The entry that a declaration creates (R105). -/
def declaredEntry (s : State) (d : Declaration) : EventEntry where
  serial := s.events.nextSerial
  key := d.key
  active := true
  votes := d.votes
  declaredBy := [s.own]
  localDecl := true
  kNeeded := some d.kNeeded
  best := d.best
  amp := d.amp
  position := some d.position
  recordId := none
  lastActivity := s.tb.clock
  repeatsLeft := 0
  repeatDue := none

/-- The four acts that follow the creation of an entry by a declaration (R105). -/
def openDeclared (s : State) (d : Declaration) : State :=
  let serial := s.events.nextSerial
  let s := formAlertLine (eventAdd s (declaredEntry s d))
  requestHold (startAlerts (reportOf s 1 serial) serial) serial d.ownPicks

/-- A declaration completes an ACTIVE entry of the same key (R106). DESIGN CHOICE (log entry 47): the own identifier is added
also to a declared-by list of 25 others. -/
def completeDeclared (s : State) (d : Declaration) (serial : Nat) : State :=
  let s := eventUpdate s serial (fun e =>
    { e with
      localDecl := true
      declaredBy := if e.declaredBy.contains s.own then e.declaredBy else e.declaredBy ++ [s.own]
      votes := appendVotes e.votes d.votes
      best := min e.best d.best
      amp := max e.amp d.amp
      kNeeded := some d.kNeeded
      position := some d.position
      lastActivity := s.tb.clock })
  requestHold (startAlerts (formAlertLine s) serial) serial d.ownPicks

/-- A declaration at the Event Table, and whether it is accepted (R105 to R107). -/
def declareEvent (s : State) (d : Declaration) : State × Bool :=
  match s.events.entries.find? (fun e => e.key == d.key) with
  | some e =>
    if e.active then (completeDeclared s d e.serial, true)
    else
      (openDeclared { s with
        events := { s.events with entries := s.events.entries.filter (fun x => x.serial != e.serial) } } d, true)
  | none =>
    match eventRoom s with
    | some s => (openDeclared s d, true)
    | none => ({ s with events := { s.events with declRefused := bump s.events.declRefused } }, false)

/-! ### Votes by attachment (R108) -/

/-- A pick attached to an ACTIVE event. -/
def attachVote (s : State) (serial : Nat) (p : PickEntry) : State :=
  let s := eventUpdate s serial (fun e =>
    { e with
      votes := e.votes ++ [p.origin]
      best := min e.best p.grade
      amp := max e.amp p.amp
      lastActivity := s.tb.clock })
  requestHold s serial (if s.ownId = some p.origin then [p.time] else [])

/-! ### Received ALERT frames (R109 to R112) -/

/-- The checks on a delivered ALERT (R109). -/
def alertGood (sender : Nat) (a : AlertPayload) : Bool :=
  let ids := a.origins.map BitVec.toNat
  !(240 ≤ sender && sender ≤ 254) && decide (1 ≤ a.keyOrigin.toNat) && decide (a.keyOrigin.toNat ≤ 239) &&
    decide (a.keyTime.us.toNat ≤ 999999) && decide (1 ≤ a.repeatNo.toNat) && decide (a.repeatNo.toNat ≤ 4) &&
    decide (1 ≤ a.count.toNat) && decide (a.count.toNat ≤ 16) && ids.length == a.count.toNat &&
    ids.all (fun o => 1 ≤ o && o ≤ 239) && decide ids.Nodup && decide (a.best.toNat ≤ 15) &&
    decide (a.amp.toNat ≤ 23)

/-- The distance of an entry's key time from an ALERT's (R110). -/
def keyDistance (e : EventEntry) (t : ArrayTime) : Nat := (diffUs e.key.time t).natAbs

/-- Whether one candidate is preferred to another (R110): the closer, then the lower key origin, then the earlier
key time. -/
def betterMatch (t : ArrayTime) (a b : EventEntry) : Bool :=
  let da := keyDistance a t
  let db := keyDistance b t
  da < db || (da == db && (a.key.origin < b.key.origin ||
    (a.key.origin == b.key.origin && usOf a.key.time < usOf b.key.time)))

/-- The entry an ALERT matches (R110). DESIGN CHOICE (log entry 57): of two entries with the ALERT's key time and different
key origins, it is the one with the lower origin, though the other's key be the ALERT's own. -/
def matchAlert (w : Nat) (t : ArrayTime) (es : List EventEntry) : Option EventEntry :=
  match es with
  | [] => none
  | e :: rest =>
    match matchAlert w t rest with
    | none => if keyDistance e t ≤ w * 1000000 then some e else none
    | some f => if keyDistance e t ≤ w * 1000000 && !betterMatch t f e then some e else some f

/-- The merge of a first ALERT from a sender into an entry (R111, first case). -/
def mergeAlert (e : EventEntry) (sender : Nat) (a : AlertPayload) : EventEntry :=
  { e with
    declaredBy := if e.declaredBy.length < 25 then e.declaredBy ++ [sender] else e.declaredBy
    votes := appendVotes e.votes (a.origins.map BitVec.toNat)
    best := min e.best a.best.toNat
    amp := max e.amp a.amp.toNat }

/-- A matched ALERT acts on its entry (R111). DESIGN CHOICE (log entry 51): a late ALERT of a new sender is merged whole, its
best grade and amplitude class with its origins. -/
def alertMatched (s : State) (e : EventEntry) (sender : Nat) (a : AlertPayload) : State :=
  if e.active then
    if e.declaredBy.contains sender then eventUpdate s e.serial (fun x => { x with lastActivity := s.tb.clock })
    else
      let m := mergeAlert e sender a
      let s := formAlertLine (eventUpdate s e.serial (fun _ => { m with lastActivity := s.tb.clock }))
      if e.votes.length < m.votes.length then requestHold s e.serial [] else s
  else
    let s := { s with events := { s.events with alertLate := bump s.events.alertLate } }
    if e.declaredBy.contains sender then s else eventUpdate s e.serial (fun x => mergeAlert x sender a)

/-- The entry that an unmatched ALERT makes (R112). -/
def alertEntry (s : State) (sender : Nat) (a : AlertPayload) : EventEntry where
  serial := s.events.nextSerial
  key := ⟨a.keyOrigin.toNat, wireTime a.keyTime⟩
  active := true
  votes := a.origins.map BitVec.toNat
  declaredBy := [sender]
  localDecl := false
  kNeeded := none
  best := a.best.toNat
  amp := a.amp.toNat
  position := none
  recordId := none
  lastActivity := s.tb.clock
  repeatsLeft := 0
  repeatDue := none

/-- An unmatched ALERT (R112). -/
def alertUnmatched (s : State) (sender : Nat) (a : AlertPayload) : State :=
  match eventRoom s with
  | none => { s with events := { s.events with alertRefused := bump s.events.alertRefused } }
  | some s =>
    let serial := s.events.nextSerial
    requestHold (reportOf (formAlertLine (eventAdd s (alertEntry s sender a))) 1 serial) serial []

/-- A delivered ALERT at the Event Table (R109 to R112, R120). -/
def eventAlert (s : State) (sender : Nat) (a : AlertPayload) : State :=
  if s.listenOnly then s
  else if !alertGood sender a then
    { s with events := { s.events with alertMalformed := bump s.events.alertMalformed } }
  else
    match matchAlert s.profile.window (wireTime a.keyTime) s.events.entries with
    | some e => alertMatched s e sender a
    | none => alertUnmatched s sender a

/-! ### The sweeps of a tick (R114, R115) -/

/-- Whether an ACTIVE entry's off-delay has run out (R115). -/
def EventEntry.over (e : EventEntry) (p : Profile) (now : ArrayTime) : Bool :=
  e.active && decide ((p.alertHold : Int) * 1000000 < diffUs now e.lastActivity)

/-- One entry ends (R115): its repeats are cancelled, the ALERT line is formed again and a report is queued. -/
def endEvent (s : State) (serial : Nat) : State :=
  reportOf (formAlertLine (eventUpdate s serial (fun e =>
    { e with active := false, repeatsLeft := 0, repeatDue := none }))) 2 serial

/-- The sweep that ends events (R115). DESIGN CHOICE (log entry 46): several events end, and report, in the order in which
their entries were made. -/
def endSweep (s : State) : State :=
  (s.events.entries.filter (fun e => e.over s.profile s.tb.clock)).foldl (fun s e => endEvent s e.serial) s

/-- Whether an entry's repeat is due (R114). -/
def EventEntry.repeatNow (e : EventEntry) (now : ArrayTime) : Bool :=
  match e.repeatDue with
  | none => false
  | some t => decide (0 ≤ diffUs now t)

/-- One repeat handed on (R114). -/
def sendRepeat (s : State) (serial : Nat) : State :=
  handAlert (eventUpdate s serial (fun e =>
    { e with repeatsLeft := e.repeatsLeft - 1, repeatDue := none })) serial

/-- The sweep that hands on the repeats that are due (R114). DESIGN CHOICE (log entry 46): several are handed on in the order
in which their entries were made. -/
def repeatSweep (s : State) : State :=
  (s.events.entries.filter (fun e => e.repeatNow s.tb.clock)).foldl (fun s e => sendRepeat s e.serial) s

/-- How long a report occupies the uplink port, in nominal microseconds (R118): 180 bit times. -/
def reportUs : Nat := 18750

/-- Whether the last stop bit of the report in transmission has gone out (R118). -/
def reportSent (s : State) : Bool := s.events.sending.isSome && decide (reportUs ≤ s.events.sentUs)

/-- The port takes the report at the head of its queue, if there is one (R118). -/
def uplinkNext (s : State) : State :=
  match s.events.uplink with
  | [] => { s with events := { s.events with sending := none, sentUs := 0 } }
  | r :: rest => { s with events := { s.events with sending := some r, sentUs := 0, uplink := rest } }

/-- One nominal microsecond at the uplink port (R118; log entry 29). -/
def uplinkTick (s : State) : State :=
  if s.events.sending.isNone then s
  else { s with events := { s.events with sentUs := min (s.events.sentUs + 1) reportUs } }

/-- The level of the uplink port (R118): that of the bit now sent, 9,600 to the second, and the stop level while it is
idle. -/
def EventTable.uplinkLevel (t : EventTable) : Bool :=
  match t.sending with
  | none => true
  | some r => (serialLevels r).getD (t.sentUs * 6 / 625) true

end Sys2Proof.Machine
end

