-- ==== Sys2Proof/Machine/Peers.lean ====
section
/-! DEFINITION. The Peer Table (chapter 2) and the UNSET seed it keeps full or empty (R14). -/

namespace Sys2Proof.Machine

/-- The age of an entry's last beacon as a signed count of microseconds (R35). -/
def PeerEntry.age (e : PeerEntry) (now : ArrayTime) : Int := diffUs now e.last

/-- Whether a peer is live (R35). -/
def PeerEntry.live (e : PeerEntry) (now : ArrayTime) : Bool :=
  decide (e.age now < 3 * (e.interval : Int) * 1000000)

/-- Whether an entry has reached expiry (R37). -/
def PeerEntry.expired (e : PeerEntry) (now : ArrayTime) : Bool :=
  decide (16 * (e.interval : Int) * 1000000 ≤ e.age now)

/-- The able count (R38). -/
def ableCount (s : State) : Nat :=
  (s.peers.entries.filter (fun e => e.live s.tb.clock && !e.conflict && e.running)).length +
    (if s.det.running then 1 else 0)

/-- A new entry at its place in ascending order of identifier. -/
def insertPeer (e : PeerEntry) (es : List PeerEntry) : List PeerEntry :=
  match es with
  | [] => [e]
  | x :: rest => if e.id < x.id then e :: x :: rest else x :: insertPeer e rest

/-- The entry with the oldest last-beacon time, of the lower identifier between equal times (R34). -/
def oldestPeer (es : List PeerEntry) : Option PeerEntry :=
  match es with
  | [] => none
  | x :: rest =>
    match oldestPeer rest with
    | none => some x
    | some y =>
      if usOf y.last < usOf x.last || (usOf y.last == usOf x.last && y.id < x.id) then some y else some x

/-- The seed emptied if it came from a sender whose entry is removed or marked in conflict (R14). -/
def Timebase.dropSeed (b : Timebase) (gone : Nat → Bool) : Timebase :=
  match b.seed with
  | none => b
  | some x => if gone x.sender then { b with seed := none } else b

/-- The entries that satisfy a test are removed, and each removal reported to the Timebase (R34, R37). -/
def removePeers (s : State) (gone : PeerEntry → Bool) : State :=
  { s with
    peers := { s.peers with entries := s.peers.entries.filter (fun e => !gone e) }
    tb := s.tb.dropSeed (fun id => s.peers.entries.any (fun e => e.id == id && gone e)) }

/-- Whether the grade agrees with the time state in a BEACON (R28). -/
def gradeAgrees (state : TimeState) (grade : Nat) : Bool :=
  match state with
  | .unset => grade == 15
  | .anchored => grade == 0
  | _ => 1 ≤ grade && grade ≤ 14

/-- The checks on a BEACON's contents (R28). -/
def beaconGood (sender : Nat) (b : BeaconPayload) : Bool :=
  !(240 ≤ sender && sender ≤ 254) && (intervalOf b.intervalCode.toNat).isSome &&
    (match timeStateOf b.timeState.toNat with
      | none => false
      | some st => gradeAgrees st b.grade.toNat) &&
    decide (b.shed.toNat ≤ 3) && decide (b.linePos.toNat ≤ 20000) && b.east.toInt != -32768 &&
    b.north.toInt != -32768 && decide (b.soc.toNat ≤ 1000)

/-- The cable delay in microseconds from a sender's line position, rounded to the nearest, halves up (R13). -/
def cableDelay (p : Profile) (linePos : Nat) : Int :=
  ((((linePos : Int) - (p.linePos : Int)).natAbs * p.lineNs + 500) / 1000 : Nat)

/-- The sender's offset (R13). -/
def beaconOffset (p : Profile) (b : BeaconPayload) (r : ArrayTime) : Int :=
  clampInt (-2147483647) 2147483647
    (usOf (wireTime b.departure) + cableDelay p b.linePos.toNat - usOf r)

/-- The fields a stored BEACON gives its entry (R30, R33). -/
def PeerEntry.refill (e : PeerEntry) (b : BeaconPayload) (r : ArrayTime) (offset : Int) : PeerEntry :=
  { e with
    interval := (intervalOf b.intervalCode.toNat).getD 4
    last := r
    offset := offset
    fresh := true
    state := (timeStateOf b.timeState.toNat).getD .unset
    grade := b.grade.toNat
    shed := b.shed.toNat
    running := b.flags.toNat % 2 == 1
    soc := b.soc.toNat
    temp := b.temp.toInt }

/-- A new entry from a BEACON (R33). -/
def newPeer (sender : Nat) (b : BeaconPayload) (r : ArrayTime) (offset : Int) : PeerEntry :=
  PeerEntry.refill
    { id := sender, linePos := b.linePos.toNat, east := b.east.toInt, north := b.north.toInt, interval := 4,
      last := r, offset := 0, fresh := true, state := .unset, grade := 15, shed := 0, running := false,
      soc := 0, temp := 0, heardA := false, heardB := false, heardC := false, conflict := false }
    b r offset

/-- The seed after a BEACON stored fresh (R14). -/
def Timebase.offerSeed (t : Timebase) (p : Profile) (sender : Nat) (b : BeaconPayload) (r : ArrayTime) : Timebase :=
  let grade := b.grade.toNat
  let better := match t.seed with
    | none => true
    | some x => decide (grade ≤ x.grade)
  if t.state = .unset && timeStateOf b.timeState.toNat != some .unset && decide (grade ≤ 14) && better then
    { t with
      seed := some ⟨sender, grade,
        ofUs (usOf (wireTime b.departure) + cableDelay p b.linePos.toNat), r⟩ }
  else t

/-- The BEACON of a sender without an entry takes a place (R33). -/
def createPeer (s : State) (sender : Nat) (b : BeaconPayload) (r : ArrayTime) : State :=
  { s with
    peers :=
      { s.peers with entries := insertPeer (newPeer sender b r (beaconOffset s.profile b r)) s.peers.entries }
    tb := s.tb.offerSeed s.profile sender b r }

/-- Whether a BEACON's positions are those of an entry (R30). -/
def samePlace (e : PeerEntry) (b : BeaconPayload) : Bool :=
  e.linePos == b.linePos.toNat && e.east == b.east.toInt && e.north == b.north.toInt

/-- A delivered BEACON at the Peer Table (R28 to R34). -/
def peerBeacon (s : State) (sender : Nat) (b : BeaconPayload) (r : ArrayTime) : State :=
  if !beaconGood sender b then { s with peers := { s.peers with refused := bump s.peers.refused } }
  else
    match s.peers.entries.find? (·.id == sender) with
    | some e =>
      if e.conflict then { s with peers := { s.peers with conflicts := bump s.peers.conflicts } }
      else if samePlace e b then
        { s with
          peers :=
            { s.peers with
              entries := s.peers.entries.map (fun x =>
                if x.id == sender then x.refill b r (beaconOffset s.profile b r) else x) }
          tb := s.tb.offerSeed s.profile sender b r }
      else
        { s with
          peers :=
            { s.peers with
              entries := s.peers.entries.map (fun x =>
                if x.id == sender then { x with conflict := true, fresh := false } else x)
              idConflict := true
              conflicts := bump s.peers.conflicts }
          tb := s.tb.dropSeed (· == sender) }
    | none =>
      if s.peers.entries.length < 24 then createPeer s sender b r
      else
        match oldestPeer s.peers.entries with
        | none => createPeer s sender b r
        | some old =>
          if old.live s.tb.clock then { s with peers := { s.peers with full := bump s.peers.full } }
          else createPeer (removePeers s (fun e => e.id == old.id)) sender b r

/-- The heard history shifted and the fresh marks cleared at a steering instant (R36). -/
def shiftHeard (s : State) : State :=
  { s with
    peers :=
      { s.peers with
        entries := s.peers.entries.map (fun e =>
          { e with heardA := e.heardB, heardB := e.heardC, heardC := e.fresh, fresh := false }) } }

/-- The entries that have reached expiry are removed (R37). -/
def expirePeers (s : State) : State := removePeers s (fun e => e.expired s.tb.clock)

end Sys2Proof.Machine
end

