-- ==== Sys2Proof/Machine/PickOps.lean ====
section
/-! DEFINITION. The Pick List and the Coincidence Unit (chapter 5). -/

namespace Sys2Proof.Machine

/-! ### Entry (R84 to R88) -/

/-- How long after its pick time an entry is kept, in microseconds (R88). -/
def keepUs (p : Profile) : Int := ((p.window + p.retention : Nat) : Int) * 1000000

/-- The ageing sweep (R88). -/
def ageSweep (s : State) : State :=
  { s with
    picks :=
      { s.picks with
        entries := s.picks.entries.filter (fun e => decide (diffUs s.tb.clock e.time ≤ keepUs s.profile)) } }

/-- A pick at its place in order of pick time, after those of equal time (R84). -/
def insertPick (e : PickEntry) (es : List PickEntry) : List PickEntry :=
  match es with
  | [] => [e]
  | x :: rest => if usOf e.time < usOf x.time then e :: x :: rest else x :: insertPick e rest

/-- The list after one of 32 entries gives way: the oldest unassigned one, or the oldest (R87, test 4). -/
def giveWay (es : List PickEntry) : List PickEntry :=
  if es.any (fun e => e.assigned.isNone) then es.eraseP (fun e => e.assigned.isNone) else es.drop 1

/-- The checks on a pick of a PICK frame (R85). -/
def pickGood (sender : Nat) (p : PickPayload) : Bool :=
  !(240 ≤ sender && sender ≤ 254) && decide (p.grade.toNat ≤ 15) && decide (p.amp.toNat ≤ 23) &&
    p.mask.toNat % 8 != 0 && p.east.toInt != -32768 && p.north.toInt != -32768 &&
    decide (p.onset.us.toNat ≤ 999999)

/-! ### The velocity test (R90) -/

/-- The effective time difference in ms (R90, condition 2). -/
def effectiveMs (p : Profile) (dt : Int) : Int := max 0 ((dt - (p.slack : Int)) / 1000)

/-- Whether a pick at a time and place is consistent with a first pick (R90). -/
def consistent (p : Profile) (firstTime : ArrayTime) (first : Int × Int) (time : ArrayTime) (at_ : Int × Int) : Bool :=
  let dt := diffUs time firstTime
  let dx := at_.1 - first.1
  let dy := at_.2 - first.2
  let v := effectiveMs p dt * (p.vMin : Int)
  decide (0 ≤ dt) && decide (dt ≤ (p.window : Int) * 1000000) &&
    decide (v * v ≤ (dx * dx + dy * dy) * 1000000)

/-- The map position of an entry. -/
def PickEntry.place (e : PickEntry) : Int × Int := (e.east, e.north)

/-! ### Attaching (R92, R93) -/

/-- The first-pick position of an event (R92). DESIGN CHOICE (log entry 48): of several held entries with the key's origin and
pick time, the first in list order gives the position. -/
def firstPosition (s : State) (e : EventEntry) : Option (Int × Int) :=
  match e.position with
  | some p => some p
  | none =>
    match s.picks.entries.find? (fun x => x.origin == e.key.origin && x.time == e.key.time) with
    | some x => some x.place
    | none =>
      if s.ownId = some e.key.origin then some (s.profile.east, s.profile.north)
      else
        match s.peers.entries.find? (fun x => x.id == e.key.origin && !x.conflict) with
        | some x => some (x.east, x.north)
        | none => none

/-- Whether a new entry attaches to an event (R93). -/
def attaches (s : State) (n : PickEntry) (e : EventEntry) : Bool :=
  e.active && n.counted && !e.votes.contains n.origin && decide (e.votes.length < 24) &&
    (match firstPosition s e with
      | none => false
      | some pos => consistent s.profile e.key.time pos n.time n.place)

/-- Whether two entries are the same pick: no two share origin and sequence (R84). -/
def PickEntry.same (a b : PickEntry) : Bool := a.origin == b.origin && a.seq == b.seq

/-- The entries that satisfy a test are assigned to an event. -/
def assignPicks (s : State) (key : Key) (p : PickEntry → Bool) : State :=
  { s with
    picks :=
      { s.picks with
        entries := s.picks.entries.map (fun e => if p e then { e with assigned := some key } else e) } }

/-! ### Declaring (R94 to R97) -/

/-- K_needed (R94). -/
def kNeeded (s : State) : Nat := max s.profile.kFloor (min s.profile.kVotes (ableCount s))

/-- Whether an entry can stand in a candidate set: unassigned and counted. -/
def PickEntry.free (e : PickEntry) : Bool := e.assigned.isNone && e.counted

/-- The other members of a candidate set, in list order: of each origin not yet seen, the first free entry
consistent with the first member (R95). -/
def otherMembers (p : Profile) (f : PickEntry) (seen : List Nat) (es : List PickEntry) : List PickEntry :=
  match es with
  | [] => []
  | e :: rest =>
    if !seen.contains e.origin && e.free && consistent p f.time f.place e.time e.place then
      e :: otherMembers p f (e.origin :: seen) rest
    else otherMembers p f seen rest

/-- The candidate set of a first member (R95). -/
def candidateSet (s : State) (f : PickEntry) : List PickEntry :=
  f :: otherMembers s.profile f [f.origin] s.picks.entries

/-- The declaration of a candidate set, of at most 24 members (R96). -/
def declarationOf (s : State) (f : PickEntry) (members : List PickEntry) : Declaration where
  key := ⟨f.origin, f.time⟩
  votes := members.map PickEntry.origin
  kNeeded := kNeeded s
  best := members.foldl (fun g e => min g e.grade) f.grade
  amp := members.foldl (fun g e => max g e.amp) f.amp
  position := f.place
  ownPicks := (members.filter (fun e => s.ownId == some e.origin)).map PickEntry.time

/-- The declaration search (R95 to R97). -/
def declareSearch (s : State) : State :=
  match s.picks.entries.find? (fun f => f.free && decide (kNeeded s ≤ (candidateSet s f).length)) with
  | none => s
  | some f =>
    let members := (candidateSet s f).take 24
    let r := declareEvent s (declarationOf s f members)
    if r.2 then
      let s := assignPicks r.1 ⟨f.origin, f.time⟩ (fun e => members.any e.same)
      { s with picks := { s.picks with declared := bump s.picks.declared } }
    else r.1

/-- The evaluation of a new entry (R91, R99). -/
def evaluatePick (s : State) (n : PickEntry) : State :=
  if s.bat.shed = 3 || s.listenOnly then s
  else
    match firstByKey (attaches s n) s.events.entries with
    | some e => attachVote (assignPicks s e.key n.same) e.serial n
    | none => declareSearch s

/-- A pick offered to the Pick List, after its checks (R87). -/
def offerPick (s : State) (n : PickEntry) : State :=
  let s := ageSweep s
  if 2000000 < diffUs n.time s.tb.clock then { s with picks := { s.picks with future := bump s.picks.future } }
  else if keepUs s.profile < diffUs s.tb.clock n.time then
    { s with picks := { s.picks with stale := bump s.picks.stale } }
  else if s.picks.entries.any n.same then { s with picks := { s.picks with duplicate := bump s.picks.duplicate } }
  else
    let full := decide (32 ≤ s.picks.entries.length)
    let s := { s with
      picks :=
        { s.picks with
          entries := insertPick n (if full then giveWay s.picks.entries else s.picks.entries)
          displaced := if full then bump s.picks.displaced else s.picks.displaced } }
    evaluatePick s n

/-- The counted flag (R86). -/
def countedFlag (p : Profile) (grade : Nat) : Bool := decide (grade ≤ p.gradeLimit)

/-- A station pick at the Pick List (R78, R87). -/
def pickLocal (s : State) (k : StationPick) : State :=
  offerPick s ⟨s.own, k.seq, k.onset, k.grade, s.profile.east, s.profile.north, k.amp,
    countedFlag s.profile k.grade, none⟩

/-- A PICK frame's pick at the Pick List (R85, R87). -/
def pickRemote (s : State) (sender : Nat) (p : PickPayload) : State :=
  if !pickGood sender p then { s with picks := { s.picks with malformed := bump s.picks.malformed } }
  else
    offerPick s ⟨sender, p.seq.toNat, wireTime p.onset, p.grade.toNat, p.east.toInt, p.north.toInt, p.amp.toNat,
      countedFlag s.profile p.grade.toNat, none⟩

end Sys2Proof.Machine
end

