-- ==== Sys2Proof/Machine/Events.lean ====
section
/-! DEFINITION. The commands of the Pick List's and the Event Table's sweeps, and of the uplink port. -/

namespace Sys2Proof.Machine

/-- PICK_AGED (R88): the ageing sweep. -/
def execPickAged (s : State) : Result := doWhen s.awake s ageSweep

/-- EVENT_END (R115): the sweep that ends events. -/
def execEventEnd (s : State) : Result := doWhen s.awake s endSweep

/-- ALERT_REPEAT_DUE (R114): the repeats that are due are handed to the Line Controller. -/
def execAlertRepeatDue (s : State) : Result := doWhen s.awake s repeatSweep

/-- UPLINK_REPORT_SENT (R118): the report has gone out, and the port takes the next one. -/
def execUplinkReportSent (s : State) : Result := doWhen (s.awake && reportSent s) s uplinkNext

end Sys2Proof.Machine
end

