-- ==== Sys2Proof/Machine/DetectorOps.lean ====
section
/-! DEFINITION. The arithmetic and the states of one channel of the Detector (4.2 to 4.4), and the Detector's turning
off and on (R79). -/

namespace Sys2Proof.Machine

/-! ### Arithmetic (R58 to R61) -/

/-- The DC tracker after a sample (R58). -/
def trackDc (d x : Int) : Int := d + (256 * x - d) / 1024

/-- The characteristic value of a sample against the updated tracker (R58). -/
def charValue (d x : Int) : Int := |clampInt (-8388607) 8388607 (x - d / 256)|

/-- A running average moved toward 256e with gain 1/2^shift (R59, R60). -/
def averageStep (a e : Int) (shift : Nat) : Int := a + (256 * e - a) / (2 ^ shift : Nat)

/-- The averages after a sample; `frozen` keeps l (R60). -/
def Averages.update (a : Averages) (p : Profile) (x : Int) (frozen : Bool) : Averages :=
  let d := trackDc a.d x
  let e := charValue d x
  ⟨d, averageStep a.s e p.staShift, if frozen then a.l else averageStep a.l e p.ltaShift⟩

/-- The characteristic value that an update used: against the tracker it left (R58). -/
def Averages.valueOf (updated : Averages) (x : Int) : Int := charValue updated.d x

/-- The effective long-term average (R60). -/
def Averages.effective (a : Averages) (p : Profile) : Int := max a.l (256 * (p.ltaFloor : Int))

/-- The on test (R61). -/
def Averages.onSet (a : Averages) (p : Profile) : Bool := decide (a.effective p * (p.onRatio : Int) ≤ 16 * a.s)

/-- The off test (R61). -/
def Averages.offSet (a : Averages) (p : Profile) : Bool := decide (16 * a.s < a.effective p * (p.offRatio : Int))

/-! ### Run marks and the last trigger (R70, R71) -/

/-- The run marks of the set a run begins on (R70). -/
def beginRun (t : ArrayTime) (grade : Nat) (e : Int) (w : SetWord) : RunMarks := ⟨t, grade, e, w.clipped, w.stepped⟩

/-- The run marks renewed by a later set (R70). -/
def RunMarks.renew (r : RunMarks) (e : Int) (w : SetWord) : RunMarks :=
  { r with peak := max r.peak e, clipped := r.clipped || w.clipped, stepped := r.stepped || w.stepped }

/-- The last-trigger record of a run that ends at a stamp (R71). -/
def RunMarks.record (r : RunMarks) (t : ArrayTime) (how : TriggerEnd) : LastTrigger :=
  ⟨r.onset, (diffUs t r.onset / 1000).toNat, r.peak, how, r.clipped⟩

/-- Whether a channel is in trigger: TRIGGERED or ENDING (R73). -/
def ChanState.voting (c : ChanState) : Bool := c == .triggered || c == .ending

/-- A channel back in QUIET: its run counts and marks are discarded (R66, R68, R69). -/
def ChanDet.toQuiet (c : ChanDet) : ChanDet := { c with state := .quiet, onRun := 0, offRun := 0, run := none }

/-- A trigger ended: QUIET, with the last-trigger record written (R68, R69). -/
def ChanDet.endTrigger (c : ChanDet) (t : ArrayTime) (how : TriggerEnd) : ChanDet :=
  { c.toQuiet with last := (c.run.map (fun (r : RunMarks) => r.record t how)).or c.last }

/-- A channel goes OFF: everything but the last-trigger record is discarded, and a trigger writes it with end
POWER (R62, R79). -/
def ChanDet.powerOff (c : ChanDet) (t : ArrayTime) : ChanDet :=
  { ChanDet.reset with
    last := if c.state.voting then (c.run.map (fun (r : RunMarks) => r.record t .power)).or c.last else c.last }

/-! ### One channel and one set (R62 to R69) -/

/-- The loading set (R64). -/
def ChanDet.load (c : ChanDet) (p : Profile) (x : Int) : ChanDet :=
  { ChanDet.reset with
    state := .warmup, avg := some ⟨256 * x, 0, 0⟩, warmup := 2 ^ p.ltaShift, last := c.last }

/-- The averages a channel holds; they exist from WARMUP on. -/
def ChanDet.averages (c : ChanDet) : Averages := c.avg.getD ⟨0, 0, 0⟩

/-- A set in WARMUP (R64). -/
def ChanDet.warm (c : ChanDet) (p : Profile) (x : Int) : ChanDet :=
  let c := { c with avg := some (c.averages.update p x false), warmup := c.warmup - 1 }
  if c.warmup = 0 then c.toQuiet else c

/-- A set in QUIET (R65). -/
def ChanDet.quietSet (c : ChanDet) (p : Profile) (grade : Nat) (t : ArrayTime) (w : SetWord) : ChanDet :=
  let a := c.averages.update p w.sample false
  let c := { c with avg := some a }
  if a.onSet p then
    { c with
      state := if p.onHold ≤ 1 then .triggered else .pending
      onRun := 1
      offRun := 0
      run := some (beginRun t grade (a.valueOf w.sample) w) }
  else c

/-- A set in PENDING (R66). -/
def ChanDet.pendingSet (c : ChanDet) (p : Profile) (w : SetWord) : ChanDet :=
  let a := c.averages.update p w.sample false
  let c := { c with avg := some a }
  if a.onSet p then
    { c with
      state := if p.onHold ≤ c.onRun + 1 then .triggered else .pending
      onRun := c.onRun + 1
      run := c.run.map (fun (r : RunMarks) => r.renew (a.valueOf w.sample) w) }
  else c.toQuiet

/-- Whether a set meets the max_trigger test (R69). -/
def ChanDet.tooLong (c : ChanDet) (p : Profile) (t : ArrayTime) : Bool :=
  match c.run with
  | none => false
  | some r => decide ((p.maxTrigger : Int) * 1000000 ≤ diffUs t r.onset)

/-- A set in TRIGGERED or ENDING that is not forced out: an off set counts on, an on set in ENDING returns to
TRIGGERED, and a set that is neither ends a row of off sets (R67, R68). -/
def ChanDet.votingSet (c : ChanDet) (p : Profile) (t : ArrayTime) (a : Averages) (w : SetWord) : ChanDet :=
  let c := { c with run := c.run.map (fun (r : RunMarks) => r.renew (a.valueOf w.sample) w) }
  if a.offSet p then
    if p.offHold ≤ c.offRun + 1 then c.endTrigger t .normal
    else { c with state := .ending, offRun := c.offRun + 1 }
  else if c.state = .ending && a.onSet p then { c with state := .triggered, offRun := 0 }
  else { c with offRun := 0 }

/-- A set in TRIGGERED or ENDING (R67 to R69), and whether max_trigger forced it out. -/
def ChanDet.triggerSet (c : ChanDet) (p : Profile) (t : ArrayTime) (w : SetWord) : ChanDet × Bool :=
  let a := c.averages.update p w.sample true
  let c := { c with avg := some a }
  if c.tooLong p t then (c.endTrigger t .long, true) else (c.votingSet p t a w, false)

/-- One channel takes its word of a set (R62 to R69), and whether max_trigger forced it out. -/
def ChanDet.step (c : ChanDet) (p : Profile) (grade : Nat) (t : ArrayTime) (w : SetWord) : ChanDet × Bool :=
  if !w.powered then (c.powerOff t, false)
  else if w.settling then ({ ChanDet.reset with state := .settling, last := c.last }, false)
  else
    match c.state with
    | .off | .settling => (c.load p w.sample, false)
    | .warmup => (c.warm p w.sample, false)
    | .quiet => (c.quietSet p grade t w, false)
    | .pending => (c.pendingSet p w, false)
    | .triggered | .ending => c.triggerSet p t w

/-! ### The Detector as a whole -/

/-- Whether the Detector is on (R74). -/
def State.detectorOn (s : State) : Bool := s.bat.shed != 3 && !s.listenOnly

/-- The effective vote of a set (R72). -/
def effectiveVote (p : Profile) (shed : Nat) (words : PerChan SetWord) : Nat :=
  let v := min p.chanVote (words.count (·.powered))
  if shed = 2 then min v 1 else v

/-- Whether a channel's state counts toward running (R74). -/
def ChanState.live (c : ChanState) : Bool := c == .quiet || c == .pending || c == .triggered || c == .ending

/-- The running flag from the channels and the vote the last set formed (R74). -/
def runningFlag (on : Bool) (chan : PerChan ChanDet) (vote : Option Nat) : Bool :=
  on && (match vote with
    | none => false
    | some v => decide (v ≤ chan.count (fun c => c.state.live)))

/-- The Detector turned off (R79): each channel goes OFF, and a station trigger ends with the stamp of the last
set processed. -/
def detectorOff (s : State) : State :=
  let t := s.det.lastSet.getD timeZero
  let had := s.det.trigger
  let s := { s with
    det :=
      { s.det with
        chan := PerChan.ofFn (fun c => (s.det.chan.get c).powerOff t)
        trigger := false
        running := false } }
  if had then captureTriggerEnd s t else s

/-- The Detector turned on (R79): the channels stay OFF, and the running flag is formed anew. -/
def detectorOnAgain (s : State) : State :=
  { s with det := { s.det with running := runningFlag s.detectorOn s.det.chan s.det.vote } }

end Sys2Proof.Machine
end

