-- ==== Sys2Proof/Machine/HeaterOps.lean ====
section
/-! DEFINITION. The Heater Controller's operations (chapter 9): demand, thermostat, timers, deferral, the switch and its
guard, the heater-current checks and the freeze-exposure stopwatch. -/

namespace Sys2Proof.Machine

/-! ### What the decision reads -/

/-- Whether a charge source is present (R171). -/
def State.sourcePresent (s : State) : Bool :=
  match s.sampler.latest.srcVolt with
  | none => false
  | some v => decide (s.profile.sourceMv < v)

/-- Whether the freeze budget is spent (R181). -/
def State.budgetSpent (s : State) : Bool := decide (s.profile.freezeBudget * 60 ≤ s.heat.exposure)

/-- Whether a wanted switch is quiet-blocked (R177). -/
def State.quietBlocked (s : State) : Bool := s.events.entries.any (·.active) || s.det.trigger

/-- The battery temperature that stands: the latest good reading, unless the sensor's fault is latched. -/
def State.batteryTemp (s : State) : Option Int :=
  if s.sampler.batterySensor then none else s.sampler.latest.batTemp

/-- Whether heating is allowed, and the two thresholds (R173). -/
def heatDemand (s : State) : Bool × Int × Int :=
  let p := s.profile
  let shut := s.heat.openSince.isSome
  let band (mid : Int) : Int × Int := (mid - p.hyst, mid + p.hyst)
  if s.bat.shed = 3 then (!shut && s.budgetSpent, p.freezeLimit, p.freezeLimit + p.hyst)
  else if s.sourcePresent then (!shut, band (p.chargeMinT + 20))
  else if s.bat.shed = 0 then (!shut, band p.maintT)
  else if s.bat.shed = 1 then (!shut, band (p.maintT - p.setback))
  else (!shut && s.budgetSpent, band (p.maintT - p.setback))

/-- The setpoint in force (R173): the midpoint of the thresholds, truncated. DESIGN CHOICE (log entry 43): it is formed from
the shed level and the source voltage that stand when it is asked for. -/
def setpoint (s : State) : Int :=
  if s.bat.shed = 3 then s.profile.freezeLimit + s.profile.hyst.tdiv 2
  else ((heatDemand s).2.1 + (heatDemand s).2.2).tdiv 2

/-- The wanted state (R174); an evaluation without a reading wants off (R172). -/
def heatWanted (s : State) (temp : Option Int) : Bool :=
  match temp with
  | none => false
  | some t =>
    let (allowed, lo, hi) := heatDemand s
    allowed && (if s.heat.on then decide (t < hi) else decide (t < lo) && decide (t < s.profile.cutoutT))

/-! ### Held times (R176) -/

/-- A held time that lies after the stamp is set to the stamp. -/
def notAfter (t held : ArrayTime) : ArrayTime := if diffUs held t > 0 then t else held

/-- The held times brought into line with a stamp (R176). DESIGN CHOICE (log entry 44): an exposure-reset on-delay that is
already met stays met when its start is moved, so its reset is not made and counted again. -/
def Heater.inLine (h : Heater) (t : ArrayTime) : Heater :=
  { h with
    since := notAfter t h.since
    deferral := h.deferral.map (notAfter t)
    openSince := h.openSince.map (notAfter t)
    resetDelay := { h.resetDelay with start := h.resetDelay.start.map (notAfter t) } }

/-- Whether the least-time rule allows a switch away from the present level (R176). -/
def leastTimeMet (s : State) (t : ArrayTime) : Bool :=
  decide (((if s.heat.on then s.profile.minOn else s.profile.minOff : Nat) : Int) * 1000000 ≤ diffUs t s.heat.since)

/-! ### The switch (R178) -/

/-- An actual change of HEAT to a level at a stamp, with the guard interval it opens (R75). -/
def switchHeat (s : State) (t : ArrayTime) (on : Bool) : State :=
  { s with
    heat :=
      { s.heat with
        on := on
        since := t
        openCheck := on
        starts := if on then bump s.heat.starts else s.heat.starts }
    det := { s.det with guard := some ⟨t, addUs t ((s.profile.guardS : Int) * 1000000)⟩ } }

/-- A forced off (R175): made at once, ending any deferral. -/
def forceOff (s : State) (t : ArrayTime) (cause : ForcedCause) : State :=
  let s := switchHeat s t false
  { s with
    heat :=
      { s.heat with
        deferral := none
        forcedOffs := bump s.heat.forcedOffs
        lastForced := some cause } }

/-- A wanted switch made: HEAT takes its other level and the deferral is cleared. -/
def makeSwitch (s : State) (t : ArrayTime) : State :=
  let s := switchHeat s t (!s.heat.on)
  { s with heat := { s.heat with deferral := none } }

/-- The first forced-off test that holds while HEAT is on (R175). -/
def forcedTest (s : State) (t : ArrayTime) (temp : Option Int) : Option ForcedCause :=
  match temp with
  | none => some .sensor
  | some x =>
    if s.profile.cutoutT ≤ x then some .cutout
    else if s.heat.openSince.isSome then some .opened
    else if (s.profile.maxOn : Int) * 1000000 ≤ diffUs t s.heat.since then some .maxOn
    else none

/-! ### Deferral (R177) -/

/-- Whether a running deferral has reached defer_max at a stamp. -/
def deferralOver (s : State) (t : ArrayTime) : Bool :=
  match s.heat.deferral with
  | none => false
  | some d => decide ((s.profile.deferMax : Int) * 1000000 ≤ diffUs t d)

/-- Whether a wanted switch is made without asking the deferral: not quiet-blocked, defer_max 0, or a
freeze-protect turn-on (R174, R177). -/
def switchFree (s : State) (temp : Option Int) : Bool :=
  !s.quietBlocked || s.profile.deferMax == 0 ||
    (!s.heat.on && (match temp with
      | none => false
      | some x => decide (x < s.profile.freezeLimit)))

/-- Steps 5 and 6 of an evaluation (R172 to R177). -/
def heaterDecide (s : State) (t : ArrayTime) (temp : Option Int) : State :=
  if heatWanted s temp = s.heat.on then { s with heat := { s.heat with deferral := none } }
  else if !leastTimeMet s t then s
  else if switchFree s temp then makeSwitch s t
  else if s.heat.deferral.isNone then
    { s with heat := { s.heat with deferral := some t, deferred := bump s.heat.deferred } }
  else if deferralOver s t then
    let s := makeSwitch s t
    { s with heat := { s.heat with expired := bump s.heat.expired } }
  else s

/-! ### Freeze exposure (R181 to R183) -/

/-- The greatest exposure, at which it saturates. -/
def exposureMax : Nat := 4294967295

/-- The stopwatch at a battery-temperature conversion (R181). -/
def Heater.stopwatch (h : Heater) (limit : Int) (t : ArrayTime) (temp : Option Int) : Heater :=
  let delta := match h.lastTemp with
    | none => 0
    | some u => (boundedMs (diffUs t u)).toNat
  let total := if h.accumulating then h.rem + delta else h.rem
  { h with
    exposure := min exposureMax (h.exposure + total / 1000)
    rem := total % 1000
    lastTemp := some t
    accumulating := match temp with
      | none => h.accumulating
      | some x => decide (x < limit) }

/-- The condition of the exposure-reset on-delay (R182). -/
def warmEnough (limit : Int) (temp : Option Int) : Bool :=
  match temp with
  | none => false
  | some x => decide (limit + 50 ≤ x)

/-- The exposure-reset on-delay at an evaluation (R182). -/
def Heater.exposureDelay (h : Heater) (limit : Int) (t : ArrayTime) (temp : Option Int) : Heater :=
  let d := h.resetDelay.eval (warmEnough limit temp) t 3600000000
  if d.isMet && !h.resetDelay.isMet then
    { h with resetDelay := d, exposure := 0, rem := 0, resets := bump h.resets }
  else { h with resetDelay := d }

/-- HEATER OPEN cleared once its latch is 3,600 s old (R172, step 3). -/
def Heater.clearOldOpen (h : Heater) (t : ArrayTime) : Heater :=
  match h.openSince with
  | none => h
  | some u => if 3600000000 ≤ diffUs t u then { h with openSince := none } else h

/-- The report of the first exit from UNSET: the restart gap added to the exposure (R183). -/
def Heater.reportExit (h : Heater) (now : ArrayTime) : Heater :=
  let gap := match h.restoredTime with
    | none => 0
    | some r => (clampInt 0 604800 (diffUs now r / 1000000)).toNat
  { h with
    exposure := if h.restoredFlag then min exposureMax (h.exposure + gap) else h.exposure
    restoredTime := none
    restoredFlag := false }

/-! ### The evaluation and the heater-current checks -/

/-- The heater evaluation at a battery-temperature conversion (R172); no reading stands for a fault notice. -/
def heaterEvaluate (s : State) (t : ArrayTime) (temp : Option Int) : State :=
  let limit := s.profile.freezeLimit
  let s := { s with
    heat := (((s.heat.inLine t).stopwatch limit t temp).exposureDelay limit t temp).clearOldOpen t }
  if s.heat.on then
    match forcedTest s t temp with
    | some c => forceOff s t c
    | none => heaterDecide s t temp
  else heaterDecide s t temp

/-- Whether the open check is to be made at a stamp (R179). -/
def openCheckDue (s : State) (t : ArrayTime) : Bool :=
  s.heat.on && s.heat.openCheck && decide (1000000 ≤ diffUs t s.heat.since)

/-- The open check (R179): HEATER OPEN latches and HEAT is forced off when the current is too low. -/
def openCheckMade (s : State) (t : ArrayTime) (current : Int) : State :=
  let s := { s with heat := { s.heat with openCheck := false } }
  if current < (s.profile.heaterMinMa : Int) then
    forceOff { s with heat := { s.heat with openSince := some t, opens := bump s.heat.opens } } t .opened
  else s

/-- The stuck check (R179). -/
def stuckCheck (s : State) (t : ArrayTime) (current : Int) : State :=
  if !s.heat.on && decide (1000000 ≤ diffUs t s.heat.since) &&
      decide (((s.profile.heaterMinMa / 4 : Nat) : Int) < current) then
    { s with heat := { s.heat with stuck := true } }
  else s

/-- The heater-current checks of the Heater Controller (R179): its held times brought into line, then the two tests. -/
def heaterCurrentChecks (s : State) (t : ArrayTime) (current : Int) : State :=
  let s := { s with heat := s.heat.inLine t }
  let s := if openCheckDue s t then openCheckMade s t current else s
  stuckCheck s t current

end Sys2Proof.Machine
end

