-- ==== Sys2Proof/Machine/BatteryOps.lean ====
section
/-! DEFINITION. The Battery Monitor's operations (chapter 8): the care log, the charge counter, the anchors, the shed
levels, write permission, the charge permit and the heater draw. -/

namespace Sys2Proof.Machine

/-! ### The care log (R163 to R166) -/

/-- Fifteen minutes, the care log's schedule, in microseconds (R165). -/
def schedulePeriod : Int := 900000000

/-- The snapshot of the quantities that stand now (R163). -/
def snapshotNow (s : State) (cause : SnapCause) : Snapshot where
  seq := s.bat.seq
  time := s.tb.clock
  timeState := s.tb.state.code
  q := s.bat.q
  capacity := s.profile.capacityAh
  exposure := s.heat.exposure
  below := s.heat.accumulating
  shed := s.bat.shed
  nextId := s.rm.nextId
  cause := cause.code

/-- The request of a snapshot at a log position: at slot 0 the page is erased first, and its header is programmed
with the snapshot (R165, step 3). -/
def careRequest (place slot : Nat) (x : Snapshot) (cause : SnapCause) : PlacedCare :=
  let page := carePage place
  if slot = 0 then ⟨page, 0, careHeader page ++ snapshotBytes x, x.seq, cause, .needErase⟩
  else ⟨page, 32 + 32 * slot, snapshotBytes x, x.seq, cause, .needProgram⟩

/-- A snapshot formed (R165). -/
def formSnapshot (s : State) (cause : SnapCause) : State :=
  let b := s.bat
  let wraps := b.logSlot = 62
  { s with
    bat :=
      { b with
        seq := wrap32 (b.seq + 1)
        placed := some (careRequest b.logPage b.logSlot (snapshotNow s cause) cause)
        logPage := if wraps then (b.logPage + 1) % 8 else b.logPage
        logSlot := if wraps then 0 else b.logSlot + 1
        nextDue := some (addUs s.tb.clock schedulePeriod) } }

/-- The owed cause after another snapshot falls due: RESTART is not replaced (R164). -/
def owedCause (owed : Option SnapCause) (cause : SnapCause) : SnapCause :=
  if owed = some .restart then .restart else cause

/-- A snapshot falls due (R164). -/
def snapshotDue (s : State) (cause : SnapCause) : State :=
  if s.bat.placed.isNone then formSnapshot s cause
  else { s with bat := { s.bat with owed := some (owedCause s.bat.owed cause) } }

/-- The next due time brought within 900 s of local time (R164). -/
def lowerDue (s : State) : State :=
  { s with
    bat :=
      { s.bat with
        nextDue := s.bat.nextDue.map (fun d =>
          if schedulePeriod < diffUs d s.tb.clock then addUs s.tb.clock schedulePeriod else d) } }

/-- Whether local time has reached or passed the next due time (R164). -/
def scheduleReached (s : State) : Bool :=
  match s.bat.nextDue with
  | none => false
  | some d => decide (0 ≤ diffUs s.tb.clock d)

/-- The schedule's test at a tick (R164). -/
def scheduleTest (s : State) : State :=
  let s := lowerDue s
  if scheduleReached s then snapshotDue s .schedule else s

/-- An owed snapshot formed when no request is placed (R164). -/
def formOwed (s : State) : State :=
  match s.bat.owed, s.bat.placed with
  | some cause, none => formSnapshot { s with bat := { s.bat with owed := none } } cause
  | _, _ => s

/-- The completion of the placed request: a RESTART snapshot brings the restart at once, and what is owed then is
lost; after any other, an owed snapshot is formed (R165, R166). -/
def careDone (s : State) : State :=
  match s.bat.placed with
  | none => s
  | some r =>
    let s := { s with
      bat := { s.bat with written := bump s.bat.written, lastDone := some (r.seq, r.cause), placed := none } }
    if r.cause = .restart then { s with phase := .restarting, bat := { s.bat with owed := none } }
    else formOwed s

/-- A care snapshot's PROGRAM completes (R130, R165). -/
def careProgramDone (s : State) (page offset : Nat) (bytes : List Byte) : State :=
  careDone (clearFlight { s with mem := memProgram s.mem (pageBase page + offset) bytes })

/-! ### The charge counter (R152 to R154) -/

/-- C, the capacity of the pack in mAs (R152). -/
def Profile.fullCharge (p : Profile) : Nat := p.capacityAh * 3600000

/-- SOC in permille (R154). -/
def State.soc (s : State) : Nat := 1000 * s.bat.q / s.profile.fullCharge

/-- The contribution of a current over an elapsed time, in mA·ms (R153). -/
def contribution (p : Profile) (current elapsed : Int) : Int :=
  if 0 < current * elapsed then (current * elapsed * (p.chargeEff : Int)).tdiv 100 else current * elapsed

/-- A contribution taken into the residual and the count (R154). -/
def Battery.credit (b : Battery) (full : Nat) (amount : Int) : Battery :=
  let sum := b.residual + amount
  let carry := sum.tdiv 1000
  { b with
    residual := sum - carry * 1000
    q := (clampInt 0 (full : Int) ((b.q : Int) + carry)).toNat }

/-- The charge counter at a battery-current conversion (R153, R154). -/
def countCharge (s : State) (t : ArrayTime) (current : Int) : State :=
  let b := { s.bat with lastCurrent := some t }
  match s.bat.lastCurrent with
  | none => { s with bat := b }
  | some u =>
    { s with
      bat := b.credit s.profile.fullCharge (contribution s.profile current (boundedMs (diffUs t u))) }

/-! ### Anchors (R155, R156) -/

/-- Whether the full anchor's condition holds for the latest values (R155). -/
def fullCondition (s : State) : Bool :=
  match s.sampler.latest.batVolt, s.sampler.latest.batCurr with
  | some v, some i =>
    decide (s.profile.fullMv ≤ v) && decide (0 ≤ i) && decide (i ≤ s.profile.taperMa) && s.sourcePresent
  | _, _ => false

/-- The full anchor acts where its on-delay is met: Q becomes C, counted when it was first met (R155). -/
def Battery.fullAct (b : Battery) (full : Nat) (d : OnDelay) : Battery :=
  if d.isMet then
    { b with
      full := d, q := full, residual := 0
      fullAnchors := if b.full.isMet then b.fullAnchors else bump b.fullAnchors }
  else { b with full := d }

/-- The full anchor at an evaluation (R155). -/
def fullAnchor (s : State) : State :=
  { s with
    bat := s.bat.fullAct s.profile.fullCharge (s.bat.full.eval (fullCondition s) s.tb.clock 600000000) }

/-- Whether the empty anchor's condition holds (R156). -/
def emptyCondition (s : State) : Bool :=
  match s.sampler.latest.batVolt with
  | none => false
  | some v => decide (v < s.profile.emptyMv)

/-- The empty anchor acts where its on-delay is met: the count is only lowered (R156). DESIGN CHOICE (log entry 53): the
residual becomes 0 also where a later evaluation lowers Q again. -/
def Battery.emptyAct (b : Battery) (full : Nat) (d : OnDelay) : Battery :=
  if d.isMet then
    { b with
      empty := d
      q := min b.q (full / 20)
      residual := if full / 20 < b.q then 0 else b.residual
      emptyAnchors := if b.empty.isMet then b.emptyAnchors else bump b.emptyAnchors }
  else { b with empty := d }

/-- The empty anchor at an evaluation (R156). -/
def emptyAnchor (s : State) : State :=
  { s with
    bat := s.bat.emptyAct s.profile.fullCharge (s.bat.empty.eval (emptyCondition s) s.tb.clock 60000000) }

/-! ### Write permission (R160) -/

/-- Write permission from the latest battery voltage and the shed level (R160). -/
def permissionOf (p : Profile) (volt : Option Int) (shed : Nat) : WritePerm :=
  match volt with
  | none => .absent
  | some v => if v < p.writeFloor then .absent else if shed = 3 then .careOnly else .full

/-- Write permission formed (R160). -/
def formPermission (s : State) : State :=
  { s with bat := { s.bat with permission := permissionOf s.profile s.sampler.latest.batVolt s.bat.shed } }

/-! ### Shed levels (R157 to R159) -/

/-- Whether the latest battery voltage stands below a bound; a test that fails while it is absent. -/
def voltBelow (s : State) (bound : Int) : Bool :=
  match s.sampler.latest.batVolt with
  | none => false
  | some v => decide (v < bound)

/-- Whether the latest battery voltage stands at or above a bound; a test that fails while it is absent. -/
def voltReaches (s : State) (bound : Int) : Bool :=
  match s.sampler.latest.batVolt with
  | none => false
  | some v => decide (bound ≤ v)

/-- The entry level (R157). -/
def entryLevel (s : State) : Nat :=
  if s.soc < 10 * s.profile.shed3 || voltBelow s s.profile.vCrit then 3
  else if s.soc < 10 * s.profile.shed2 || voltBelow s s.profile.vLow then 2
  else if s.soc < 10 * s.profile.shed1 then 1
  else 0

/-- The exit condition of a level (R158). -/
def exitCondition (s : State) (level : Nat) : Bool :=
  if level = 3 then decide (10 * (s.profile.shed3 + 5) ≤ s.soc) && voltReaches s (s.profile.vCrit + 100)
  else if level = 2 then decide (10 * (s.profile.shed2 + 5) ≤ s.soc) && voltReaches s (s.profile.vLow + 100)
  else decide (10 * (s.profile.shed1 + 5) ≤ s.soc)

/-- A change of the shed level reaches the Timebase, the Detector and the Record Memory (R159): each acts on a move
into or out of level 3. -/
def announceShed (s : State) (old : Nat) : State :=
  if old != 3 && s.bat.shed == 3 then closeAtOnce (detectorOff (rescheduleTick s)) .power
  else if old == 3 && s.bat.shed != 3 then detectorOnAgain (rescheduleTick s)
  else s

/-- The shed level changed (R157 to R159). -/
def setShed (s : State) (level : Nat) : State :=
  let old := s.bat.shed
  let s := { s with
    bat :=
      { s.bat with
        shed := level
        exit := OnDelay.stopped
        shedRaises := if old < level then bump s.bat.shedRaises else s.bat.shedRaises } }
  snapshotDue (formPermission (announceShed s old)) .shed

/-- The exit rule at a level of 1 or more (R158). -/
def exitRule (s : State) : State :=
  let d := s.bat.exit.eval (exitCondition s s.bat.shed) s.tb.clock 300000000
  if d.isMet then setShed s (s.bat.shed - 1) else { s with bat := { s.bat with exit := d } }

/-- The evaluation of the shed level (R157, R158). -/
def evaluateShed (s : State) : State :=
  if s.bat.shed < entryLevel s then setShed s (entryLevel s)
  else if s.bat.shed = 0 then s
  else exitRule s

/-! ### Charge permit and heater draw (R161, R162) -/

/-- The charge permit goes OFF, a drop counted when it was ON (R161, R169). -/
def dropPermit (s : State) : State :=
  { s with
    bat := { s.bat with
      permit := false, permitDrops := if s.bat.permit then bump s.bat.permitDrops else s.bat.permitDrops } }

/-- The charge permit at a battery-temperature conversion; none is a fault notice (R161). -/
def chargePermit (s : State) (temp : Option Int) : State :=
  match temp with
  | none => dropPermit s
  | some t =>
    if t < s.profile.chargeMinT || s.profile.chargeMaxT < t then dropPermit s
    else if s.profile.chargeMinT + 10 ≤ t && t ≤ s.profile.chargeMaxT - 10 then
      { s with bat := { s.bat with permit := true } }
    else s

/-- The heater-draw total at a heater-current conversion (R162). -/
def heaterDraw (s : State) (t : ArrayTime) (current : Int) : State :=
  let add := match s.bat.lastHeater with
    | none => 0
    | some u => ((current * boundedMs (diffUs t u)).tdiv 1000).toNat
  { s with
    bat := { s.bat with heaterDraw := min 4294967295 (s.bat.heaterDraw + add), lastHeater := some t } }

/-! ### The Battery Monitor at a conversion -/

/-- A heater-current conversion (R162, R179). -/
def heaterCurrent (s : State) (t : ArrayTime) (current : Int) : State :=
  heaterDraw (heaterCurrentChecks s t current) t current

/-- A battery-voltage conversion (R155 to R160). DESIGN CHOICE (log entry 45): the full anchor acts before the empty one. -/
def batteryVoltage (s : State) : State := formPermission (evaluateShed (emptyAnchor (fullAnchor s)))

/-- A battery-current conversion (R153 to R158). -/
def batteryCurrent (s : State) (t : ArrayTime) (current : Int) : State :=
  evaluateShed (fullAnchor (countCharge s t current))

end Sys2Proof.Machine
end

