-- ==== Sys2Proof/Machine/SamplerOps.lean ====
section
/-! DEFINITION. The Sampler's own operations (chapter 3): channel power and settling, conversion, the sample set and the
housekeeping rotation. -/

namespace Sys2Proof.Machine

/-! ### Conversion (R42) -/

/-- A converter's result as a sample, and whether it was held at a limit (R42). -/
def convert (r : RawSample) : Int × Bool :=
  match r.overrange with
  | some .pos => (8388607, true)
  | some .neg => (-8388607, true)
  | none =>
    if 8388607 < r.value then (8388607, true)
    else if r.value < -8388607 then (-8388607, true)
    else (r.value, false)

/-- The result of one channel at a tick. -/
def rawOf (i : TickInput) (c : Channel) : RawSample :=
  match c with
  | .z => i.z
  | .n => i.n
  | .e => i.e

/-! ### Power and settling (R43, R44, R51) -/

/-- Whether a channel is to be powered (R43); in listen-only none is (R51). -/
def powerWanted (shed : Nat) (listenOnly : Bool) (c : Channel) : Bool :=
  !listenOnly && (if shed ≤ 1 then true else shed == 2 && c == .z)

/-- The power and the settling counts brought into line with the shed level (R43). -/
def applyPower (m : Sampler) (shed : Nat) (listenOnly : Bool) : Sampler :=
  { m with
    powered := PerChan.ofFn (powerWanted shed listenOnly)
    settling := PerChan.ofFn (fun c =>
      if powerWanted shed listenOnly c then (if m.powered.get c then m.settling.get c else 64)
      else if m.powered.get c then 0 else m.settling.get c) }

/-! ### The sample set (R45, R46) -/

/-- Whether a stamp lies inside a guard interval (R46). -/
def insideGuard (g : Option Guard) (t : ArrayTime) : Bool :=
  match g with
  | none => false
  | some g => decide (diffUs g.opens t ≤ 0) && decide (diffUs t g.ends < 0)

/-- The word of one channel (R44, R45). -/
def formWord (m : Sampler) (inp : TickInput) (guard stepped : Bool) (c : Channel) : SetWord :=
  if m.powered.get c then
    ⟨(convert (rawOf inp c)).1, true, decide (0 < m.settling.get c), (convert (rawOf inp c)).2, guard, stepped⟩
  else ⟨0, false, false, false, guard, stepped⟩

/-- The sample set of a seismic tick (R45). -/
def formSet (m : Sampler) (inp : TickInput) (t : ArrayTime) (guard stepped : Bool) : SampleSet :=
  ⟨t, PerChan.ofFn (formWord m inp guard stepped)⟩

/-- The settling counts and the clip counters after a set has been formed (R44, R55). -/
def afterSet (m : Sampler) (x : SampleSet) : Sampler :=
  { m with
    settling := PerChan.ofFn (fun c => m.settling.get c - 1)
    clips := PerChan.ofFn (fun c => if (x.words.get c).clipped then bump (m.clips.get c) else m.clips.get c) }

/-! ### Housekeeping (R47 to R49) -/

/-- The slot after a slot (R47). -/
def HkInput.next (i : HkInput) : HkInput :=
  match i with
  | .batVolt => .batCurr
  | .batCurr => .batTemp
  | .batTemp => .encTemp
  | .encTemp => .heatCurr
  | .heatCurr => .srcVolt
  | .srcVolt => .batVolt

/-- The scaled value of a code (R48). -/
def HkInput.scale (i : HkInput) (code : BitVec 12) : Int :=
  match i with
  | .batVolt => (code.toNat : Int) * 8
  | .batCurr => ((code.toNat : Int) - 2048) * 10
  | .batTemp | .encTemp => (code.toNat : Int) - 1500
  | .heatCurr => (code.toNat : Int) * 2
  | .srcVolt => (code.toNat : Int) * 16

/-- Whether a code is a bad code of a temperature input (R49). -/
def HkInput.bad (i : HkInput) (code : BitVec 12) : Bool :=
  (i == .batTemp || i == .encTemp) && (code == 0 || code == 4095)

/-- The latest value of an input replaced. -/
def Latest.put (l : Latest) (i : HkInput) (v : Int) : Latest :=
  match i with
  | .batVolt => { l with batVolt := some v }
  | .batCurr => { l with batCurr := some v }
  | .batTemp => { l with batTemp := some v }
  | .encTemp => { l with encTemp := some v }
  | .heatCurr => { l with heatCurr := some v }
  | .srcVolt => { l with srcVolt := some v }

/-- The sensor fault latch of a temperature input set or cleared (R49). -/
def Sampler.latch (m : Sampler) (i : HkInput) (fault : Bool) : Sampler :=
  match i with
  | .batTemp => { m with batterySensor := fault }
  | .encTemp => { m with enclosureSensor := fault }
  | _ => m

/-- The bad-code counter of an input raised (R49). -/
def Sampler.countBad (m : Sampler) (i : HkInput) : Sampler :=
  match i with
  | .batTemp => { m with badBattery := bump m.badBattery }
  | .encTemp => { m with badEnclosure := bump m.badEnclosure }
  | _ => m

/-- The housekeeping conversion of the current slot: the latest value, the fault latch and the rotation (R47 to R49). -/
def convertHk (m : Sampler) (code : BitVec 12) : Sampler :=
  let i := m.slot
  if i.bad code then { (m.latch i true).countBad i with slot := i.next }
  else { m.latch i false with latest := m.latest.put i (i.scale code), slot := i.next }

/-- What an input's readers are handed (R50): the value, or none for the fault notice. -/
def hkResult (i : HkInput) (code : BitVec 12) : Option Int := if i.bad code then none else some (i.scale code)

end Sys2Proof.Machine
end

