-- ==== Sys2Proof/Machine/Power.lean ====
section
/-! DEFINITION. The commands of the Battery Monitor and the Heater Controller that name one event of a tick or of a
conversion. Each acts at local time, on the latest values, where its event is due (log entries 2 and 26). -/

namespace Sys2Proof.Machine

/-! ### Battery Monitor -/

/-- SCHEDULE (R164): local time has reached the next due time. -/
def execSchedule (s : State) : Result :=
  doWhen (s.awake && scheduleReached s) s (fun s => engineKick (snapshotDue s .schedule))

/-- OWED_SNAPSHOT (R164): an owed snapshot is formed when no request is placed. -/
def execOwedSnapshot (s : State) : Result := doWhen s.awake s (fun s => engineKick (formOwed s))

/-- Whether the exit on-delay of the current level is met (R158). -/
def exitDue (s : State) : Bool :=
  decide (entryLevel s ≤ s.bat.shed) && decide (1 ≤ s.bat.shed) &&
    (s.bat.exit.eval (exitCondition s s.bat.shed) s.tb.clock 300000000).isMet

/-- SHED_EXIT (R158): the level falls by one. -/
def execShedExit (s : State) : Result :=
  doWhen (s.awake && exitDue s) s (fun s => engineKick (setShed s (s.bat.shed - 1)))

/-- FULL_ANCHOR (R155): Q becomes C. -/
def execFullAnchor (s : State) : Result :=
  doWhen (s.awake && (s.bat.full.eval (fullCondition s) s.tb.clock 600000000).isMet) s fullAnchor

/-- EMPTY_ANCHOR (R156): Q is lowered to C / 20. -/
def execEmptyAnchor (s : State) : Result :=
  doWhen (s.awake && (s.bat.empty.eval (emptyCondition s) s.tb.clock 60000000).isMet) s emptyAnchor

/-! ### Heater Controller -/

/-- The forced-off test that step 4 of an evaluation at local time finds first (R172, R175). -/
def forcedNow (s : State) : Option ForcedCause := if s.heat.on then forcedTest s s.tb.clock s.batteryTemp else none

/-- MAX_ON (R175): HEAT is forced off, max_on being the first test that holds. -/
def execMaxOn (s : State) : Result :=
  doWhen (s.awake && forcedNow s == some .maxOn) s (fun s => forceOff s s.tb.clock .maxOn)

/-- Whether a running deferral has reached defer_max while its switch is still wanted, allowed and quiet-blocked, and is no
freeze-protect turn-on (R177). A forced-off test that holds ends the evaluation before the deferral is weighed (R172). -/
def deferralDue (s : State) : Bool :=
  (forcedNow s).isNone && deferralOver s s.tb.clock && heatWanted s s.batteryTemp != s.heat.on && leastTimeMet s s.tb.clock &&
    !switchFree s s.batteryTemp

/-- DEFERRAL_EXPIRED (R177): the switch is made. -/
def execDeferralExpired (s : State) : Result :=
  doWhen (s.awake && deferralDue s) s (fun s =>
    let s := makeSwitch s s.tb.clock
    { s with heat := { s.heat with expired := bump s.heat.expired } })

/-- HEATER_OPEN_CLEAR (R172, R180): a latch of 3,600 s clears. -/
def execHeaterOpenClear (s : State) : Result :=
  doWhen s.awake s (fun s => { s with heat := s.heat.clearOldOpen s.tb.clock })

/-- Whether the exposure-reset on-delay is met now for the first time (R182). -/
def exposureDue (s : State) : Bool :=
  !s.heat.resetDelay.isMet &&
    (s.heat.resetDelay.eval (warmEnough s.profile.freezeLimit s.batteryTemp) s.tb.clock 3600000000).isMet

/-- EXPOSURE_RESET (R182): the exposure becomes 0. -/
def execExposureReset (s : State) : Result :=
  doWhen (s.awake && exposureDue s) s (fun s =>
    { s with heat := s.heat.exposureDelay s.profile.freezeLimit s.tb.clock s.batteryTemp })

/-- OPEN_CHECK (R179): a heater-current conversion at local time that makes the open check, with what else such a
conversion does (R162). -/
def execOpenCheck (hk : BitVec 12) (s : State) : Result :=
  doWhen (s.awake && openCheckDue s s.tb.clock) s (fun s =>
    heaterCurrent s s.tb.clock (HkInput.scale .heatCurr hk))

end Sys2Proof.Machine
end

