-- ==== Sys2Proof/Machine/LineOps.lean ====
section
/-! DEFINITION. Receiving (R194, R195) and access to the line (R190 to R193). -/

namespace Sys2Proof.Machine

/-! ### Receiving -/

/-- Whether the Line Controller hears the line: enabled, and not transmitting (R194, R199). -/
def State.receiving (s : State) : Bool := s.awake && s.line.rx != .deaf && !s.line.sending

/-- Whether the line is busy (R186): while the part itself transmits, and within 10 bit times of the leading edge of the
last start bit heard. -/
def Line.busy (l : Line) : Bool := l.sending || decide (l.silence < 160)

/-- r of the frame that is being taken: local time at its delimiter (R194); none where no delimiter was heard, as when the
frame was in progress at the enable or beat an own frame (R191). -/
def State.heard (s : State) : Option ArrayTime :=
  match s.receiving, s.line.rx with
  | true, .taking r => some r
  | _, _ => none

/-- The receive state after a start bit is heard (R194): hunting again if the line was idle before it; a delimiter heard
while hunting begins a frame, and r is taken. -/
def Line.hear (l : Line) (now : ArrayTime) (delimiter : Bool) : RxState :=
  match (if l.busy then l.rx else .hunting) with
  | .hunting => if delimiter then .taking now else .hunting
  | x => x

/-- A frame has ended, and the receiver hunts (R194). -/
def endFrame (s : State) : State := { s with line := { s.line with rx := .hunting } }

/-- A frame that fails a check is discarded and counted; the receiver hunts again once the line is idle (R194). -/
def discardFrame (s : State) : State :=
  { s with line := { s.line with rx := .discarded, badFrame := bump s.line.badFrame } }

/-- Whether a kind code is one of the five (R195). -/
def knownKind (kind : Nat) : Bool := 1 ≤ kind && kind ≤ 5

/-- Whether a frame's sender makes it a bad sender: 0, 255, or a station's identifier on a QUERY (R195). -/
def badSenderOf (kind sender : Nat) : Bool :=
  sender == 0 || sender == 255 || (kind == 4 && 1 ≤ sender && sender ≤ 239)

/-- Whether a sender is the own identifier (R29). -/
def ownSender (s : State) (sender : Nat) : Bool := s.ownId == some sender

/-- A bad sender, or else an unknown kind, is counted (R195). -/
def countDiscard (l : Line) (kind sender : Nat) : Line :=
  if badSenderOf kind sender then { l with badSender := bump l.badSender }
  else if !knownKind kind then { l with unknownKind := bump l.unknownKind }
  else l

/-- A valid frame renews the line-quiet timer (R196). -/
def renewValid (s : State) : State :=
  { s with line := { s.line with lastValid := some (usOf s.tb.clock), quiet := false } }

/-- A frame with the own identifier as sender (R29). -/
def ownFrame (s : State) : State :=
  { s with peers := { s.peers with ownIdConflict := true, ownId := bump s.peers.ownId } }

/-- Whether a frame passes every test of R195. -/
def framePasses (s : State) (kind sender : Nat) : Bool :=
  !badSenderOf kind sender && knownKind kind && !ownSender s sender

/-- A frame that passed R194, tested on its sender and kind (R195, R29; log entry 27). -/
def screenFrame (s : State) (kind sender : Nat) : State :=
  let t := { s with line := countDiscard s.line kind sender }
  if ownSender s sender then renewValid (ownFrame t)
  else if framePasses s kind sender then renewValid t
  else t

/-- A frame taken to its end: screened, and handed on where it passes (R195). -/
def takeFrame (s : State) (kind sender : Nat) (work : State → State) : State :=
  if s.heard.isNone then s
  else if framePasses s kind sender then work (screenFrame (endFrame s) kind sender)
  else screenFrame (endFrame s) kind sender

/-! ### Access (R190) -/

/-- How many bits of back-off an attempt draws (R190). -/
def backoffBits (q : QFrame) : Nat :=
  match q.frame with
  | .alert _ => min (q.attempts + 1) 3
  | _ => min (q.attempts + 1) 6

/-- The attempt count at which a frame is dropped (R192). -/
def attemptLimit (q : QFrame) : Nat :=
  match q.frame with
  | .alert _ => 16
  | _ => 12

/-- The contending frame meets its gap and draws its back-off, a free value within 0 to 2^n − 1 slots of 8 bit times
(log entry 8). -/
def drawBackoff (s : State) (q : QFrame) : State :=
  { s with
    line := { s.line with
      access := .backoff (128 * (Config.backoffDraw s.freeCount % 2 ^ backoffBits q)) }
    freeCount := s.freeCount + 1 }

/-- The idle gap of a frame's kind in nominal microseconds: 20, 28 or 36 bit times (R187, R190). -/
def gapUs (q : QFrame) : Nat :=
  match q.frame with
  | .alert _ => 320
  | .pick _ _ _ => 448
  | .beacon _ | .answer _ => 576

/-- Whether the line is idle and its idle time has reached the gap of a frame (R186, R190). -/
def Line.gapMet (l : Line) (q : QFrame) : Bool := !l.sending && decide (160 + gapUs q ≤ l.silence)

/-- The contending frame begins to transmit: the leading edge of its first start bit (R190). -/
def beginSending (s : State) (q : QFrame) : State :=
  { s with
    line := { s.line with
      rx := .hunting, silence := 0, access := .transmitting 0 none, driven := some (frameLevels s.own q none) } }

/-- A start bit is heard: the line is busy, a frame that backs off returns to waiting for its gap (R186, R190), and a
delimiter begins a frame (R194). -/
def startBit (s : State) (delimiter : Bool) : State :=
  { s with
    line := { s.line with
      rx := s.line.hear s.tb.clock delimiter
      silence := 0
      access := match s.line.access with
        | .backoff _ => .waiting
        | a => a } }

/-- How long a frame occupies the line, in nominal microseconds (R186): 160 µs a byte. -/
def frameUs (q : QFrame) : Nat := 160 * q.frame.size

/-- The level that the line driver drives now, true for recessive; none for an undriven line (R186). -/
def Line.level (l : Line) : Option Bool :=
  match l.access, l.driven with
  | .transmitting e _, some levels => levels[e / 16]?
  | _, _ => none

/-- Whether the frame in transmission begins another byte with the next nominal microsecond: a start bit of its own. -/
def Line.startsByte (l : Line) : Bool :=
  match l.access, l.queue with
  | .transmitting e _, q :: _ => (e + 1) % 160 == 0 && decide (e + 1 < frameUs q)
  | _, _ => false

/-- One nominal microsecond of the back-off and of the frame in transmission (R190). -/
def Line.accessTick (l : Line) : Access :=
  match l.access, l.queue with
  | .backoff left, _ => .backoff (left - 1)
  | .transmitting e stamp, q :: _ => .transmitting (min (e + 1) (frameUs q)) stamp
  | a, _ => a

/-- One nominal microsecond at the Line Controller (R186, R190; log entry 29): once it is enabled it counts the silence of
the line, the back-off and the frame in transmission. -/
def Line.tick (l : Line) : Line :=
  if l.rx = .deaf then l
  else { l with silence := if l.startsByte then 0 else min (l.silence + 1) 736, access := l.accessTick }

/-- The departure stamp taken from local time as the leading edge of a BEACON's start delimiter leaves, 20 bit times after
the frame's first start bit, and inserted into the frame (R12, R187). -/
def takeStamp (s : State) : State :=
  match s.line.access, s.line.queue with
  | .transmitting e none, q :: _ =>
    if q.isBeacon && e == 320 then
      { s with
        line := { s.line with
          access := .transmitting e (some s.tb.clock), driven := some (frameLevels s.own q (some s.tb.clock)) } }
    else s
  | _, _ => s

/-- One nominal microsecond at the Line Controller, after that of local time. -/
def lineTick (s : State) : State := takeStamp { s with line := s.line.tick }

/-- The frame at the head has left the line, and leaves the queue: the next head begins access afresh. -/
def leaveQueue (l : Line) : Line :=
  { l with queue := l.queue.drop 1, access := freshAccess (l.queue.drop 1), driven := none }

/-- The completion of an ALERT reported to the Event Table (R113); of another frame, nothing. -/
def reportFrame (s : State) (q : QFrame) (failed : Bool) : State :=
  match q.frame with
  | .alert a => alertDone s a.serial failed
  | _ => s

/-- The frame in transmission has been sent (R193). -/
def frameDone (s : State) (q : QFrame) : State :=
  reportFrame { s with line := { leaveQueue s.line with sent := bump s.line.sent } } q false

/-- A failed attempt that reaches the limit: the frame is dropped (R192). -/
def frameDropped (s : State) (q : QFrame) : State :=
  reportFrame { s with line := { leaveQueue s.line with dropped := bump s.line.dropped } } q true

/-- A failed attempt: the frame stays at the head of the queue and waits for the gap again (R191); a departure stamp taken
for it is thrown away (R192). -/
def frameFailed (s : State) (q : QFrame) : State :=
  { s with
    line := { s.line with
      queue := { q with attempts := q.attempts + 1 } :: s.line.queue.drop 1
      access := .waiting
      driven := none } }

/-- A mismatch met by the frame in transmission (R191, R192). -/
def frameMismatch (s : State) (q : QFrame) : State :=
  let s := { s with line := { s.line with collisions := bump s.line.collisions } }
  if attemptLimit q ≤ q.attempts + 1 then frameDropped s q else frameFailed s q

end Sys2Proof.Machine
end

