-- ==== Sys2Proof/Machine/Flags.lean ====
section
/-! DEFINITION. The fault latches, the FAULT line and the output pins, all computed from the blocks' own state
(R207, R213 to R215). -/

namespace Sys2Proof.Machine

/-- The fault latches in the order of the LATCH CLEAR table (R207). -/
def faultLatches (s : State) : List Bool :=
  [s.peers.ownIdConflict, s.peers.idConflict, s.sampler.batterySensor, s.sampler.enclosureSensor,
    s.bat.careLost, s.heat.openSince.isSome, s.heat.stuck]

/-- The FAULT line (R213); low while the part is stopped (R215). -/
def faultLine (s : State) : Bool := s.awake && (s.listenOnly || (faultLatches s).any id)

/-- The output pins (12.3): the uplink output is high at its stop and idle level (R118), and the array line is undriven, or
driven recessive or dominant (R186). -/
structure Pins where
  heat     : Bool
  chargeEn : Bool
  alert    : Bool
  fault    : Bool
  powerZ   : Bool
  powerN   : Bool
  powerE   : Bool
  uplink   : Bool
  line     : Option Bool
  deriving DecidableEq, Repr

/-- The levels of the output pins: each its owner's, and low, idle or undriven while the part is stopped (R215); for the
line, true is recessive. -/
def State.pins (s : State) : Pins where
  heat := s.awake && s.heat.on
  chargeEn := s.awake && s.bat.permit
  alert := s.awake && s.events.alertLine
  fault := faultLine s
  powerZ := s.awake && s.sampler.powered.z
  powerN := s.awake && s.sampler.powered.n
  powerE := s.awake && s.sampler.powered.e
  uplink := !s.awake || s.events.uplinkLevel
  line := if s.awake then s.line.level else none

end Sys2Proof.Machine
end

