-- ==== Sys2Proof/Machine/SteeringOps.lean ====
section
/-! DEFINITION. The steering instant, the PPS edge, SET SECONDS and the line-quiet section reset of the Timebase
(chapter 1 and R196). -/

namespace Sys2Proof.Machine

/-! ### The reference set and the error (R15, R17) -/

/-- Whether a peer qualifies at an instant (R15). -/
def PeerEntry.qualifies (e : PeerEntry) (now : ArrayTime) : Bool :=
  e.live now && !e.conflict && e.fresh && decide (e.grade ≤ 14)

/-- The qualifying peers. -/
def qualifying (s : State) : List PeerEntry := s.peers.entries.filter (fun e => e.qualifies s.tb.clock)

/-- The least grade among peers, if there is one: g* of the qualifying peers (R15). -/
def leastGrade (es : List PeerEntry) : Option Nat :=
  match es with
  | [] => none
  | e :: rest =>
    match leastGrade rest with
    | none => some e.grade
    | some g => some (min e.grade g)

/-- A value at its place in ascending order. -/
def insertAsc (x : Int) (xs : List Int) : List Int :=
  match xs with
  | [] => [x]
  | y :: rest => if x ≤ y then x :: y :: rest else y :: insertAsc x rest

/-- Values in ascending order. -/
def sortAsc (xs : List Int) : List Int :=
  match xs with
  | [] => []
  | x :: rest => insertAsc x (sortAsc rest)

/-- The lower median: of n values the one at position floor((n − 1) / 2) (R17). -/
def lowerMedian (xs : List Int) : Int := (sortAsc xs).getD ((xs.length - 1) / 2) 0

/-- The offsets of the reference set: the qualifying peers of grade exactly `g` (R15). -/
def referenceOffsets (s : State) (g : Nat) : List Int :=
  ((qualifying s).filter (fun e => e.grade == g)).map PeerEntry.offset

/-! ### Corrections (R18, R19) -/

/-- A step if the error exceeds 1,000 µs, else a PI update over the interval (R18, R8). -/
def correctBy (s : State) (e t : Int) : State :=
  if 1000 < |e| then stepClock s (-e) else { s with tb := s.tb.piUpdate e t }

/-- p set to 0, as on every path that computes no error (R16). -/
def clearP (s : State) : State := { s with tb := { s.tb with p := 0 } }

/-- A time state and grade outside HOLDOVER, whose entry values lapse. -/
def enterState (s : State) (state : TimeState) (grade : Nat) : State :=
  { s with tb := { s.tb with state := state, grade := grade, holdover := none } }

/-- The state leaves UNSET: the seed is emptied and the exit reported to the Heater Controller (R14, R25). -/
def leaveUnset (s : State) : State :=
  { s with tb := { s.tb with seed := none }, heat := s.heat.reportExit s.tb.clock }

/-! ### The paths of an instant (R10, R16) -/

/-- Whether PPS is lost (R10). -/
def ppsLost (s : State) : Bool :=
  !s.profile.ppsEnable ||
    (match s.tb.ppsLast with
      | none => true
      | some t => decide (64000000 ≤ diffUs s.tb.clock t))

/-- The seed step (R17): local time becomes the reckoned time plus the time since the seed's arrival. -/
def seedStep (s : State) (seed : Seed) (g : Nat) : State :=
  let target := addUs seed.reckoned (diffUs s.tb.clock seed.arrival)
  leaveUnset (enterState (stepClock s (diffUs target s.tb.clock)) .following (min (g + 1) 14))

/-- The path in UNSET (R16). -/
def unsetPath (s : State) : State :=
  match leastGrade (qualifying s), s.tb.seed with
  | some g, some seed => seedStep s seed g
  | _, _ => clearP s

/-- The HOLDOVER path: the entry values are captured on entering it (R6, R16). -/
def holdoverPath (s : State) (grade : Nat) : State :=
  clearP (if s.tb.state = .holdover then s else enterHoldover s grade)

/-- The paths outside UNSET for a station of grade `own` (R16). -/
def peerPath (s : State) (own : Nat) : State :=
  match leastGrade (qualifying s) with
  | none => holdoverPath s own
  | some g =>
    if g < own then
      correctBy (enterState s .following (min (g + 1) 14)) (-lowerMedian (referenceOffsets s g)) s.tb.interval
    else if g = own then
      correctBy (enterState s .consensus own) (-lowerMedian (0 :: referenceOffsets s g)) s.tb.interval
    else holdoverPath s own

/-- The path of a steering instant (R16). -/
def steerPath (s : State) : State :=
  match s.tb.state with
  | .unset => unsetPath s
  | .anchored => if ppsLost s then peerPath s 1 else clearP s
  | _ => peerPath s s.tb.grade

/-! ### The instant (R11, R20) -/

/-- Whether the scheduled instant has been reached. -/
def instantReached (s : State) : Bool :=
  match s.tb.nextInstant with
  | none => false
  | some t => decide (0 ≤ diffUs s.tb.clock t)

/-- The next instant scheduled from this one's time (R11). -/
def scheduleInstant (s : State) : State :=
  let n := beaconInterval s.profile s.bat.shed
  { s with
    tb :=
      { s.tb with
        nextInstant := s.tb.nextInstant.map (fun t => addUs t ((n : Int) * 1000000))
        interval := n } }

/-- The content of the own BEACON as it stands (R188). -/
def beaconContent (s : State) : BeaconContent where
  state := s.tb.state
  grade := s.tb.grade
  code := intervalCode s.tb.interval
  shed := s.bat.shed
  running := s.det.running
  linePos := s.profile.linePos
  east := s.profile.east
  north := s.profile.north
  soc := s.soc
  temp := s.sampler.latest.batTemp

/-- The own BEACON asked for, but not in listen-only (R11). -/
def askBeacon (s : State) : State :=
  if s.listenOnly then s else offerFrame s (.beacon (beaconContent s)) none

/-- The UNSET seed emptied (R20). -/
def emptySeed (s : State) : State := { s with tb := { s.tb with seed := none } }

/-- The stepped indication cleared (R20). -/
def clearStepped (s : State) : State := { s with tb := { s.tb with stepped := false } }

/-- Steps 1 to 3 of an instant (R20): the path with any step it takes, and the shift of the heard history (R36). -/
def shiftedInstant (s : State) : State := shiftHeard (steerPath (reformGrade (clearStepped s)))

/-- The work of a steering instant, in the order of R20; expiry follows the shift of the heard history (R37). -/
def steeringWork (s : State) : State := askBeacon (scheduleInstant (emptySeed (expirePeers (shiftedInstant s))))

/-- Whether an instant that runs now removes an entry: one has expired after the path's step and the shift (R37). -/
def instantExpires (s : State) : Bool :=
  (shiftedInstant s).peers.entries.any (fun e => e.expired (shiftedInstant s).tb.clock)

/-! ### The PPS edge (R7 to R9) -/

/-- The signed distance of local time from the nearest whole second (R7). -/
def ppsError (t : ArrayTime) : Int := if t.us < 500000 then (t.us : Int) else (t.us : Int) - 1000000

/-- An accepted edge sets the run to 0 and records local time after any step it causes (R7). -/
def ppsTaken (s : State) : State := { s with tb := { s.tb with ppsRun := 0, ppsLast := some s.tb.clock } }

/-- A rejected edge (R7). -/
def ppsRejected (s : State) : State :=
  { s with tb := { s.tb with ppsRun := s.tb.ppsRun + 1, ppsRejects := bump s.tb.ppsRejects } }

/-- The input marked aligned (R8, R9). -/
def markAligned (s : State) : State := { s with tb := { s.tb with ppsAligned := true } }

/-- A re-acquire edge (R9): a step in every state. -/
def ppsReacquire (s : State) (e : Int) : State :=
  let s := stepClock s (-e)
  if s.tb.state = .unset then markAligned s else enterState s .anchored 0

/-- An accepted edge in UNSET (R8): the first alignment always steps (log entry 21). -/
def ppsAlign (s : State) (e : Int) : State :=
  markAligned (if e = 0 && s.tb.ppsAligned then s else stepClock s (-e))

/-- An accepted edge outside UNSET (R8). -/
def ppsAnchor (s : State) (e : Int) : State :=
  let s := enterState s .anchored 0
  if e = 0 then s else correctBy s e 1

/-- A rising PPS edge (R7). -/
def ppsEdgeWork (s : State) : State :=
  let e := ppsError s.tb.clock
  if s.tb.ppsRun = 4 then ppsTaken (ppsReacquire s e)
  else if s.tb.state = .unset then
    if !s.tb.ppsAligned || |e| ≤ (s.profile.ppsWindow : Int) * 1000 then ppsTaken (ppsAlign s e)
    else ppsRejected s
  else if |e| ≤ (s.profile.ppsWindow : Int) * 1000 then ppsTaken (ppsAnchor s e)
  else ppsRejected s

/-! ### SET SECONDS (R23) -/

/-- Whether SET SECONDS is accepted (R23). -/
def secondsAccepted (s : State) : Bool :=
  s.tb.state == .unset || (s.tb.state == .holdover && s.tb.grade == 14)

/-- SET SECONDS acted on (R23): a step of the seconds, and HOLDOVER at entry grade 14. -/
def setSecondsWork (s : State) (seconds : Nat) : State :=
  let was := s.tb.state
  let s := enterHoldover (stepClock s (((seconds : Int) - (s.tb.clock.sec : Int)) * 1000000)) 14
  if was = .unset then leaveUnset s else s

/-! ### The section reset (R24, R40, R100, R196) -/

/-- Whether the quiet test of a tick makes a section reset (R196). -/
def quietReached (s : State) : Bool :=
  !s.line.quiet &&
    (match s.line.lastValid with
      | none => false
      | some t => decide (300000000 ≤ usOf s.tb.clock - t))

/-- A FOLLOWING or CONSENSUS station enters HOLDOVER at a section reset (R24). -/
def sectionTime (s : State) : State :=
  if s.tb.state = .following || s.tb.state = .consensus then clearP (enterHoldover s s.tb.grade) else s

/-- A section reset (R196): the Peer Table is emptied (R40), the Pick List keeps the own entries (R100), and the
Timebase acts as R24 states. -/
def sectionResetWork (s : State) : State :=
  let s := { s with
    line := { s.line with quiet := true, sectionResets := bump s.line.sectionResets } }
  let s := removePeers s (fun _ => true)
  sectionTime { s with
    picks := { s.picks with entries := s.picks.entries.filter (fun e => s.ownId == some e.origin) } }

/-- The quiet test of a tick (R196). -/
def quietTest (s : State) : State := if quietReached s then sectionResetWork s else s

end Sys2Proof.Machine
end

