-- ==== Sys2Proof/Machine/StatusOps.lean ====
section
/-! DEFINITION. The data of the answers: the nine STATUS sections (R201) and the entries of PEER, EVENT and RECORD (R202),
in the widths of R216. The values of a section stand in R201's order; flags that come one after another there share bytes
(log entry 18). Which values are flags is log entry 60, the width of the counts of entries log entry 59, and a value beyond
its field log entries 33 and 58. -/

namespace Sys2Proof.Machine

/-- Counters of two bytes. -/
def counterBytes (cs : List Nat) : List Byte := cs.flatMap (beBytes 2)

/-- An optional value of one byte, 0xFF when absent. -/
def optCode (o : Option Nat) : Byte := byteOf (o.getD 255)

/-- Whole seconds of a signed count of microseconds, floored. -/
def wholeSeconds (us : Int) : Int := us / 1000000

/-- A shed level, grade, state or small count. -/
def small (n : Nat) : List Byte := [byteOf n]

/-! ### STATUS (R201) -/

/-- Section 0: the station. DESIGN CHOICE (log entry 60): HEAT, CHARGE_EN, the ALERT line and the FAULT line are flags, of one
bit each, and share bytes with the latches and the listen-only flag; R216 can be read to give each of them, as a level, a
byte. -/
def statusStation (s : State) : List Byte :=
  timeBytes s.tb.clock ++ small s.tb.state.code ++ small s.tb.grade ++ beInt 4 s.tb.steerF ++ small s.bat.shed ++
    beBytes 2 s.soc ++ optInt16 s.sampler.latest.batTemp ++ optInt16 s.sampler.latest.encTemp ++
    flagBytes ([s.heat.on, s.bat.permit, s.events.alertLine, faultLine s] ++ faultLatches s ++ [s.listenOnly]) ++
    small s.listenCause.code ++ counterBytes [s.clamped] ++ flagBytes [s.query.restartPending] ++
    counterBytes [s.query.taken, s.query.bad, s.query.ignored]

/-- Section 1: the Timebase; the PPS bookkeeping in the order of R7: the mark, the run, the last accepted time (log entry
18). -/
def statusTime (s : State) : List Byte :=
  beInt 4 s.tb.p ++ beInt 4 s.tb.tc ++ beInt 4 s.tb.correction ++
    [optCode (s.tb.holdover.map Holdover.grade)] ++ optInt16 (s.tb.holdover.map Holdover.temp) ++
    optTime (s.tb.holdover.map Holdover.time) ++ flagBytes [s.tb.ppsAligned] ++ small s.tb.ppsRun ++
    optTime s.tb.ppsLast ++ flagBytes [s.tb.stepped] ++ optTime s.tb.nextInstant ++
    counterBytes [s.tb.steps, s.tb.ppsRejects]

/-- An unsigned housekeeping value of two bytes, 0xFFFF when absent. -/
def optUnsigned (o : Option Int) : List Byte := optBytes 2 (o.map Int.toNat)

/-- Section 2: the Sampler. DESIGN CHOICE (log entry 18): the power flags of Z, N and E come first, in one byte, and their
three settling counts after it. DESIGN CHOICE (log entry 59): the count of sets held in the ring, 0 to 4,096, takes 2 bytes;
R216's table gives it no width. -/
def statusSampler (s : State) : List Byte :=
  let l := s.sampler.latest
  let m := s.sampler
  optUnsigned l.batVolt ++ optInt16 l.batCurr ++ optInt16 l.batTemp ++ optInt16 l.encTemp ++
    optUnsigned l.heatCurr ++ optUnsigned l.srcVolt ++ flagBytes [m.powered.z, m.powered.n, m.powered.e] ++
    small m.settling.z ++ small m.settling.n ++ small m.settling.e ++ beBytes 2 m.ring.length ++
    counterBytes [m.clips.z, m.clips.n, m.clips.e, m.badBattery, m.badEnclosure]

/-- A channel in section 3: its state, s, l and last-trigger record but for its flags. DESIGN CHOICE (log entry 58): a duration
beyond its 3 bytes is sent modulo 2^24. -/
def channelBytes (c : ChanDet) : List Byte :=
  small c.state.code ++ optBytes 4 (c.avg.map (fun a => a.s.toNat)) ++ optBytes 4 (c.avg.map (fun a => a.l.toNat)) ++
    optTime (c.last.map LastTrigger.onset) ++ optBytes 3 (c.last.map LastTrigger.duration) ++
    optBytes 3 (c.last.map (fun r => r.peak.toNat)) ++ [optCode (c.last.map (fun r => r.ended.code))]

/-- The long and clipped flags of a channel's last-trigger record. DESIGN CHOICE (log entry 62): both are 0 where the channel
has no record; R216 gives a flag no absent form. -/
def channelFlags (c : ChanDet) : List Bool :=
  match c.last with
  | none => [false, false]
  | some r => [r.ended == .long, r.clipped]

/-- Section 3: the Detector; the one byte of its eight flags stands where R201 lists the station trigger and the running
flag, in the order in which R216 names them. -/
def statusDetector (s : State) : List Byte :=
  let d := s.det
  channelBytes d.chan.z ++ channelBytes d.chan.n ++ channelBytes d.chan.e ++
    flagBytes ([d.trigger, d.running] ++ channelFlags d.chan.z ++ channelFlags d.chan.n ++ channelFlags d.chan.e) ++
    optTime (d.guard.map Guard.opens) ++ small d.pickSeq ++ optTime d.prevPick ++
    counterBytes [d.formed, d.guardSup, d.repickSup, d.longTrig]

/-- Section 4: the Peer Table, the Pick List and the Event Table, their counts of entries in one byte each (log entry 59). -/
def statusTables (s : State) : List Byte :=
  small s.peers.entries.length ++ small (ableCount s) ++ small s.picks.entries.length ++
    small (s.picks.entries.filter PickEntry.free).length ++ small s.events.entries.length ++
    small (s.events.entries.filter (·.active)).length ++
    counterBytes [s.peers.refused, s.peers.full, s.peers.conflicts, s.peers.ownId,
      s.picks.malformed, s.picks.future, s.picks.stale, s.picks.duplicate, s.picks.displaced, s.picks.declared,
      s.events.declRefused, s.events.alertRefused, s.events.alertMalformed, s.events.alertLate, s.events.sendFailed,
      s.events.uplinkDropped]

/-- How many requests wait in each class of the engine (R128). DESIGN CHOICE (log entry 40): the placed care request waits in
class 1 but while its ERASE or its PROGRAM is in flight. -/
def waitingCounts (s : State) : List Nat :=
  [match s.bat.placed with
    | some r => if r.stage = .needErase || r.stage = .needProgram then 1 else 0
    | none => 0,
   s.rm.marks.length, if s.rm.programReq then 1 else 0, if s.rm.eraseAhead.isSome then 1 else 0, s.rm.wipeList.length]

/-- How many pages are of each kind: CARE, FREE-ERASED, FREE-DIRTY and OWNED (R123). -/
def kindCounts (s : State) : List Nat :=
  [(s.rm.map.filter (· == .care)).length, (s.rm.map.filter (· == .freeErased)).length,
   (s.rm.map.filter (· == .freeDirty)).length,
   (s.rm.map.filter (fun k => !k.isFree && k != .care)).length]

/-- Section 5: the Record Memory. DESIGN CHOICE (log entry 41): with a new record waiting while the capture is CLOSING, the
record being made is the new one, which R132 calls the capture's record. -/
def statusRecords (s : State) : List Byte :=
  let m := s.rm
  small m.cap.mode.code ++ optBytes 4 (m.cap.waiting.or m.cap.recId) ++ flagBytes [m.wiping] ++
    [optCode (m.flight.map EngineOp.code)] ++
    counterBytes (waitingCounts s) ++ counterBytes (kindCounts s) ++ small m.dir.length ++ beBytes 4 m.nextId ++
    beBytes 2 m.allocPtr ++
    counterBytes [m.started, m.refused, m.reclaimed, m.closedFull, m.closedPower, m.closedOverrun, m.torn, m.dropped]

/-- A snapshot's sequence number and cause. -/
def snapshotPair (o : Option (Nat × Nat)) : List Byte :=
  optBytes 4 (o.map Prod.fst) ++ [optCode (o.map Prod.snd)]

/-- Section 6: the Battery Monitor. DESIGN CHOICE: the exit on-delay's elapsed time is reported in whole seconds, floored (log
entry 54), as 0 where a backward step or the wrap has put its start after local time (log entry 42), and as absent, 0xFFFF, while
the on-delay does not run (log entry 63). DESIGN CHOICE (log entry 58): one over 65,535 s, which a step of local time can make
until the next evaluation, is sent modulo 65,536, the width of R216. -/
def statusBattery (s : State) : List Byte :=
  let b := s.bat
  beBytes 5 b.q ++ small b.shed ++ flagBytes [b.exit.start.isSome] ++
    optBytes 2 (b.exit.start.map (fun t => (wholeSeconds (diffUs s.tb.clock t)).toNat)) ++
    small b.permission.code ++ beBytes 4 b.heaterDraw ++
    snapshotPair (b.lastDone.map (fun r => (r.1, r.2.code))) ++ snapshotPair b.restored ++
    flagBytes [b.placed.isSome, b.owed.isSome] ++
    counterBytes [b.fullAnchors, b.emptyAnchors, b.shedRaises, b.written, b.permitDrops]

/-- Section 7: the Heater Controller; of the stopwatch the exposure, the state and whether the budget is spent, in the order
of R181. -/
def statusHeater (s : State) : List Byte :=
  let h := s.heat
  beInt 2 (setpoint s) ++ timeBytes h.since ++ flagBytes [h.deferral.isSome] ++ optTime h.deferral ++
    [optCode (h.lastForced.map ForcedCause.code)] ++ beBytes 4 h.exposure ++
    small (if h.accumulating then 1 else 0) ++ flagBytes [s.budgetSpent, h.resetDelay.start.isSome] ++
    counterBytes [h.starts, h.forcedOffs, h.deferred, h.expired, h.resets, h.opens]

/-- How many queued frames are of a kind. -/
def queuedOf (l : Line) (kind : Nat) : Nat := (l.queue.filter (fun q => q.frame.kindCode == kind)).length

/-- The milliseconds since the last valid frame. DESIGN CHOICE: rounded down (log entry 64), and 0 where the wrap of local time
has put that frame after it (log entry 65). -/
def quietMs (s : State) : Option Nat :=
  s.line.lastValid.map (fun t => ((usOf s.tb.clock - t) / 1000).toNat)

/-- Section 8: the Line Controller. DESIGN CHOICE (log entry 18): the frames queued by kind are four counts of one byte, of ALERT,
PICK, BEACON and ANSWER, in the order of the kinds' codes; a station queues no QUERY. A time since the last valid frame beyond
4 bytes is sent modulo 2^32 (log entry 58). -/
def statusLine (s : State) : List Byte :=
  let l := s.line
  small (queuedOf l 1) ++ small (queuedOf l 2) ++ small (queuedOf l 3) ++ small (queuedOf l 5) ++ small l.seq ++
    optBytes 4 (quietMs s) ++ flagBytes [l.quiet] ++
    counterBytes [l.sent, l.collisions, l.dropped, l.refused, l.displaced, l.replaced, l.skipped, l.badFrame,
      l.badSender, l.unknownKind, l.sectionResets]

/-- A STATUS section (R201). -/
def statusSection (s : State) (sect : Nat) : List Byte :=
  match sect with
  | 0 => statusStation s
  | 1 => statusTime s
  | 2 => statusSampler s
  | 3 => statusDetector s
  | 4 => statusTables s
  | 5 => statusRecords s
  | 6 => statusBattery s
  | 7 => statusHeater s
  | _ => statusLine s

/-! ### Entries (R202, R216) -/

/-- A PEER entry (2.1), with its live flag and the age of its last beacon (R27); a negative age in two's complement (log entry
58). -/
def peerBytes (e : PeerEntry) (now : ArrayTime) : List Byte :=
  small e.id ++ beBytes 2 e.linePos ++ beInt 2 e.east ++ beInt 2 e.north ++ small (intervalCode e.interval) ++
    timeBytes e.last ++ beInt 4 e.offset ++ small e.state.code ++ small e.grade ++ small e.shed ++ beBytes 2 e.soc ++
    beInt 2 e.temp ++
    flagBytes [e.fresh, e.running, e.heardA, e.heardB, e.heardC, e.conflict, e.live now] ++
    beInt 4 (wholeSeconds (e.age now))

/-- A list of identifiers: its count, then its members (R216). -/
def listBytes (ids : List Nat) : List Byte := byteOf ids.length :: ids.map byteOf

/-- An EVENT entry (6.2), with the age of its last activity (R104); a negative age in two's complement (log entry 58). -/
def eventBytes (e : EventEntry) (now : ArrayTime) : List Byte :=
  keyBytes e.key ++ small (if e.active then 0 else 1) ++ listBytes e.votes ++ listBytes e.declaredBy ++
    [optCode e.kNeeded] ++ small e.best ++ small e.amp ++ optInt16 (e.position.map Prod.fst) ++
    optInt16 (e.position.map Prod.snd) ++ optBytes 4 e.recordId ++ timeBytes e.lastActivity ++
    small e.repeatsLeft ++ optTime e.repeatDue ++ flagBytes [e.localDecl] ++
    beInt 4 (wholeSeconds (diffUs now e.lastActivity))

/-- A RECORD entry (R126). -/
def recordBytes (e : DirEntry) : List Byte :=
  beBytes 4 e.id ++ small (if e.closed then 1 else 0) ++ small e.hold.code ++ optBytes 2 e.firstPage ++
    beBytes 2 e.pages ++ timeBytes e.firstSet ++ optTime e.lastSet ++ [optCode (e.endCause.map EndCause.code)] ++
    [optCode (e.eventRef.map Key.origin)] ++ optTime (e.eventRef.map Key.time)

/-- An entry at its place in key order (R104). -/
def insertEvent (e : EventEntry) (es : List EventEntry) : List EventEntry :=
  match es with
  | [] => [e]
  | x :: rest => if keyBefore e.key x.key then e :: x :: rest else x :: insertEvent e rest

/-- Event Table entries in key order (R104). -/
def eventsInOrder (es : List EventEntry) : List EventEntry :=
  match es with
  | [] => []
  | e :: rest => insertEvent e (eventsInOrder rest)

end Sys2Proof.Machine
end

