-- ==== Sys2Proof/Machine/QueryOps.lean ====
section
/-! DEFINITION. Taking a query (R200), its answer, and what the state-changing queries and the page reads do
(R143 to R145, R207, R208). -/

namespace Sys2Proof.Machine

/-! ### Results (R216) -/

/-- The results of a query. -/
inductive QueryResult where
  | ok | busy | notFound | refused | badRequest
  deriving DecidableEq, Repr

/-- Result codes (R216). -/
def QueryResult.code (r : QueryResult) : Nat :=
  match r with
  | .ok => 0
  | .busy => 1
  | .notFound => 2
  | .refused => 3
  | .badRequest => 4

/-- What a query leaves: the state, the result and the data of its answer. -/
structure Reply where
  state  : State
  result : QueryResult
  data   : List Byte

/-! ### Taking a query (R200) -/

/-- The ANSWER handed to the transmit queue (R188, R200). -/
def sendAnswer (s : State) (q : QueryHeader) (code : Nat) (r : QueryResult) (data : List Byte) : State :=
  offerFrame s (.answer ⟨q.sender.toNat, code, r.code, data⟩) (some q.seq.toNat)

/-- A query in listen-only that gets no answer (R200). -/
def ignoreQuery (s : State) : State := { s with query := { s.query with ignored := bump s.query.ignored } }

/-- A query carried out adds one to the queries taken (R200). -/
def countTaken (s : State) : State := { s with query := { s.query with taken := bump s.query.taken } }

/-- A query answered BAD_REQUEST (R200); in listen-only it is ignored (log entry 34). -/
def badRequest (s : State) (q : QueryHeader) (code : Nat) : State :=
  if s.listenOnly then ignoreQuery s
  else sendAnswer { s with query := { s.query with bad := bump s.query.bad } } q code .badRequest []

/-- A query carried out and answered; in listen-only STATUS alone is (R200). -/
def carryOut (s : State) (q : QueryHeader) (code : Nat) (work : State → Reply) : State :=
  if s.listenOnly && code != 1 then ignoreQuery s
  else
    let r := work s
    sendAnswer (countTaken r.state) q code r.result r.data

/-- A QUERY frame heard: screened, and handed to the handler when its target is the own identifier (R195). -/
def takeQuery (s : State) (q : QueryHeader) (handler : State → State) : State :=
  takeFrame s 4 q.sender.toNat (fun s =>
    if s.ownId = some q.target.toNat then engineKick (handler s) else s)

/-- A reply that changes nothing. -/
def plainReply (s : State) (r : QueryResult) (data : List Byte) : Reply := ⟨s, r, data⟩

/-- The entry an index names, or NOT_FOUND (R202). -/
def entryReply (s : State) (entry : Option (List Byte)) : Reply :=
  match entry with
  | some data => plainReply s .ok data
  | none => plainReply s .notFound []

/-! ### PAGE (R144) -/

/-- The page that the map gives for a record and an index. -/
def pageOf (s : State) (id idx : Nat) : Option Nat :=
  (List.range pageCount).find? (fun p =>
    match s.kindOf p with
    | .owned r i _ => r == id && i == idx
    | _ => false)

/-- Whether the engine has an operation in flight on the bank of a page (R144). -/
def bankBusy (s : State) (page : Nat) : Bool :=
  match s.rm.flight with
  | none => false
  | some o => bankOf o.page == bankOf page

/-- A PAGE query answered (R144, R203). -/
def pageReply (s : State) (id idx slice : Nat) : Reply :=
  if s.rm.wiping then plainReply s .busy []
  else
    match pageOf s id idx with
    | none => plainReply s .notFound []
    | some p =>
      if bankBusy s p then plainReply s .busy []
      else if (dirFind s id).isSome && s.pageProgrammed p then
        plainReply s .ok (memRange s.mem (pageBase p + slice * 64) 64)
      else plainReply s .notFound []

/-! ### RELEASE (R143) -/

/-- Whether a record's release MARK waits or is in flight (R143). -/
def releaseAsked (s : State) (id : Nat) : Bool :=
  s.rm.marks.any (fun m => m.recId == id && m.which == 1) ||
    (match s.rm.flight with
      | some (.mark m) => m.recId == id && m.which == 1
      | _ => false)

/-- A RELEASE query acted on (R143, R204). -/
def releaseReply (s : State) (id : Nat) : Reply :=
  match dirFind s id with
  | none => plainReply s .refused []
  | some e =>
    if e.hold != .held then plainReply s .refused []
    else if releaseAsked s id then plainReply s .ok []
    else
      match e.firstPage with
      | none => plainReply s .refused []
      | some p => ⟨{ s with rm := { s.rm with marks := s.rm.marks ++ [⟨id, p, 1⟩] } }, .ok, []⟩

/-! ### WIPE (R145) -/

/-- The pool pages, in order of page number (R123). -/
def poolPages : List Nat := List.range 252 ++ (List.range 252).map (· + 256)

/-- A wipe begins (R145). -/
def wipeWork (s : State) : State :=
  { s with
    rm :=
      { s.rm with
        dir := []
        map := s.rm.map.map (fun k => if k = .care then .care else .freeDirty)
        marks := []
        eraseAhead := none
        programReq := false
        wipeList := poolPages
        wiping := true } }

/-- A WIPE query acted on (R145, R205). -/
def wipeReply (s : State) : Reply :=
  if s.rm.wiping then plainReply s .busy []
  else if s.rm.cap.mode != .idle then plainReply s .refused []
  else ⟨wipeWork s, .ok, []⟩

/-! ### SET SECONDS and RESTART (R206, R208) -/

/-- A SET SECONDS query acted on (R23, R206). -/
def secondsReply (s : State) (seconds : Nat) : Reply :=
  if secondsAccepted s then ⟨setSecondsWork s seconds, .ok, []⟩ else plainReply s .refused []

/-- A RESTART query acted on (R208): the mark is set and a RESTART snapshot falls due. -/
def restartReply (s : State) : Reply :=
  if s.query.restartPending then plainReply s .busy []
  else ⟨snapshotDue { s with query := { s.query with restartPending := true } } .restart, .ok, []⟩

/-! ### LATCH CLEAR (R207) -/

/-- The latch effects of LATCH CLEAR, the drop of the charge permit among them (R161, R207); ID CONFLICT latches again
at once while an entry is in conflict (R32). -/
def clearLatches (s : State) : State :=
  let s := dropPermit s
  { s with
    peers := { s.peers with ownIdConflict := false, idConflict := s.peers.entries.any (·.conflict) }
    sampler := { s.sampler with batterySensor := false, enclosureSensor := false }
    bat := { s.bat with careLost := false }
    heat := { s.heat with openSince := none, stuck := false } }

/-- The counters of the blocks from the Timebase to the Event Table set to 0 (R7, R21, R39, R55, R81, R102, R121). -/
def clearCounters (s : State) : State :=
  { s with
    tb := { s.tb with ppsRejects := 0, steps := 0 }
    peers := { s.peers with refused := 0, full := 0, conflicts := 0, ownId := 0 }
    sampler := { s.sampler with clips := ⟨0, 0, 0⟩, badBattery := 0, badEnclosure := 0 }
    det := { s.det with formed := 0, guardSup := 0, repickSup := 0, longTrig := 0 }
    picks := { s.picks with malformed := 0, future := 0, stale := 0, duplicate := 0, displaced := 0, declared := 0 }
    events :=
      { s.events with
        declRefused := 0, alertRefused := 0, alertMalformed := 0, alertLate := 0, sendFailed := 0, uplinkDropped := 0 } }

/-- The counters of the blocks from the Record Memory to the query handler, and the heater-draw total, set to 0
(R150, R169, R184, R198, R209). -/
def clearMoreCounters (s : State) : State :=
  { s with
    rm :=
      { s.rm with
        started := 0, refused := 0, reclaimed := 0, closedFull := 0, closedPower := 0, closedOverrun := 0, torn := 0
        dropped := 0 }
    bat :=
      { s.bat with
        heaterDraw := 0, fullAnchors := 0, emptyAnchors := 0, shedRaises := 0, written := 0, permitDrops := 0 }
    heat := { s.heat with starts := 0, forcedOffs := 0, deferred := 0, expired := 0, resets := 0, opens := 0 }
    line :=
      { s.line with
        sent := 0, collisions := 0, dropped := 0, refused := 0, displaced := 0, replaced := 0, skipped := 0
        badFrame := 0, badSender := 0, unknownKind := 0, sectionResets := 0 }
    query := { s.query with taken := 0, bad := 0, ignored := 0 } }

/-- LATCH CLEAR acted on: the latch effects first, then the counters (R207). -/
def latchClearWork (s : State) : State := clearMoreCounters (clearCounters (clearLatches s))

/-! ### Malformed queries (R200) -/

/-- How many argument bytes a query code takes, if it is one of the ten (R200). -/
def argumentCount (code : Nat) : Option Nat :=
  match code with
  | 1 | 2 | 3 | 4 => some 1
  | 5 => some 7
  | 6 | 8 => some 4
  | 7 | 9 | 10 => some 0
  | _ => none

/-- Whether a code and its arguments are answered BAD_REQUEST (R200). -/
def malformedQuery (code : Nat) (args : List Byte) : Bool :=
  argumentCount code != some args.length ||
    (code == 1 && decide (8 < (args.getD 0 0).toNat)) || (code == 5 && decide (31 < (args.getD 6 0).toNat))

end Sys2Proof.Machine
end

