-- ==== Sys2Proof/Machine/Queries.lean ====
section
/-! DEFINITION. The ten queries of a service tool, and the malformed query (chapter 11). -/

namespace Sys2Proof.Machine

/-- STATUS (R201). -/
def execStatus (q : QueryHeader) (sect : Byte) (s : State) : Result :=
  .next (takeQuery s q (fun s =>
    if 8 < sect.toNat then badRequest s q 1
    else carryOut s q 1 (fun s => plainReply s .ok (statusSection s sect.toNat))))

/-- PEER (R27, R202). -/
def execPeer (q : QueryHeader) (index : Byte) (s : State) : Result :=
  .next (takeQuery s q (fun s => carryOut s q 2 (fun s =>
    entryReply s ((s.peers.entries[index.toNat]?).map (fun e => peerBytes e s.tb.clock)))))

/-- EVENT (R104, R202). -/
def execEvent (q : QueryHeader) (index : Byte) (s : State) : Result :=
  .next (takeQuery s q (fun s => carryOut s q 3 (fun s =>
    entryReply s (((eventsInOrder s.events.entries)[index.toNat]?).map (fun e => eventBytes e s.tb.clock)))))

/-- RECORD (R126, R202). -/
def execRecord (q : QueryHeader) (index : Byte) (s : State) : Result :=
  .next (takeQuery s q (fun s => carryOut s q 4 (fun s =>
    entryReply s ((s.rm.dir[index.toNat]?).map recordBytes))))

/-- PAGE (R144, R203). -/
def execPage (q : QueryHeader) (recId : BitVec 32) (index : BitVec 16) (slice : Byte) (s : State) : Result :=
  .next (takeQuery s q (fun s =>
    if 31 < slice.toNat then badRequest s q 5
    else carryOut s q 5 (fun s => pageReply s recId.toNat index.toNat slice.toNat)))

/-- RELEASE (R143, R204). -/
def execRelease (q : QueryHeader) (recId : BitVec 32) (s : State) : Result :=
  .next (takeQuery s q (fun s => carryOut s q 6 (fun s => releaseReply s recId.toNat)))

/-- WIPE (R145, R205). -/
def execWipe (q : QueryHeader) (s : State) : Result :=
  .next (takeQuery s q (fun s => carryOut s q 7 wipeReply))

/-- SET_SECONDS (R23, R206). -/
def execSetSeconds (q : QueryHeader) (seconds : BitVec 32) (s : State) : Result :=
  .next (takeQuery s q (fun s => carryOut s q 8 (fun s => secondsReply s seconds.toNat)))

/-- LATCH_CLEAR (R207). -/
def execLatchClear (q : QueryHeader) (s : State) : Result :=
  .next (takeQuery s q (fun s => carryOut s q 9 (fun s => ⟨latchClearWork s, .ok, []⟩)))

/-- RESTART (R208). -/
def execRestart (q : QueryHeader) (s : State) : Result :=
  .next (takeQuery s q (fun s => carryOut s q 10 restartReply))

/-- BAD_REQUEST (R200): a query whose code or arguments are not those of the table; with more argument bytes than a QUERY
frame takes it is a bad frame (R194). -/
def execBadRequest (q : QueryHeader) (code : Byte) (args : List Byte) (s : State) : Result :=
  if lengthSuits 4 (2 + args.length) then
    doWhen (malformedQuery code.toNat args) s (fun s => takeQuery s q (fun s => badRequest s q code.toNat))
  else doWhen s.heard.isSome s discardFrame

end Sys2Proof.Machine
end

