-- ==== Sys2Proof/Machine/Reception.lean ====
section
/-! DEFINITION. The commands of the array line: received frames, access to the line, and the section reset. -/

namespace Sys2Proof.Machine

/-! ### Receiving (R194, R195) -/

/-- BEACON_RECEIVED (R13, R28 to R34), with r as the receiver took it at the start delimiter (R194). -/
def execBeaconReceived (h : FrameHeader) (b : BeaconPayload) (s : State) : Result :=
  match s.heard with
  | none => .next s
  | some r => .next (takeFrame s 3 h.sender.toNat (fun s => peerBeacon s h.sender.toNat b r))

/-- PICK_FRAME_RECEIVED (R85, R87, R91). -/
def execPickFrameReceived (h : FrameHeader) (p : PickPayload) (s : State) : Result :=
  .next (takeFrame s 2 h.sender.toNat (fun s => engineKick (pickRemote s h.sender.toNat p)))

/-- ALERT_FRAME_RECEIVED (R109 to R112); of another number of origins than 1 to 16 it is a bad frame (R194). -/
def execAlertFrameReceived (h : FrameHeader) (a : AlertPayload) (s : State) : Result :=
  if lengthSuits 1 (12 + a.origins.length) then
    .next (takeFrame s 1 h.sender.toNat (fun s => engineKick (eventAlert s h.sender.toNat a)))
  else doWhen s.heard.isSome s discardFrame

/-- BAD_FRAME (R194): a frame that fails a check is discarded and counted. -/
def execBadFrame (f : HeardBytes) (s : State) : Result := doWhen (s.heard.isSome && heardBad f) s discardFrame

/-- Whether a frame that passed R194 is handed on to a block or to the query handler (R195). -/
def handedOn (s : State) (kind sender target : Nat) : Bool :=
  framePasses s kind sender && (kind ≤ 3 || (kind == 4 && s.ownId == some target))

/-- FRAME_NOT_HANDED_ON (R195): the frame is only screened. -/
def execFrameNotHandedOn (kind sender target : Byte) (s : State) : Result :=
  doWhen (!handedOn s kind.toNat sender.toNat target.toNat) s (fun s =>
    takeFrame s kind.toNat sender.toNat (fun s => s))

/-! ### Access (R190 to R193) -/

/-- IDLE_GAP_MET (R190): the idle time has reached the contending frame's gap, and it draws its back-off. -/
def execIdleGapMet (s : State) : Result :=
  match s.line.queue, s.line.access with
  | q :: _, .waiting => doWhen (s.awake && s.line.gapMet q) s (fun s => drawBackoff s q)
  | _, _ => .next s

/-- BACKOFF_EXPIRY (R190): the slots have run out, and the contending frame begins to transmit. -/
def execBackoffExpiry (s : State) : Result :=
  match s.line.queue, s.line.access with
  | q :: _, .backoff 0 => doWhen s.awake s (fun s => beginSending s q)
  | _, _ => .next s

/-- LINE_TURNS_BUSY (R186, R190, R194): a start bit is heard. -/
def execLineTurnsBusy (delimiter : Bool) (s : State) : Result :=
  doWhen s.receiving s (fun s => startBit s delimiter)

/-- MISMATCH (R191, R192): while a recessive bit is driven, the attempt fails. -/
def execMismatch (s : State) : Result :=
  match s.line.queue, s.line.level with
  | q :: _, some true => doWhen s.awake s (fun s => frameMismatch s q)
  | _, _ => .next s

/-- FRAME_SENT (R193): the last stop bit has left, and the frame leaves the queue. -/
def execFrameSent (s : State) : Result :=
  match s.line.queue, s.line.access with
  | q :: _, .transmitting e _ => doWhen (s.awake && decide (frameUs q ≤ e)) s (fun s => frameDone s q)
  | _, _ => .next s

/-- SECTION_RESET (R196), when the silence has reached 300 s. -/
def execSectionReset (s : State) : Result := doWhen s.awake s quietTest

end Sys2Proof.Machine
end

