-- ==== Sys2Proof/Machine/Recording.lean ====
section
/-! DEFINITION. The commands of the Record Memory: the capture's moves, and the start and the completions of the engine's
operations. A capture command makes the capture's next move where that is its own kind of move (log entry 2). -/

namespace Sys2Proof.Machine

/-! ### The capture -/

/-- The capture's next move made, and the engine's choice after it. -/
def moveCapture (s : State) : State := engineKick (captureStep s).1

/-- Whether the capture's next move takes a set, commits a page, or allocates the page of the set it takes (R134). -/
def takesNext (s : State) : Bool :=
  match captureMove s with
  | .firstPage _ | .commit _ | .take _ _ => true
  | _ => false

/-- CAPTURE_TAKE_SET (R134). -/
def execCaptureTakeSet (s : State) : Result := doWhen (s.awake && takesNext s) s moveCapture

/-- Whether the capture's next set lies after the end time. -/
def endsNext (s : State) : Bool :=
  match captureMove s with
  | .finish => true
  | _ => false

/-- CAPTURE_END_TIME (R137): the record closes NORMAL. -/
def execCaptureEndTime (s : State) : Result := doWhen (s.awake && endsNext s) s moveCapture

/-- Whether taking the next set brings the count to its limit. -/
def reachesLimit (s : State) : Bool :=
  match captureMove s with
  | .take _ _ => decide (recordLimit s.profile ≤ s.rm.cap.taken + 1)
  | _ => false

/-- RECORD_MAX_REACHED (R134, R137): the set is taken, and the record closes NORMAL. -/
def execRecordMaxReached (s : State) : Result := doWhen (s.awake && reachesLimit s) s moveCapture

/-- Whether the capture's next move allocates a page. -/
def allocatesNext (s : State) : Bool :=
  match captureMove s with
  | .firstPage _ | .commit _ => true
  | _ => false

/-- PAGE_ALLOCATION (R135): the page is allocated, the allocation waits, or it fails and the record closes FULL. -/
def execPageAllocation (s : State) : Result := doWhen (s.awake && allocatesNext s) s moveCapture

/-! ### The engine -/

/-- ENGINE_OPERATION_START (R128): the first eligible request is started when the engine is free. -/
def execEngineOperationStart (s : State) : Result := doWhen s.awake s engineKick

/-- The completion of an operation on a page: its effect, then the engine's next choice. A page the memory does not
have is a fault (log entry 32). -/
def completeOn (page : Nat) (s : State) : Result :=
  if pageCount ≤ page then .fault (.noSuchPage page) else .next (engineKick s)

/-- ERASE_COMPLETE (R123, R127, R130, R145): a waiting allocation proceeds. After an erase-ahead the capture looks at the
next free page again (log entry 49). -/
def execEraseComplete (s : State) : Result :=
  match s.rm.flight with
  | some (.careErase p) => completeOn p (careErased s p)
  | some (.aheadErase p) => completeOn p (captureTake (lookAhead (poolErased s p)))
  | some (.wipeErase p) => completeOn p (wipeErased s p)
  | _ => .next s

/-- CAPTURE_PROGRAM_COMPLETE (R139, R142). -/
def execCaptureProgramComplete (s : State) : Result :=
  match s.rm.flight with
  | some (.recordProgram p bytes) => completeOn p (recordProgramDone s p bytes)
  | _ => .next s

/-- CARE_SNAPSHOT_COMPLETE (R130, R165, R166). -/
def execCareSnapshotComplete (s : State) : Result :=
  match s.rm.flight with
  | some (.careProgram p offset bytes) => completeOn p (careProgramDone s p offset bytes)
  | _ => .next s

/-- MARK_COMPLETE (R142, R143). -/
def execMarkComplete (s : State) : Result :=
  match s.rm.flight with
  | some (.mark m) => completeOn m.page (markDone s m)
  | _ => .next s

end Sys2Proof.Machine
end

