-- ==== Sys2Proof/Machine/StationOps.lean ====
section
/-! DEFINITION. The Detector's work on one sample set (4.5 and 4.7): the channels, the vote, the station trigger and the
station pick, handed to the Record Memory, the Pick List and the Line Controller. -/

namespace Sys2Proof.Machine

/-- The run marks of the channels in trigger, in the order Z, N, E. -/
def votingRuns (chan : PerChan ChanDet) : List RunMarks :=
  [chan.z, chan.n, chan.e].filterMap (fun c => if c.state.voting then c.run else none)

/-- The run of the earliest onset, the first in the order Z, N, E between equal onsets (R77). -/
def earliestRun (runs : List RunMarks) : Option RunMarks :=
  match runs with
  | [] => none
  | r :: rest =>
    match earliestRun rest with
    | none => some r
    | some q => if diffUs q.onset r.onset < 0 then some q else some r

/-- The amplitude class of a peak (R77): the position of its highest set bit. -/
def amplitudeClass (peak : Int) : Nat := Nat.log2 peak.toNat

/-- The greatest peak among runs. -/
def greatestPeak (runs : List RunMarks) : Int := runs.foldl (fun m r => max m r.peak) 0

/-- Whether the repick gap suppresses a pick with an onset (R76). -/
def repickBlocked (s : State) (onset : ArrayTime) : Bool :=
  match s.det.prevPick with
  | none => false
  | some p => decide (|diffUs onset p| < (s.profile.repickGap : Int) * 1000000)

/-- The station pick formed from the voting channels (R77). -/
def stationPick (s : State) (first : RunMarks) : StationPick where
  seq := s.det.pickSeq
  onset := first.onset
  grade := first.grade
  mask := PerChan.ofFn (fun c => (s.det.chan.get c).state.voting)
  amp := amplitudeClass (greatestPeak (votingRuns s.det.chan))
  clipped := (votingRuns s.det.chan).any (·.clipped)
  stepped := (votingRuns s.det.chan).any (·.stepped) || s.tb.stepped

/-- A formed pick takes the sequence number in force and becomes the previous pick (R78). -/
def spendPick (s : State) (k : StationPick) : State :=
  { s with
    det :=
      { s.det with
        pickSeq := (s.det.pickSeq + 1) % 256
        prevPick := some k.onset
        formed := bump s.det.formed } }

/-- A pick handed on, in the order of R78. -/
def handPick (s : State) (k : StationPick) : State :=
  offerFrame (pickLocal (capturePick s k.onset) k) (.pick k s.profile.east s.profile.north) none

/-- The vote is first met on a set (R76). -/
def voteMet (s : State) (guard : Bool) : State :=
  if guard then { s with det := { s.det with guardSup := bump s.det.guardSup } }
  else
    match earliestRun (votingRuns s.det.chan) with
    | none => s
    | some first =>
      if repickBlocked s first.onset then { s with det := { s.det with repickSup := bump s.det.repickSup } }
      else handPick (spendPick s (stationPick s first)) (stationPick s first)

/-- The channels of a set taken through their states (R62), with the count of long triggers (R69). -/
def stepChannels (s : State) (x : SampleSet) : State :=
  let r := PerChan.ofFn (fun c => (s.det.chan.get c).step s.profile s.tb.grade x.stamp (x.words.get c))
  { s with
    det :=
      { s.det with
        chan := PerChan.ofFn (fun c => (r.get c).1)
        longTrig := bumpBy (r.count (·.2)) s.det.longTrig } }

/-- The effective vote, the station trigger and the running flag formed after a set (R72 to R74). -/
def formTrigger (s : State) (x : SampleSet) : State :=
  let v := effectiveVote s.profile s.bat.shed x.words
  { s with
    det :=
      { s.det with
        vote := some v
        lastSet := some x.stamp
        trigger := s.detectorOn && decide (v ≤ s.det.chan.count (fun c => c.state.voting))
        running := runningFlag s.detectorOn s.det.chan (some v) } }

/-- A sample set at the Detector (R62 to R78). -/
def detectSet (s : State) (x : SampleSet) : State :=
  let had := s.det.trigger
  let s := formTrigger (stepChannels s x) x
  if !had && s.det.trigger then voteMet s x.words.z.guard
  else if had && !s.det.trigger then captureTriggerEnd s x.stamp
  else s

end Sys2Proof.Machine
end

