-- ==== Sys2Proof/Machine/TickOps.lean ====
section
/-! DEFINITION. The work of a sample tick (R22, R41): the sweeps, the sample set and the housekeeping result. -/

namespace Sys2Proof.Machine

/-- The tick that is due at local time: its stamp N, if local time has reached it (R22). -/
def tickDue (s : State) : Option ArrayTime :=
  match s.tb.nextTick with
  | none => none
  | some n => if 0 ≤ diffUs s.tb.clock n then some n else none

/-- The tick issued (R22): N becomes the last tick stamp, and advances by one period. -/
def issueTick (s : State) (n : ArrayTime) : State :=
  { s with tb := { s.tb with lastTick := some n, nextTick := some (addUs n s.period) } }

/-- The tests and sweeps that are made at each tick (R88, R115, R114, R164, R196), before the Sampler's work
(log entry 11). -/
def tickSweeps (s : State) : State :=
  engineKick (quietTest (scheduleTest (repeatSweep (endSweep (ageSweep s)))))

/-- Step 1 of the Sampler's work (R41, R43). -/
def channelPower (s : State) : State := { s with sampler := applyPower s.sampler s.bat.shed s.listenOnly }

/-- Whether a tick forms a sample set: a seismic tick outside listen-only (R51). -/
def State.formsSet (s : State) : Bool := s.bat.shed != 3 && !s.listenOnly

/-- A set enters the ring, the displacement of the oldest announced before it (R52). -/
def ringEnter (s : State) (x : SampleSet) : State :=
  let s := if s.sampler.ring.length < ringSize then s else announceDisplaced s (ringOldest s.sampler)
  { s with sampler := ringWrite s.sampler x }

/-- Step 4 of the Sampler's work (R41): the set is formed, written into the ring, offered to the capture and handed
to the Detector. DESIGN CHOICE (log entry 56): the capture takes the set, and so may close, before the Detector gets it; R133
lets the close and the pick of one set come in either order. -/
def seismicWork (s : State) (inp : TickInput) (n : ArrayTime) : State :=
  let x := formSet s.sampler inp n (insideGuard s.det.guard n) s.tb.stepped
  let s := { s with sampler := afterSet s.sampler x }
  engineKick (detectSet (captureTake (ringEnter s x)) x)

/-- An enclosure-temperature result at the Timebase (R4, R6). -/
def enclosureWork (s : State) (r : Option Int) : State :=
  reformGrade (match r with
    | none => s
    | some v => { s with tb := s.tb.formTc s.profile v })

/-- A housekeeping result at its readers (R50). -/
def hkReaders (s : State) (i : HkInput) (n : ArrayTime) (r : Option Int) : State :=
  match i with
  | .batVolt => batteryVoltage s
  | .batCurr => batteryCurrent s n (r.getD 0)
  | .batTemp => heaterEvaluate (chargePermit s r) n r
  | .encTemp => enclosureWork s r
  | .heatCurr => heaterCurrent s n (r.getD 0)
  | .srcVolt => s

/-- The Sampler's work at a tick, in the order of R41. -/
def samplerWork (s : State) (inp : TickInput) (n : ArrayTime) : State :=
  let s := channelPower s
  let i := s.sampler.slot
  let s := { s with sampler := convertHk s.sampler inp.hk }
  let s := if s.formsSet then seismicWork s inp n else s
  engineKick (hkReaders s i n (hkResult i inp.hk))

/-- The work of a tick stamped N. -/
def tickWork (s : State) (inp : TickInput) (n : ArrayTime) : State :=
  samplerWork (tickSweeps (issueTick s n)) inp n

end Sys2Proof.Machine
end

