-- ==== Sys2Proof/Machine/Sampling.lean ====
section
/-! DEFINITION. The commands of sampling and detection: the sample tick, and the channel events within a set. A channel
event takes its channel's word of a set through the channel's states, where the event is what comes of it
(log entry 2). -/

namespace Sys2Proof.Machine

/-- SAMPLE_TICK (R41), when local time has reached N (R22). -/
def execSampleTick (inp : TickInput) (s : State) : Result :=
  match tickDue s with
  | none => .next s
  | some n => doWhen s.awake s (fun s => tickWork s inp n)

/-- What a channel's word of a set makes of the channel (R62). -/
def channelResult (s : State) (c : Channel) (t : ArrayTime) (w : SetWord) : ChanDet × Bool :=
  (s.det.chan.get c).step s.profile s.tb.grade t w

/-- A channel takes its word of a set, where a test holds of its state before and of what comes of it. -/
def channelEvent (s : State) (c : Channel) (t : ArrayTime) (w : SetWord)
    (hit : ChanState → ChanDet × Bool → Bool) : Result :=
  let r := channelResult s c t w
  doWhen (s.awake && s.detectorOn && hit (s.det.chan.get c).state r) s (fun s =>
    { s with
      det :=
        { s.det with
          chan := s.det.chan.set c r.1
          longTrig := if r.2 then bump s.det.longTrig else s.det.longTrig } })

/-- SETTLING_END (R44, R64): the first word with settling clear is the loading set, and the channel enters WARMUP. -/
def execSettlingEnd (c : Channel) (w : SetWord) (s : State) : Result :=
  channelEvent s c timeZero w (fun old r => old == .settling && r.1.state == .warmup)

/-- WARMUP_END (R64): the warmup count reaches 0, and the channel enters QUIET. -/
def execWarmupEnd (c : Channel) (w : SetWord) (s : State) : Result :=
  channelEvent s c timeZero w (fun old r => old == .warmup && r.1.state == .quiet)

/-- CHANNEL_TRIGGERED (R66, R65): the on-run count reaches on_hold, and the channel enters TRIGGERED. -/
def execChannelTriggered (c : Channel) (t : ArrayTime) (w : SetWord) (s : State) : Result :=
  channelEvent s c t w (fun old r => (old == .pending || old == .quiet) && r.1.state == .triggered)

/-- TRIGGER_END (R68): the off-run count reaches off_hold, and the trigger ends NORMAL. -/
def execTriggerEnd (c : Channel) (t : ArrayTime) (w : SetWord) (s : State) : Result :=
  channelEvent s c t w (fun old r => old.voting && r.1.state == .quiet && !r.2)

/-- MAX_TRIGGER (R69): the trigger is forced to its end, and ends LONG. -/
def execMaxTrigger (c : Channel) (t : ArrayTime) (w : SetWord) (s : State) : Result :=
  channelEvent s c t w (fun _ r => r.2)

end Sys2Proof.Machine
end

