-- ==== Sys2Proof/Machine/ProfileOps.lean ====
section
/-! DEFINITION. The Profile Loader (R210 to R212, R216): the reads, the fields, their ranges and the ordering adjustments,
and the profile of listen-only. -/

namespace Sys2Proof.Machine

/-! ### The reads (R210) -/

/-- Whether 96 bytes carry a good CRC (R210). -/
def profileCheck (bs : List Byte) : Bool := ofBytes ((bs.drop 94).take 2) == crc16 (bs.take 94)

/-- The first acknowledged read with a good CRC, at which the Loader stops. -/
def goodRead (reads : List (Option (List Byte))) : Option (List Byte) :=
  match reads with
  | [] => none
  | none :: rest => goodRead rest
  | some bs :: rest => if profileCheck bs then some bs else goodRead rest

/-- The last acknowledged read. -/
def lastRead (reads : List (Option (List Byte))) : Option (List Byte) :=
  match reads with
  | [] => none
  | r :: rest => (lastRead rest).or r

/-- The station identifier of a read, if byte 0 lies from 1 to 239. -/
def identifierOf (bs : List Byte) : Option Nat :=
  let id := (bs.getD 0 0).toNat
  if 1 ≤ id && id ≤ 239 then some id else none

/-! ### The fields (R216) -/

/-- The unsigned field of `k` bytes at an offset. -/
def fieldU (bs : List Byte) (k off : Nat) : Nat := ofBytes ((bs.drop off).take k)

/-- The signed field of two bytes at an offset. -/
def fieldI (bs : List Byte) (off : Nat) : Int := signed16 (fieldU bs 2 off)

/-- Whether a bit of the options byte is set. -/
def optionBit (bs : List Byte) (bit : Nat) : Bool := fieldU bs 1 7 / 2 ^ bit % 2 == 1

/-- The fields of the profile before any clamp, in the units of the owning chapters: the temperature table in ppb, the
slack in microseconds. -/
def rawProfile (bs : List Byte) : Profile where
  linePos := fieldU bs 2 1
  east := fieldI bs 3
  north := fieldI bs 5
  ppsEnable := optionBit bs 0
  uplinkRole := optionBit bs 1
  baseCode := fieldU bs 1 7 / 4 % 4
  rateCode := fieldU bs 1 7 / 16 % 4
  ppsWindow := fieldU bs 2 8
  lineNs := fieldU bs 1 10
  tempA := fieldI bs 11 * 2
  tempB := fieldI bs 13 * 2
  tempC := fieldI bs 15 * 2
  tempD := fieldI bs 17 * 2
  tempE := fieldI bs 19 * 2
  staShift := fieldU bs 1 21
  ltaShift := fieldU bs 1 22
  ltaFloor := fieldU bs 2 23
  onRatio := fieldU bs 1 25
  offRatio := fieldU bs 1 26
  onHold := fieldU bs 1 27
  offHold := fieldU bs 1 28
  maxTrigger := fieldU bs 1 29
  chanVote := fieldU bs 1 30
  repickGap := fieldU bs 1 31
  window := fieldU bs 1 32
  retention := fieldU bs 1 33
  slack := fieldU bs 2 34 * 1000
  vMin := fieldU bs 2 36
  gradeLimit := fieldU bs 1 38
  kVotes := fieldU bs 1 39
  kFloor := fieldU bs 1 40
  alertHold := fieldU bs 2 41
  alertRepeats := fieldU bs 1 43
  confirmCount := fieldU bs 1 44
  preS := fieldU bs 1 45
  postS := fieldU bs 1 46
  recordMaxS := fieldU bs 2 47
  capacityAh := fieldU bs 2 49
  chargeEff := fieldU bs 1 51
  fullMv := (fieldU bs 2 52 : Int)
  taperMa := (fieldU bs 2 54 : Int)
  emptyMv := (fieldU bs 2 56 : Int)
  shed1 := fieldU bs 1 58
  shed2 := fieldU bs 1 59
  shed3 := fieldU bs 1 60
  vLow := (fieldU bs 2 61 : Int)
  vCrit := (fieldU bs 2 63 : Int)
  writeFloor := (fieldU bs 2 65 : Int)
  chargeMinT := fieldI bs 67
  chargeMaxT := fieldI bs 69
  maintT := fieldI bs 71
  setback := (fieldU bs 1 73 : Int)
  hyst := (fieldU bs 1 74 : Int)
  sourceMv := (fieldU bs 2 75 : Int)
  cutoutT := fieldI bs 77
  freezeLimit := fieldI bs 79
  freezeBudget := fieldU bs 2 81
  minOn := fieldU bs 2 83
  minOff := fieldU bs 2 85
  maxOn := fieldU bs 2 87
  deferMax := fieldU bs 2 89
  guardS := fieldU bs 1 91
  heaterMinMa := fieldU bs 2 92

/-! ### Ranges (R211) -/

/-- Every field clamped to its own range: those of the parameter tables and of the profile layout. off_ratio and k_floor
have the greatest values their ordering adjustments can leave (log entry 24). -/
def clampRanges (p : Profile) : Profile where
  linePos := clampNat 0 20000 p.linePos
  east := clampInt (-32767) 32767 p.east
  north := clampInt (-32767) 32767 p.north
  ppsEnable := p.ppsEnable
  uplinkRole := p.uplinkRole
  baseCode := clampNat 0 3 p.baseCode
  rateCode := clampNat 0 2 p.rateCode
  ppsWindow := clampNat 1 500 p.ppsWindow
  lineNs := clampNat 4 6 p.lineNs
  tempA := clampInt (-50000) 50000 p.tempA
  tempB := clampInt (-50000) 50000 p.tempB
  tempC := clampInt (-50000) 50000 p.tempC
  tempD := clampInt (-50000) 50000 p.tempD
  tempE := clampInt (-50000) 50000 p.tempE
  staShift := clampNat 1 6 p.staShift
  ltaShift := clampNat 5 12 p.ltaShift
  ltaFloor := clampNat 0 65535 p.ltaFloor
  onRatio := clampNat 24 255 p.onRatio
  offRatio := clampNat 16 254 p.offRatio
  onHold := clampNat 1 63 p.onHold
  offHold := clampNat 1 255 p.offHold
  maxTrigger := clampNat 1 120 p.maxTrigger
  chanVote := clampNat 1 3 p.chanVote
  repickGap := clampNat 1 60 p.repickGap
  window := clampNat 1 30 p.window
  retention := clampNat 5 60 p.retention
  slack := clampNat 0 500000 p.slack
  vMin := clampNat 1000 10000 p.vMin
  gradeLimit := clampNat 0 14 p.gradeLimit
  kVotes := clampNat 2 8 p.kVotes
  kFloor := clampNat 2 8 p.kFloor
  alertHold := clampNat 10 600 p.alertHold
  alertRepeats := clampNat 1 4 p.alertRepeats
  confirmCount := clampNat 1 4 p.confirmCount
  preS := clampNat 5 30 p.preS
  postS := clampNat 10 120 p.postS
  recordMaxS := clampNat 30 600 p.recordMaxS
  capacityAh := clampNat 1 2000 p.capacityAh
  chargeEff := clampNat 80 100 p.chargeEff
  fullMv := clampInt 0 32760 p.fullMv
  taperMa := clampInt 0 5000 p.taperMa
  emptyMv := clampInt 0 32760 p.emptyMv
  shed1 := clampNat 10 90 p.shed1
  shed2 := clampNat 5 80 p.shed2
  shed3 := clampNat 1 50 p.shed3
  vLow := clampInt 0 32760 p.vLow
  vCrit := clampInt 0 32760 p.vCrit
  writeFloor := clampInt 0 32760 p.writeFloor
  chargeMinT := clampInt (-200) 200 p.chargeMinT
  chargeMaxT := clampInt 100 600 p.chargeMaxT
  maintT := clampInt (-300) 50 p.maintT
  setback := clampInt 0 200 p.setback
  hyst := clampInt 5 50 p.hyst
  sourceMv := clampInt 0 65520 p.sourceMv
  cutoutT := clampInt 100 600 p.cutoutT
  freezeLimit := clampInt (-400) 0 p.freezeLimit
  freezeBudget := clampNat 10 1440 p.freezeBudget
  minOn := clampNat 10 600 p.minOn
  minOff := clampNat 10 600 p.minOff
  maxOn := clampNat 60 7200 p.maxOn
  deferMax := clampNat 0 300 p.deferMax
  guardS := clampNat 0 10 p.guardS
  heaterMinMa := clampNat 100 8000 p.heaterMinMa

/-- How many fields of two profiles differ (R211). DESIGN CHOICE (log entry 55): the temperature table counts as five fields,
one for each of its points. -/
def fieldsChanged (a b : Profile) : Nat :=
  ([a.linePos != b.linePos, a.east != b.east, a.north != b.north, a.ppsEnable != b.ppsEnable,
    a.uplinkRole != b.uplinkRole, a.baseCode != b.baseCode, a.rateCode != b.rateCode, a.ppsWindow != b.ppsWindow,
    a.lineNs != b.lineNs, a.tempA != b.tempA, a.tempB != b.tempB, a.tempC != b.tempC, a.tempD != b.tempD,
    a.tempE != b.tempE, a.staShift != b.staShift, a.ltaShift != b.ltaShift, a.ltaFloor != b.ltaFloor,
    a.onRatio != b.onRatio, a.offRatio != b.offRatio, a.onHold != b.onHold, a.offHold != b.offHold,
    a.maxTrigger != b.maxTrigger, a.chanVote != b.chanVote, a.repickGap != b.repickGap, a.window != b.window,
    a.retention != b.retention, a.slack != b.slack, a.vMin != b.vMin, a.gradeLimit != b.gradeLimit,
    a.kVotes != b.kVotes, a.kFloor != b.kFloor, a.alertHold != b.alertHold, a.alertRepeats != b.alertRepeats,
    a.confirmCount != b.confirmCount, a.preS != b.preS, a.postS != b.postS, a.recordMaxS != b.recordMaxS,
    a.capacityAh != b.capacityAh, a.chargeEff != b.chargeEff, a.fullMv != b.fullMv, a.taperMa != b.taperMa,
    a.emptyMv != b.emptyMv, a.shed1 != b.shed1, a.shed2 != b.shed2, a.shed3 != b.shed3, a.vLow != b.vLow,
    a.vCrit != b.vCrit, a.writeFloor != b.writeFloor, a.chargeMinT != b.chargeMinT, a.chargeMaxT != b.chargeMaxT,
    a.maintT != b.maintT, a.setback != b.setback, a.hyst != b.hyst, a.sourceMv != b.sourceMv,
    a.cutoutT != b.cutoutT, a.freezeLimit != b.freezeLimit, a.freezeBudget != b.freezeBudget, a.minOn != b.minOn,
    a.minOff != b.minOff, a.maxOn != b.maxOn, a.deferMax != b.deferMax, a.guardS != b.guardS,
    a.heaterMinMa != b.heaterMinMa].filter id).length

/-! ### Ordering adjustments (R57, R83, R131, R152, R171) -/

/-- R57: lta_shift raised. -/
def adjustLta (p : Profile) : Profile := { p with ltaShift := max p.ltaShift (p.staShift + 3) }

/-- R57: off_ratio lowered. -/
def adjustOff (p : Profile) : Profile := { p with offRatio := min p.offRatio (p.onRatio - 1) }

/-- R83: k_floor lowered. -/
def adjustFloor (p : Profile) : Profile := { p with kFloor := min p.kFloor p.kVotes }

/-- R131: pre_s lowered to what the ring holds. -/
def adjustPre (p : Profile) : Profile := { p with preS := min p.preS (4096 / rateOf p.rateCode) }

/-- R152, clamp 1. -/
def adjustShed2 (p : Profile) : Profile := { p with shed2 := min p.shed2 (p.shed1 - 1) }

/-- R152, clamp 2. -/
def adjustShed3 (p : Profile) : Profile := { p with shed3 := min p.shed3 (p.shed2 - 1) }

/-- R152, clamp 3. -/
def adjustCrit (p : Profile) : Profile := { p with vCrit := min p.vCrit (p.vLow - 1) }

/-- R152, clamp 4. -/
def adjustMaxT (p : Profile) : Profile := { p with chargeMaxT := max p.chargeMaxT (p.chargeMinT + 30) }

/-- R171: heater_cutout_T raised. -/
def adjustCutout (p : Profile) : Profile :=
  { p with cutoutT := max p.cutoutT (max (p.chargeMinT + 20) p.maintT + p.hyst + 10) }

/-- The adjustments in the order of R211. -/
def adjustments : List (Profile → Profile) :=
  [adjustLta, adjustOff, adjustFloor, adjustPre, adjustShed2, adjustShed3, adjustCrit, adjustMaxT, adjustCutout]

/-- The adjustments applied in order, each that changes a field counted. -/
def applyAdjustments (fs : List (Profile → Profile)) (p : Profile) (n : Nat) : Profile × Nat :=
  match fs with
  | [] => (p, n)
  | f :: rest => applyAdjustments rest (f p) (if f p = p then n else n + 1)

/-- A profile clamped and adjusted, with the clamped-fields counter (R211). -/
def clampProfile (p : Profile) : Profile × Nat :=
  let r := applyAdjustments adjustments (clampRanges p) (fieldsChanged p (clampRanges p))
  (r.1, min 255 r.2)

/-! ### Listen-only (R212) -/

/-- The defaults of 12.4 and of the owning chapters; a parameter without a stated default has a free value
(log entry 7). -/
def defaultProfile : Profile :=
  { Profile.initial with
    staShift := Config.unstatedDefault .staShift
    ltaShift := Config.unstatedDefault .ltaShift
    ltaFloor := Config.unstatedDefault .ltaFloor
    onRatio := Config.unstatedDefault .onRatio
    offRatio := Config.unstatedDefault .offRatio
    onHold := Config.unstatedDefault .onHold
    offHold := Config.unstatedDefault .offHold
    maxTrigger := Config.unstatedDefault .maxTrigger
    chanVote := Config.unstatedDefault .chanVote
    repickGap := Config.unstatedDefault .repickGap
    window := Config.unstatedDefault .window
    retention := Config.unstatedDefault .retention
    slack := Config.unstatedDefault .slack
    vMin := Config.unstatedDefault .vMin
    gradeLimit := Config.unstatedDefault .gradeLimit
    kVotes := Config.unstatedDefault .kVotes
    kFloor := Config.unstatedDefault .kFloor
    preS := Config.unstatedDefault .preS
    postS := Config.unstatedDefault .postS
    recordMaxS := Config.unstatedDefault .recordMaxS }

/-- The profile of listen-only: the defaults, the free ones held to their ranges and orderings. -/
def listenProfile : Profile := (clampProfile defaultProfile).1

/-- The listen-only cause of the reads, none when the profile is used (R210). -/
def listenCauseOf (reads : List (Option (List Byte))) : ListenCause :=
  match goodRead reads with
  | some bs => if (identifierOf bs).isSome then .none else .badIdentifier
  | none => if (lastRead reads).isSome then .badCheck else .noDevice

/-- What step 1 makes of the reads (R210 to R212). -/
def loadProfile (s : State) (reads : List (Option (List Byte))) : State :=
  match goodRead reads, listenCauseOf reads with
  | some bs, .none =>
    { s with
      profile := (clampProfile (rawProfile bs)).1
      clamped := (clampProfile (rawProfile bs)).2
      ownId := identifierOf bs
      listenOnly := false
      listenCause := .none }
  | good, cause =>
    { s with
      profile := listenProfile
      clamped := 0
      ownId := (good.or (lastRead reads)).bind identifierOf
      listenOnly := true
      listenCause := cause }

end Sys2Proof.Machine
end

