-- ==== Sys2Proof/Machine/RestoreOps.lean ====
section
/-! DEFINITION. The restore from the care log (R167, R168, R170, R185). -/

namespace Sys2Proof.Machine

/-- Whether a care page is readable (R167): its kind, its own number and its header's CRC. -/
def careReadable (cells : Memory) (page : Nat) : Bool :=
  let bs := memRange cells (pageBase page) 32
  bs.take 1 == [0x43#8] && ofBytes ((bs.drop 1).take 2) == page && ofBytes (bs.drop 30) == crc16 (bs.take 30)

/-- The valid snapshot of a slot, if there is one (R167). -/
def slotSnapshot (cells : Memory) (page slot : Nat) : Option Snapshot :=
  let bs := memRange cells (pageBase page + 32 + 32 * slot) 32
  if slotValid bs then some (parseSnapshot bs) else none

/-- The valid snapshots of a place in the care order, by slot. -/
def pageSnapshots (m : Memory) (place : Nat) : List (Nat × Snapshot) :=
  let page := carePage place
  let cells := pageCells m page
  if careReadable cells page then
    (List.range 63).filterMap (fun slot => (slotSnapshot cells page slot).map (fun x => (place, x)))
  else []

/-- The snapshot of the highest sequence number; of equal ones the later (R167). -/
def newestSnapshot (xs : List (Nat × Snapshot)) : Option (Nat × Snapshot) :=
  match xs with
  | [] => none
  | x :: rest =>
    match newestSnapshot rest with
    | none => some x
    | some y => if x.2.seq ≤ y.2.seq then some y else some x

/-- The restored snapshot, with the place of its page (R167). -/
def restoredSnapshot (m : Memory) : Option (Nat × Snapshot) :=
  newestSnapshot ((List.range 8).flatMap (pageSnapshots m))

/-- Q restored from a snapshot, rescaled to the profile's capacity (R167). -/
def restoredCharge (p : Profile) (x : Snapshot) : Nat :=
  min p.fullCharge
    (if x.capacity = p.capacityAh then x.q
     else if x.capacity = 0 then Config.rescaleByZero x.q
     else x.q * p.capacityAh / x.capacity)

/-- The Battery Monitor with a restored snapshot (R167). -/
def restoreBattery (b : Battery) (p : Profile) (place : Nat) (x : Snapshot) : Battery :=
  { b with
    q := restoredCharge p x
    residual := 0
    shed := x.shed
    seq := wrap32 (x.seq + 1)
    logPage := (place + 1) % 8
    logSlot := 0
    restored := some (x.seq, x.cause)
    restoredNextId := x.nextId
    careLost := false }

/-- The Battery Monitor without a restored snapshot (R167). -/
def loseBattery (b : Battery) (p : Profile) : Battery :=
  { b with
    q := p.fullCharge / 2
    residual := 0
    shed := 0
    seq := 0
    logPage := 0
    logSlot := 0
    restored := none
    restoredNextId := 0
    careLost := true }

/-- The Heater Controller handed a freeze exposure, a below-freeze flag and a restored array time (R167, R185). -/
def restoreHeater (h : Heater) (now : ArrayTime) (exposure : Nat) (below : Bool) (time : Option ArrayTime) : Heater :=
  { h with
    since := now
    exposure := exposure
    rem := 0
    accumulating := below
    restoredTime := time
    restoredFlag := below }

/-- The restore at step 2 (R167, R168). -/
def restoreCare (s : State) : State :=
  let due := some (addUs s.tb.clock schedulePeriod)
  match restoredSnapshot s.mem with
  | some (place, x) =>
    { s with
      bat := { restoreBattery s.bat s.profile place x with nextDue := due }
      heat := restoreHeater s.heat s.tb.clock x.exposure x.below (if x.timeState = 0 then none else some x.time) }
  | none =>
    { s with
      bat := { loseBattery s.bat s.profile with nextDue := due }
      heat := restoreHeater s.heat s.tb.clock 0 false none }

end Sys2Proof.Machine
end

