-- ==== Sys2Proof/Machine/ScanOps.lean ====
section
/-! DEFINITION. The start-up scan (R146 to R148): the classes of the pool pages, the records rebuilt from them, the page map,
the directory, the next record identifier and the allocation pointer. -/

namespace Sys2Proof.Machine

/-! ### Page headers (R146) -/

/-- What the scan takes from a valid page. -/
structure PageHeader where
  page  : Nat
  id    : Nat
  idx   : Nat
  first : ArrayTime
  count : Nat
  rate  : Nat
  final : Bool
  cause : EndCause
  hold  : Hold
  deriving DecidableEq, Repr

/-- The classes of a pool page (R146). -/
inductive PageClass where
  | erased
  | torn
  | valid (h : PageHeader)
  deriving DecidableEq, Repr

/-- The hold that two mark bytes say: a byte that is not 0xFF is programmed (R146, R147). -/
def holdOf (mark1 mark2 : Byte) : Hold :=
  if mark2 != erasedByte then .released else if mark1 != erasedByte then .held else .loose

/-- The number in `n` bytes of a header at an offset. -/
def headerField (bs : List Byte) (off n : Nat) : Nat := ofBytes ((bs.drop off).take n)

/-- The header of a page in its first 32 bytes (R216). -/
def parseHeader (page : Nat) (bs : List Byte) : PageHeader where
  page := page
  id := headerField bs 1 4
  idx := headerField bs 5 2
  first := parseTime (bs.drop 7)
  count := headerField bs 14 1
  rate := headerField bs 16 1
  final := headerField bs 19 1 / 2 % 2 == 1
  cause := endCauseOf (headerField bs 19 1 / 16 % 4)
  hold := holdOf (bs.getD 20 0) (bs.getD 21 0)

/-- Whether the CRC of a record page is good (R125): it covers the header without its marks and itself, and the
stored sets. -/
def recordCheck (cells : Memory) (base : Nat) (bs : List Byte) : Bool :=
  headerField bs 30 2 ==
    crc16 (bs.take 20 ++ (bs.drop 22).take 8 ++ memRange cells (base + 32) (12 * headerField bs 14 1))

/-- Whether a header's fields are those of a valid page (R146). -/
def headerGood (bs : List Byte) : Bool :=
  headerField bs 0 1 == 0x52 && decide (1 ≤ headerField bs 14 1) && decide (headerField bs 14 1 ≤ 168) &&
    decide (headerField bs 5 2 ≤ 503) && decide (headerField bs 16 1 ≤ 2)

/-- The class of a pool page (R146). -/
def scanPage (m : Memory) (page : Nat) : PageClass :=
  let cells := pageCells m page
  if cells.all (fun c => c.2 == erasedByte) then .erased
  else
    let bs := memRange cells (pageBase page) 32
    if headerGood bs && recordCheck cells (pageBase page) bs then .valid (parseHeader page bs) else .torn

/-- The pool pages in ascending order (R123). -/
def poolList : List Nat := (List.range pageCount).filter (fun p => !isCarePage p)

/-- The classes of the pool pages. -/
def scanAll (m : Memory) : List (Nat × PageClass) := poolList.map (fun p => (p, scanPage m p))

/-- The headers of the valid pages, by page number. -/
def validHeaders (cs : List (Nat × PageClass)) : List PageHeader :=
  cs.filterMap (fun c => match c.2 with
    | .valid h => some h
    | _ => none)

/-- The pages that the scan finds torn. -/
def tornPages (cs : List (Nat × PageClass)) : List Nat :=
  (cs.filter (fun c => c.2 == .torn)).map Prod.fst

/-! ### Records (R147) -/

/-- The pages without those that repeat an identifier and index of a lower page (R147). -/
def dropDoubles (seen hs : List PageHeader) : List PageHeader :=
  match hs with
  | [] => []
  | h :: rest =>
    if seen.any (fun x => x.id == h.id && x.idx == h.idx) then dropDoubles seen rest
    else h :: dropDoubles (h :: seen) rest

/-- An identifier at its place in ascending order, once. -/
def insertId (n : Nat) (ids : List Nat) : List Nat :=
  match ids with
  | [] => [n]
  | x :: rest => if n < x then n :: x :: rest else if n = x then x :: rest else x :: insertId n rest

/-- The record identifiers of the valid pages, ascending. -/
def recordIds (hs : List PageHeader) : List Nat := hs.foldr (fun h ids => insertId h.id ids) []

/-- The run of a record's pages from an index on: consecutive indices, up to a page with the final flag (R147). -/
def runFrom (fuel : Nat) (pages : List PageHeader) (idx : Nat) : List PageHeader :=
  match fuel with
  | 0 => []
  | k + 1 =>
    match pages.find? (fun h => h.idx == idx) with
    | none => []
    | some h => if h.final then [h] else h :: runFrom k pages (idx + 1)

/-- The pool page after a page in ascending circular order, care pages passed over (R147, log entry 22). -/
def poolAfter (page : Nat) : Nat :=
  if page = 251 then 256 else if 507 ≤ page then 0 else page + 1

/-- The end cause of a rebuilt record (R147). -/
def rebuiltCause (torn : List Nat) (pages run : List PageHeader) (last : PageHeader) : EndCause :=
  if last.final then last.cause
  else if run.length < pages.length || torn.contains (poolAfter last.page) then .torn
  else .cut

/-- A record rebuilt from its valid pages, with its run; none without a page 0 (R147). -/
def rebuildRecord (torn : List Nat) (hs : List PageHeader) (id : Nat) : Option (DirEntry × List PageHeader) :=
  let pages := hs.filter (fun h => h.id == id)
  let run := runFrom pageCount pages 0
  match run.head?, run.getLast? with
  | some h, some last =>
    some
      ({ id := id
         closed := true
         hold := h.hold
         firstPage := some h.page
         pages := run.length
         firstSet := h.first
         lastSet := some (addUs last.first (((last.count : Int) - 1) * (1000000 / rateOf last.rate : Nat)))
         endCause := some (rebuiltCause torn pages run last)
         eventRef := none }, run)
  | _, _ => none

/-- The rebuilt records in ascending order of identifier, at most the 64 highest (R147, R148). -/
def rebuiltRecords (torn : List Nat) (hs : List PageHeader) : List (DirEntry × List PageHeader) :=
  let all := (recordIds hs).filterMap (rebuildRecord torn hs)
  all.drop (all.length - 64)

/-! ### The result (R148) -/

/-- The page-map entry of a page after the scan. -/
def scannedKind (cs : List (Nat × PageClass)) (owned : List PageHeader) (page : Nat) : PageKind :=
  if isCarePage page then .care
  else
    match owned.find? (fun h => h.page == page) with
    | some h => .owned h.id h.idx true
    | none => if cs.contains (page, PageClass.erased) then .freeErased else .freeDirty

/-- The allocation pointer after the scan (R148). -/
def scannedPointer (owned : List PageHeader) : Nat :=
  if owned = [] then 0 else poolAfter (owned.foldl (fun m h => max m h.page) 0)

/-- The scan (R146 to R148). -/
def scanMemory (s : State) : State :=
  let cs := scanAll s.mem
  let all := validHeaders cs
  let hs := dropDoubles [] all
  let torn := tornPages cs
  let records := rebuiltRecords torn hs
  let owned := records.flatMap Prod.snd
  let highest := records.foldl (fun m r => max m (r.1.id + 1)) 0
  lookAhead { s with
    rm :=
      { s.rm with
        map := (List.range pageCount).map (scannedKind cs owned)
        dir := records.map Prod.fst
        nextId := min 4294967295 (max s.bat.restoredNextId highest)
        allocPtr := scannedPointer owned
        torn := bumpBy (torn.length + (all.length - hs.length)) s.rm.torn
        dropped := bumpBy (hs.length - owned.length) s.rm.dropped } }

end Sys2Proof.Machine
end

