-- ==== Sys2Proof/Machine/StartUp.lean ====
section
/-! DEFINITION. The commands of the supply and of the start sequence (R149, R166, R210 to R215). -/

namespace Sys2Proof.Machine

/-! ### The supply (R215) -/

/-- A start at step 1: everything at its reset value but the record memory, and the model's own queue and count of free
values. -/
def startState (s : State) : State :=
  { State.reset with mem := s.mem, freeCount := s.freeCount, pending := s.pending }

/-- POWER_ON (R215): the supply first rises through the recovery threshold. -/
def execPowerOn (s : State) : Result := .next (startState s)

/-- BROWN_OUT_RECOVERY (R215): the supply rises again after a brown-out. -/
def execBrownOutRecovery (s : State) : Result := doWhen (s.phase == .brownOut) s startState

/-- RESTART_TAKES_EFFECT (R166, R215): the part starts as at power-on. -/
def execRestartTakesEffect (s : State) : Result := doWhen (s.phase == .restarting) s startState

/-! ### A brown-out (R149, R215) -/

/-- The memory after an operation that the supply let complete. -/
def completeFlight (m : Memory) (o : EngineOp) : Memory :=
  match o with
  | .careErase p | .aheadErase p | .wipeErase p => memErase m p
  | .careProgram p off bytes => memProgram m (pageBase p + off) bytes
  | .recordProgram p bytes => memProgram m (pageBase p) bytes
  | .mark r => memProgram m (markAddress r) [0]

/-- The bytes of a page. -/
def pageBytes (m : Memory) (page : Nat) : List Byte := memRange m (pageBase page) pageSize

/-- Bytes part-way between two contents, of which one has all its 1 bits in the other: the 1 bits of `bs` stand, and
any of the others may be 1. On the way to erased `bs` are the old bytes, on the way to a PROGRAM's target they are the
target (log entry 9). -/
def partWay (k : Nat) (bs : List Byte) : List Byte :=
  bs.mapIdx (fun i b => b ||| Config.partWrittenByte (k + i))

/-- One byte of a list with its lowest bit turned over. -/
def spoilByte (bs : List Byte) (i : Nat) : List Byte := bs.set i (bs.getD i 0 ^^^ 1)

/-- Whether a page of these bytes would be taken as valid by the scan (R146). -/
def pageValid (page : Nat) (bs : List Byte) : Bool :=
  match scanPage (memWriteList [] (pageBase page) bs) page with
  | .valid _ => true
  | _ => false

/-- The page that an ERASE cut short leaves: one that the scan finds torn or erased (R149). -/
def cutErase (m : Memory) (k page : Nat) : Memory :=
  let bs := partWay k (pageBytes m page)
  memWriteList m (pageBase page) (if pageValid page bs then spoilByte bs 31 else bs)

/-- The page that a record page's PROGRAM cut short leaves: one that the scan finds torn (R149). -/
def cutProgram (m : Memory) (k page : Nat) (bytes : List Byte) : Memory :=
  let bs := partWay k bytes
  memWriteList m (pageBase page)
    (if pageValid page bs || bs.all (· == erasedByte) then spoilByte bytes 31 else bs)

/-- The page that a care ERASE cut short leaves: anything between its bytes and the erased page (R167). -/
def cutCareErase (m : Memory) (k page : Nat) : Memory :=
  memWriteList m (pageBase page) (partWay k (pageBytes m page))

/-- Whether a care PROGRAM's bytes would pass a check of R167: its page's header when it writes one, or its slot's
snapshot; an empty slot is not one whose CRC fails. -/
def carePasses (page : Nat) (bs : List Byte) : Bool :=
  if 32 < bs.length then careReadable (memWriteList [] (pageBase page) (bs.take 32)) page
  else slotValid bs || bs.all (· == erasedByte)

/-- The slot or page that a care PROGRAM cut short leaves: one whose check fails (R149, R167). -/
def cutCareProgram (m : Memory) (k page off : Nat) (bytes : List Byte) : Memory :=
  let bs := partWay k bytes
  memWriteList m (pageBase page + off) (if carePasses page bs then spoilByte bytes 31 else bs)

/-- The mark byte that a MARK cut short leaves: one that counts as programmed (R146, R149). -/
def cutMark (m : Memory) (k : Nat) (r : MarkReq) : Memory :=
  let b := Config.partWrittenByte k
  memWrite m (markAddress r) (if b = erasedByte then 0 else b)

/-- The memory after an operation that the supply did not let complete (R149). -/
def cutFlight (m : Memory) (k : Nat) (o : EngineOp) : Memory :=
  match o with
  | .careErase p => cutCareErase m k p
  | .aheadErase p | .wipeErase p => cutErase m k p
  | .careProgram p off bytes => cutCareProgram m k p off bytes
  | .recordProgram p bytes => cutProgram m k p bytes
  | .mark r => cutMark m k r

/-- The memory after a brown-out. -/
def brownOutMem (s : State) (supplyAllows : Bool) : Memory :=
  match s.rm.flight with
  | none => s.mem
  | some o => if supplyAllows then completeFlight s.mem o else cutFlight s.mem s.freeCount o

/-- The part stops: requests, buffer, capture and transmit queue are lost (R149, R199); the outputs follow the phase
(R215, `State.pins`). -/
def stopPart (s : State) (supplyAllows : Bool) : State :=
  { s with
    phase := .brownOut
    mem := brownOutMem s supplyAllows
    freeCount := s.freeCount + pageSize
    rm :=
      { s.rm with
        cap := Capture.reset, flight := none, marks := [], programReq := false, eraseAhead := none, wipeList := []
        wiping := false, pendingStep := false }
    bat := { s.bat with placed := none, owed := none }
    line := { s.line with rx := .deaf, queue := [], access := .idle, driven := none } }

/-- BROWN_OUT (R215). -/
def execBrownOut (supplyAllows : Bool) (s : State) : Result :=
  doWhen (s.phase != .brownOut) s (fun s => stopPart s supplyAllows)

/-! ### The five steps (R214) -/

/-- PROFILE_READ, step 1 (R210 to R212). -/
def execProfileRead (r1 r2 r3 : Option (List Byte)) (s : State) : Result :=
  doWhen (s.phase == .step1) s (fun s => { loadProfile s [r1, r2, r3] with phase := .step2 })

/-- CARE_RESTORE, step 2 (R167). -/
def execCareRestore (s : State) : Result :=
  doWhen (s.phase == .step2) s (fun s => { restoreCare s with phase := .step3 })

/-- START_UP_SCAN, step 3 (R146 to R148). -/
def execStartUpScan (s : State) : Result :=
  doWhen (s.phase == .step3) s (fun s => { scanMemory s with phase := .step4 })

/-- The Line Controller enabled (R199), and the first steering instant scheduled (R11). -/
def enableLine (s : State) : State :=
  let n := beaconInterval s.profile s.bat.shed
  { s with
    line := { s.line with rx := .hunting, lastValid := some (usOf s.tb.clock), quiet := false }
    tb := { s.tb with nextInstant := some (addUs s.tb.clock ((n : Int) * 1000000)), interval := n } }

/-- LINE_ENABLE, step 4 (R199). -/
def execLineEnable (s : State) : Result :=
  doWhen (s.phase == .step4) s (fun s => { enableLine s with phase := .step5 })

/-- The Sampler started (R56): the first tick is fixed (R22), and the channels it will power begin SETTLING (R82). DESIGN
CHOICE (log entry 50): the settling counts stay 0 until step 1 of the first tick, which sets those of the powered channels to
64. -/
def startSampler (s : State) : State :=
  { s with
    tb := { s.tb with nextTick := some (ofUs (multipleAfter s.period (usOf s.tb.clock))) }
    det :=
      { s.det with
        chan := PerChan.ofFn (fun c =>
          { ChanDet.reset with
            state := if powerWanted s.bat.shed s.listenOnly c then .settling else .off }) } }

/-- SAMPLER_START, step 5 (R56). -/
def execSamplerStart (s : State) : Result :=
  doWhen (s.phase == .step5) s (fun s => { startSampler s with phase := .running })

end Sys2Proof.Machine
end

