-- ==== Sys2Proof/Machine/Timing.lean ====
section
/-! DEFINITION. The commands of time: the nominal microsecond, the steering instant, the expiry of peers and the PPS edge. -/

namespace Sys2Proof.Machine

/-- NOMINAL_MICROSECOND (R2): local time advances by one microsecond, by two or by none; the uplink port and the Line
Controller count their bit times by it (R118, R186; log entry 29). -/
def execNominalMicrosecond (s : State) : Result :=
  doWhen s.awake s (fun s => lineTick (uplinkTick { s with tb := s.tb.nominal }))

/-- STEERING_INSTANT (R20), when local time has reached the scheduled instant (R11). -/
def execSteeringInstant (s : State) : Result := doWhen (s.awake && instantReached s) s steeringWork

/-- PEER_EXPIRY (R37): the steering instant at which an entry expires. Expiry is tested only within an instant, after the
path's step and R36's shift, so the row runs the instant that is due if an entry is removed in it (log entry 2). -/
def execPeerExpiry (s : State) : Result := doWhen (s.awake && instantReached s && instantExpires s) s steeringWork

/-- PPS_EDGE (R7): ignored while pps_enable is clear. -/
def execPpsEdge (s : State) : Result := doWhen (s.awake && s.profile.ppsEnable) s ppsEdgeWork

end Sys2Proof.Machine
end

