-- ==== Sys2Proof/Machine/Dispatch.lean ====
section
/-! DEFINITION. What each command does: one arm per row of spec/opcode_table.json. -/

namespace Sys2Proof.Machine

/-- The effect of a command on everything but the queue of waiting commands. -/
def exec (i : Instr) (s : State) : Host.Outcome State Fault Refusal :=
  match i with
  | .powerOn => Sys2Proof.Machine.execPowerOn s
  | .brownOut supplyAllows => Sys2Proof.Machine.execBrownOut supplyAllows s
  | .brownOutRecovery => Sys2Proof.Machine.execBrownOutRecovery s
  | .restartTakesEffect => Sys2Proof.Machine.execRestartTakesEffect s
  | .profileRead r1 r2 r3 => Sys2Proof.Machine.execProfileRead r1 r2 r3 s
  | .careRestore => Sys2Proof.Machine.execCareRestore s
  | .startUpScan => Sys2Proof.Machine.execStartUpScan s
  | .lineEnable => Sys2Proof.Machine.execLineEnable s
  | .samplerStart => Sys2Proof.Machine.execSamplerStart s
  | .sampleTick inp => Sys2Proof.Machine.execSampleTick inp s
  | .settlingEnd c w => Sys2Proof.Machine.execSettlingEnd c w s
  | .warmupEnd c w => Sys2Proof.Machine.execWarmupEnd c w s
  | .channelTriggered c t w => Sys2Proof.Machine.execChannelTriggered c t w s
  | .triggerEnd c t w => Sys2Proof.Machine.execTriggerEnd c t w s
  | .maxTrigger c t w => Sys2Proof.Machine.execMaxTrigger c t w s
  | .captureTakeSet => Sys2Proof.Machine.execCaptureTakeSet s
  | .captureEndTime => Sys2Proof.Machine.execCaptureEndTime s
  | .recordMaxReached => Sys2Proof.Machine.execRecordMaxReached s
  | .pageAllocation => Sys2Proof.Machine.execPageAllocation s
  | .pickAged => Sys2Proof.Machine.execPickAged s
  | .eventEnd => Sys2Proof.Machine.execEventEnd s
  | .alertRepeatDue => Sys2Proof.Machine.execAlertRepeatDue s
  | .schedule => Sys2Proof.Machine.execSchedule s
  | .owedSnapshot => Sys2Proof.Machine.execOwedSnapshot s
  | .shedExit => Sys2Proof.Machine.execShedExit s
  | .fullAnchor => Sys2Proof.Machine.execFullAnchor s
  | .emptyAnchor => Sys2Proof.Machine.execEmptyAnchor s
  | .maxOn => Sys2Proof.Machine.execMaxOn s
  | .deferralExpired => Sys2Proof.Machine.execDeferralExpired s
  | .heaterOpenClear => Sys2Proof.Machine.execHeaterOpenClear s
  | .exposureReset => Sys2Proof.Machine.execExposureReset s
  | .openCheck hk => Sys2Proof.Machine.execOpenCheck hk s
  | .steeringInstant => Sys2Proof.Machine.execSteeringInstant s
  | .peerExpiry => Sys2Proof.Machine.execPeerExpiry s
  | .ppsEdge => Sys2Proof.Machine.execPpsEdge s
  | .beaconReceived h b => Sys2Proof.Machine.execBeaconReceived h b s
  | .pickFrameReceived h p => Sys2Proof.Machine.execPickFrameReceived h p s
  | .alertFrameReceived h a => Sys2Proof.Machine.execAlertFrameReceived h a s
  | .badFrame f => Sys2Proof.Machine.execBadFrame f s
  | .frameNotHandedOn kind sender target => Sys2Proof.Machine.execFrameNotHandedOn kind sender target s
  | .status q sect => Sys2Proof.Machine.execStatus q sect s
  | .peer q index => Sys2Proof.Machine.execPeer q index s
  | .event q index => Sys2Proof.Machine.execEvent q index s
  | .record q index => Sys2Proof.Machine.execRecord q index s
  | .page q recId index slice => Sys2Proof.Machine.execPage q recId index slice s
  | .release q recId => Sys2Proof.Machine.execRelease q recId s
  | .wipe q => Sys2Proof.Machine.execWipe q s
  | .setSeconds q seconds => Sys2Proof.Machine.execSetSeconds q seconds s
  | .latchClear q => Sys2Proof.Machine.execLatchClear q s
  | .restart q => Sys2Proof.Machine.execRestart q s
  | .badRequest q code args => Sys2Proof.Machine.execBadRequest q code args s
  | .idleGapMet => Sys2Proof.Machine.execIdleGapMet s
  | .backoffExpiry => Sys2Proof.Machine.execBackoffExpiry s
  | .lineTurnsBusy delimiter => Sys2Proof.Machine.execLineTurnsBusy delimiter s
  | .mismatch => Sys2Proof.Machine.execMismatch s
  | .frameSent => Sys2Proof.Machine.execFrameSent s
  | .sectionReset => Sys2Proof.Machine.execSectionReset s
  | .uplinkReportSent => Sys2Proof.Machine.execUplinkReportSent s
  | .engineOperationStart => Sys2Proof.Machine.execEngineOperationStart s
  | .eraseComplete => Sys2Proof.Machine.execEraseComplete s
  | .captureProgramComplete => Sys2Proof.Machine.execCaptureProgramComplete s
  | .careSnapshotComplete => Sys2Proof.Machine.execCareSnapshotComplete s
  | .markComplete => Sys2Proof.Machine.execMarkComplete s
  | .nominalMicrosecond => Sys2Proof.Machine.execNominalMicrosecond s

end Sys2Proof.Machine
end

