-- ==== Sys2Proof/Safety.lean ====
section
/-! DEFINITION. What counts as a safe state, in the terms the statements use: the invariants that every step keeps, which
blocks each command may change, and when a command is heard. -/

namespace Sys2Proof

open Sys2Proof.Machine

/-! ### Steps -/

/-- An invariant that every step keeps, from any state that meets it. -/
def KeptByStep (inv : State → Prop) : Prop := ∀ s t : State, inv s → step s = .next t → inv t

/-! ### Invariants -/

/-- The record memory's cells stand in their canonical form. -/
def memoryInv (s : State) : Prop := Memory.wf s.mem

/-- The grade agrees with the time state (R5): 15 in UNSET alone, 0 in ANCHORED alone, 1 to 14 in the others. -/
def gradeInv (s : State) : Prop := gradeAgrees s.tb.state s.tb.grade = true

/-- Local time, the accumulator and the correction terms lie in their ranges (R1 to R3). -/
def clockInv (s : State) : Prop :=
  s.tb.clock.sec ≤ 4294967295 ∧ s.tb.clock.us ≤ 999999 ∧ |s.tb.residual| ≤ 999999999 ∧
    |s.tb.steerF| ≤ 100000 ∧ |s.tb.p| ≤ 50000 ∧ |s.tb.tc| ≤ 50000

/-- The transmit queue's bounds, the access state that goes with its head (R189, R190), and the frame in transmission: it
has not sent more than its bytes, and it holds a departure stamp from the start delimiter of a BEACON on (R12). -/
def queueInv (s : State) : Prop :=
  s.line.queue.length ≤ 8 ∧ (s.line.queue.filter QFrame.isBeacon).length ≤ 1 ∧
    (s.line.access = .idle ↔ s.line.queue = []) ∧ s.line.driven.isSome = s.line.sending ∧ s.line.silence ≤ 736 ∧
    ∀ e stamp q rest, s.line.access = .transmitting e stamp → s.line.queue = q :: rest →
      e ≤ frameUs q ∧ (stamp.isSome = true ↔ q.isBeacon = true ∧ 320 ≤ e)

/-- The Peer Table holds at most 24 entries, of station identifiers, in strictly ascending order (R27). -/
def peersInv (s : State) : Prop :=
  s.peers.entries.length ≤ 24 ∧ s.peers.entries.Pairwise (fun a b => a.id < b.id) ∧
    ∀ e ∈ s.peers.entries, 1 ≤ e.id ∧ e.id ≤ 239

/-- The Pick List holds at most 32 entries in order of pick time, no two the same pick (R84). -/
def picksInv (s : State) : Prop :=
  s.picks.entries.length ≤ 32 ∧ s.picks.entries.Pairwise (fun a b => usOf a.time ≤ usOf b.time) ∧
    s.picks.entries.Pairwise (fun a b => ¬(a.origin = b.origin ∧ a.seq = b.seq))

/-- The ALERT line as the entries have it (R116). -/
def alertAgrees (s : State) : Prop :=
  s.events.alertLine = true ↔ ∃ e ∈ s.events.entries, e.active = true ∧ s.profile.confirmCount ≤ e.declaredBy.length

/-- The Event Table holds at most 8 entries, no two of them with a key or a serial in common, and the ALERT line agrees
with it (R104, R116); the station itself is in a declared-by list only of an event it declared. While step 1 of a start is to
come, when the profile may still change, there is no entry, and none can be made: the line is not enabled and holds no frame
to send, and neither a tick nor a steering instant is scheduled. -/
def eventsInv (s : State) : Prop :=
  s.events.entries.length ≤ 8 ∧ s.events.entries.Pairwise (fun a b => a.key ≠ b.key) ∧
    s.events.entries.Pairwise (fun a b => a.serial ≠ b.serial) ∧
    (∀ e ∈ s.events.entries, e.serial < s.events.nextSerial) ∧ s.events.uplink.length ≤ 16 ∧ alertAgrees s ∧
    (∀ e ∈ s.events.entries, s.own ∈ e.declaredBy → e.localDecl = true) ∧
    (s.phase = .step1 → s.events.entries = [] ∧ s.line.rx = .deaf ∧ s.line.queue = [] ∧ s.line.access = .idle ∧
      s.tb.nextTick = none ∧ s.tb.lastTick = none ∧ s.tb.nextInstant = none)

/-- The record directory holds at most 64 entries in strictly ascending order of identifier, and no identifier is given
twice (R126). -/
def directoryInv (s : State) : Prop :=
  s.rm.dir.length ≤ 64 ∧ s.rm.dir.Pairwise (fun a b => a.id < b.id) ∧ s.rm.nextId ≤ 4294967295 ∧
    (s.rm.nextId = 4294967295 ∨ ∀ e ∈ s.rm.dir, e.id < s.rm.nextId)

/-- A page that a record may own (R123). -/
def poolPage (p : Nat) : Prop := p < 512 ∧ isCarePage p = false

/-- The page map has an entry for each of the 512 pages, the eight care pages are CARE and no other is (R123), and the
pages of the page buffer are pool pages. -/
def pageMapInv (s : State) : Prop :=
  s.rm.map.length = 512 ∧ (∀ p < 512, s.kindOf p = .care ↔ isCarePage p = true) ∧
    (∀ p, s.rm.cap.buf.page = some p → poolPage p) ∧ ∀ p, s.rm.cap.buf.next = some p → poolPage p

/-- The steps of a start after the restore, and the running part. -/
def restoredPhase (p : Phase) : Bool :=
  match p with
  | .step3 | .step4 | .step5 | .running => true
  | _ => false

/-- Q lies within the capacity once it has been restored, the residual within its bounds (R154), and the shed level from 0 to
3 (R157). -/
def chargeInv (s : State) : Prop :=
  |s.bat.residual| ≤ 999 ∧ (restoredPhase s.phase = true → s.bat.q ≤ s.profile.fullCharge) ∧ s.bat.shed ≤ 3

/-- HEAT is off while HEATER OPEN is latched, and the open-check mark stands only while HEAT is on (R175, R178). -/
def heaterInv (s : State) : Prop :=
  (s.heat.openSince.isSome = true → s.heat.on = false) ∧ (s.heat.openCheck = true → s.heat.on = true)

/-- The ring holds at most 4,096 sets (R52). -/
def ringInv (s : State) : Prop := s.sampler.ring.length ≤ 4096

/-- The ranges and orderings of every parameter of the profile that a start leaves (R57, R83, R131, R152, R171, R211, R216).
v_crit can fall to −1, one below a v_low of 0 (R152). -/
def profileInv (s : State) : Prop :=
  let p := s.profile
  (p.linePos ≤ 20000 ∧ -32767 ≤ p.east ∧ p.east ≤ 32767 ∧ -32767 ≤ p.north ∧ p.north ≤ 32767 ∧ p.baseCode ≤ 3 ∧
      p.rateCode ≤ 2 ∧ 1 ≤ p.ppsWindow ∧ p.ppsWindow ≤ 500 ∧ 4 ≤ p.lineNs ∧ p.lineNs ≤ 6) ∧
    (|p.tempA| ≤ 50000 ∧ |p.tempB| ≤ 50000 ∧ |p.tempC| ≤ 50000 ∧ |p.tempD| ≤ 50000 ∧ |p.tempE| ≤ 50000) ∧
    (1 ≤ p.staShift ∧ p.staShift ≤ 6 ∧ 5 ≤ p.ltaShift ∧ p.staShift + 3 ≤ p.ltaShift ∧ p.ltaShift ≤ 12 ∧
      p.ltaFloor ≤ 65535 ∧ 24 ≤ p.onRatio ∧ p.onRatio ≤ 255 ∧ 16 ≤ p.offRatio ∧ p.offRatio < p.onRatio ∧
      1 ≤ p.onHold ∧ p.onHold ≤ 63 ∧ 1 ≤ p.offHold ∧ p.offHold ≤ 255 ∧ 1 ≤ p.maxTrigger ∧ p.maxTrigger ≤ 120) ∧
    (1 ≤ p.chanVote ∧ p.chanVote ≤ 3 ∧ 1 ≤ p.repickGap ∧ p.repickGap ≤ 60 ∧ 1 ≤ p.window ∧ p.window ≤ 30 ∧
      5 ≤ p.retention ∧ p.retention ≤ 60 ∧ p.slack ≤ 500000 ∧ 1000 ≤ p.vMin ∧ p.vMin ≤ 10000 ∧
      p.gradeLimit ≤ 14 ∧ p.kVotes ≤ 8 ∧ 2 ≤ p.kFloor ∧ p.kFloor ≤ p.kVotes) ∧
    (10 ≤ p.alertHold ∧ p.alertHold ≤ 600 ∧ 1 ≤ p.alertRepeats ∧ p.alertRepeats ≤ 4 ∧ 1 ≤ p.confirmCount ∧
      p.confirmCount ≤ 4 ∧ 5 ≤ p.preS ∧ p.preS ≤ 30 ∧ p.preS * rateOf p.rateCode ≤ 4096 ∧ 10 ≤ p.postS ∧
      p.postS ≤ 120 ∧ 30 ≤ p.recordMaxS ∧ p.recordMaxS ≤ 600) ∧
    (1 ≤ p.capacityAh ∧ p.capacityAh ≤ 2000 ∧ 80 ≤ p.chargeEff ∧ p.chargeEff ≤ 100 ∧ 0 ≤ p.fullMv ∧
      p.fullMv ≤ 32760 ∧ 0 ≤ p.taperMa ∧ p.taperMa ≤ 5000 ∧ 0 ≤ p.emptyMv ∧ p.emptyMv ≤ 32760 ∧ 1 ≤ p.shed3 ∧
      p.shed3 ≤ 50 ∧ p.shed3 < p.shed2 ∧ 5 ≤ p.shed2 ∧ p.shed2 ≤ 80 ∧ p.shed2 < p.shed1 ∧ 10 ≤ p.shed1 ∧ p.shed1 ≤ 90) ∧
    (0 ≤ p.vLow ∧ p.vLow ≤ 32760 ∧ -1 ≤ p.vCrit ∧ p.vCrit < p.vLow ∧ 0 ≤ p.writeFloor ∧ p.writeFloor ≤ 32760 ∧
      -200 ≤ p.chargeMinT ∧ p.chargeMinT ≤ 200 ∧ p.chargeMinT + 30 ≤ p.chargeMaxT ∧ 100 ≤ p.chargeMaxT ∧
      p.chargeMaxT ≤ 600) ∧
    (-300 ≤ p.maintT ∧ p.maintT ≤ 50 ∧ 0 ≤ p.setback ∧ p.setback ≤ 200 ∧ 5 ≤ p.hyst ∧ p.hyst ≤ 50 ∧
      0 ≤ p.sourceMv ∧ p.sourceMv ≤ 65520 ∧ p.chargeMinT + 20 + p.hyst + 10 ≤ p.cutoutT ∧
      p.maintT + p.hyst + 10 ≤ p.cutoutT ∧ 100 ≤ p.cutoutT ∧ p.cutoutT ≤ 600) ∧
    (-400 ≤ p.freezeLimit ∧ p.freezeLimit ≤ 0 ∧ 10 ≤ p.freezeBudget ∧ p.freezeBudget ≤ 1440 ∧ 10 ≤ p.minOn ∧
      p.minOn ≤ 600 ∧ 10 ≤ p.minOff ∧ p.minOff ≤ 600 ∧ 60 ≤ p.maxOn ∧ p.maxOn ≤ 7200 ∧ p.deferMax ≤ 300 ∧
      p.guardS ≤ 10 ∧ 100 ≤ p.heaterMinMa ∧ p.heaterMinMa ≤ 8000)

/-! ### The start and the supply -/

/-- A command that begins a start at step 1 (R215). -/
def beginsStart (c : Instr) (s : State) : Prop :=
  c = .powerOn ∨ (c = .brownOutRecovery ∧ s.phase = .brownOut) ∨ (c = .restartTakesEffect ∧ s.phase = .restarting)

/-- The output pins at a start and in a brown-out (R214, R215): low, the uplink at its idle level, which is high (12.3), the
line undriven. -/
def pinsLow : Pins := ⟨false, false, false, false, false, false, false, true, none⟩

/-- The bytes of an operation lie within its page. -/
def opFits (o : EngineOp) : Prop :=
  match o with
  | .careErase _ | .aheadErase _ | .wipeErase _ => True
  | .careProgram _ off bytes => off + bytes.length ≤ 2048
  | .recordProgram _ bytes => bytes.length ≤ 2048
  | .mark r => r.which ≤ 1

/-- What an operation that the supply lets complete leaves (R127, R149). -/
def completedAs (m : Memory) (o : EngineOp) (after : Memory) : Prop :=
  after = match o with
    | .careErase p | .aheadErase p | .wipeErase p => memErase m p
    | .careProgram p off bytes => memProgram m (p * 2048 + off) bytes
    | .recordProgram p bytes => memProgram m (p * 2048) bytes
    | .mark r => memProgram m (r.page * 2048 + 20 + r.which) [0]

/-- What an operation cut short leaves (R149, R167): of an ERASE a page that the scan finds torn or erased; of a care ERASE
bytes on their way from the old ones to 0xFF; of a care PROGRAM a page that is not readable, or a slot that is neither empty
nor valid; of a MARK a byte that counts as programmed, and nothing else changed. The cut PROGRAM of a record page is
CutRecordPageIsTorn. -/
def cutAs (m : Memory) (o : EngineOp) (after : Memory) : Prop :=
  match o with
  | .aheadErase p | .wipeErase p => scanPage after p = .torn ∨ scanPage after p = .erased
  | .careErase p => ∀ a, p * 2048 ≤ a → a < p * 2048 + 2048 → memRead after a ||| memRead m a = memRead after a
  | .careProgram p off bytes =>
    (∀ x, off = 0 → bytes = careHeader p ++ snapshotBytes x → careReadable (pageCells after p) p = false) ∧
      ∀ slot x, slot < 63 → off = 32 + 32 * slot → bytes = snapshotBytes x →
        slotSnapshot (pageCells after p) p slot = none ∧ ∃ i < 32, memRead after (p * 2048 + off + i) ≠ 0xFF#8
  | .recordProgram _ _ => True
  | .mark r => memRead after (r.page * 2048 + 20 + r.which) ≠ 0xFF#8 ∧
      ∀ a, a ≠ r.page * 2048 + 20 + r.which → memRead after a = memRead m a

/-- An address outside a page. -/
def outsidePage (page a : Nat) : Prop := a < page * 2048 ∨ page * 2048 + 2048 ≤ a

/-- A read of the configuration memory whose CRC is good (R210). -/
def crcGood (bs : List Byte) : Prop := ofBytes ((bs.drop 94).take 2) = crc16 (bs.take 94)

/-- The Loader stops at this read: it is acknowledged with a good CRC, and none before it is (R210). -/
def stopsAt (reads : List (Option (List Byte))) (bs : List Byte) : Prop :=
  ∃ before after, reads = before ++ some bs :: after ∧ crcGood bs ∧ ∀ b, some b ∈ before → ¬crcGood b

/-- No read is acknowledged with a good CRC. -/
def noneGood (reads : List (Option (List Byte))) : Prop := ∀ b, some b ∈ reads → ¬crcGood b

/-- The last acknowledged read (R212). -/
def lastIs (reads : List (Option (List Byte))) (bs : List Byte) : Prop :=
  ∃ before after, reads = before ++ some bs :: after ∧ ∀ r ∈ after, r = none

/-- Byte 0 of a read, the station identifier. -/
def idByte (bs : List Byte) : Nat := (bs.getD 0 0).toNat

/-- The unsigned byte at an offset. -/
def byteAt (bs : List Byte) (off : Nat) : Nat := (bs.getD off 0).toNat

/-- The unsigned field of two bytes at an offset, the most significant byte first (R216). -/
def wordAt (bs : List Byte) (off : Nat) : Nat := byteAt bs off * 256 + byteAt bs (off + 1)

/-- The signed field of two bytes at an offset, in two's complement (R216). -/
def signedAt (bs : List Byte) (off : Nat) : Int :=
  if wordAt bs off < 32768 then (wordAt bs off : Int) else (wordAt bs off : Int) - 65536

/-- A field held to its range: unchanged within it, and the nearer bound outside (R211). -/
def heldTo {α : Type} [Min α] [Max α] (lo hi x : α) : α := max lo (min hi x)

/-- Each field of the profile as it stands at its place in the 96 bytes (R216), in its chapter's unit: the temperature table's
steps of 2 ppb in ppb, the slack's ms in µs. -/
def asRead (bs : List Byte) : Profile where
  linePos := wordAt bs 1
  east := signedAt bs 3
  north := signedAt bs 5
  ppsEnable := decide (byteAt bs 7 % 2 = 1)
  uplinkRole := decide (byteAt bs 7 / 2 % 2 = 1)
  baseCode := byteAt bs 7 / 4 % 4
  rateCode := byteAt bs 7 / 16 % 4
  ppsWindow := wordAt bs 8
  lineNs := byteAt bs 10
  tempA := 2 * signedAt bs 11
  tempB := 2 * signedAt bs 13
  tempC := 2 * signedAt bs 15
  tempD := 2 * signedAt bs 17
  tempE := 2 * signedAt bs 19
  staShift := byteAt bs 21
  ltaShift := byteAt bs 22
  ltaFloor := wordAt bs 23
  onRatio := byteAt bs 25
  offRatio := byteAt bs 26
  onHold := byteAt bs 27
  offHold := byteAt bs 28
  maxTrigger := byteAt bs 29
  chanVote := byteAt bs 30
  repickGap := byteAt bs 31
  window := byteAt bs 32
  retention := byteAt bs 33
  slack := 1000 * wordAt bs 34
  vMin := wordAt bs 36
  gradeLimit := byteAt bs 38
  kVotes := byteAt bs 39
  kFloor := byteAt bs 40
  alertHold := wordAt bs 41
  alertRepeats := byteAt bs 43
  confirmCount := byteAt bs 44
  preS := byteAt bs 45
  postS := byteAt bs 46
  recordMaxS := wordAt bs 47
  capacityAh := wordAt bs 49
  chargeEff := byteAt bs 51
  fullMv := (wordAt bs 52 : Int)
  taperMa := (wordAt bs 54 : Int)
  emptyMv := (wordAt bs 56 : Int)
  shed1 := byteAt bs 58
  shed2 := byteAt bs 59
  shed3 := byteAt bs 60
  vLow := (wordAt bs 61 : Int)
  vCrit := (wordAt bs 63 : Int)
  writeFloor := (wordAt bs 65 : Int)
  chargeMinT := signedAt bs 67
  chargeMaxT := signedAt bs 69
  maintT := signedAt bs 71
  setback := (byteAt bs 73 : Int)
  hyst := (byteAt bs 74 : Int)
  sourceMv := (wordAt bs 75 : Int)
  cutoutT := signedAt bs 77
  freezeLimit := signedAt bs 79
  freezeBudget := wordAt bs 81
  minOn := wordAt bs 83
  minOff := wordAt bs 85
  maxOn := wordAt bs 87
  deferMax := wordAt bs 89
  guardS := byteAt bs 91
  heaterMinMa := wordAt bs 92

/-- A profile with each field held to its range (R211), before the ordering adjustments; the coordinates lose their most negative
value, and a flag, the base code and lta_floor have none to hold. The greatest off_ratio and k_floor are log entry 24. -/
def inRange (p : Profile) : Profile :=
  { p with
    linePos := heldTo 0 20000 p.linePos
    east := heldTo (-32767) 32767 p.east
    north := heldTo (-32767) 32767 p.north
    rateCode := heldTo 0 2 p.rateCode
    ppsWindow := heldTo 1 500 p.ppsWindow
    lineNs := heldTo 4 6 p.lineNs
    tempA := heldTo (-50000) 50000 p.tempA
    tempB := heldTo (-50000) 50000 p.tempB
    tempC := heldTo (-50000) 50000 p.tempC
    tempD := heldTo (-50000) 50000 p.tempD
    tempE := heldTo (-50000) 50000 p.tempE
    staShift := heldTo 1 6 p.staShift
    ltaShift := heldTo 5 12 p.ltaShift
    onRatio := heldTo 24 255 p.onRatio
    offRatio := heldTo 16 254 p.offRatio
    onHold := heldTo 1 63 p.onHold
    offHold := heldTo 1 255 p.offHold
    maxTrigger := heldTo 1 120 p.maxTrigger
    chanVote := heldTo 1 3 p.chanVote
    repickGap := heldTo 1 60 p.repickGap
    window := heldTo 1 30 p.window
    retention := heldTo 5 60 p.retention
    slack := heldTo 0 500000 p.slack
    vMin := heldTo 1000 10000 p.vMin
    gradeLimit := heldTo 0 14 p.gradeLimit
    kVotes := heldTo 2 8 p.kVotes
    kFloor := heldTo 2 8 p.kFloor
    alertHold := heldTo 10 600 p.alertHold
    alertRepeats := heldTo 1 4 p.alertRepeats
    confirmCount := heldTo 1 4 p.confirmCount
    preS := heldTo 5 30 p.preS
    postS := heldTo 10 120 p.postS
    recordMaxS := heldTo 30 600 p.recordMaxS
    capacityAh := heldTo 1 2000 p.capacityAh
    chargeEff := heldTo 80 100 p.chargeEff
    fullMv := heldTo 0 32760 p.fullMv
    taperMa := heldTo 0 5000 p.taperMa
    emptyMv := heldTo 0 32760 p.emptyMv
    shed1 := heldTo 10 90 p.shed1
    shed2 := heldTo 5 80 p.shed2
    shed3 := heldTo 1 50 p.shed3
    vLow := heldTo 0 32760 p.vLow
    vCrit := heldTo 0 32760 p.vCrit
    writeFloor := heldTo 0 32760 p.writeFloor
    chargeMinT := heldTo (-200) 200 p.chargeMinT
    chargeMaxT := heldTo 100 600 p.chargeMaxT
    maintT := heldTo (-300) 50 p.maintT
    setback := heldTo 0 200 p.setback
    hyst := heldTo 5 50 p.hyst
    sourceMv := heldTo 0 65520 p.sourceMv
    cutoutT := heldTo 100 600 p.cutoutT
    freezeLimit := heldTo (-400) 0 p.freezeLimit
    freezeBudget := heldTo 10 1440 p.freezeBudget
    minOn := heldTo 10 600 p.minOn
    minOff := heldTo 10 600 p.minOff
    maxOn := heldTo 60 7200 p.maxOn
    deferMax := heldTo 0 300 p.deferMax
    guardS := heldTo 0 10 p.guardS
    heaterMinMa := heldTo 100 8000 p.heaterMinMa }

/-- The profile of the 96 bytes with each field held to its range (R211, R216), before the ordering adjustments. -/
def laidOut (bs : List Byte) : Profile := inRange (asRead bs)

/-- The fields of a profile that a range or an ordering can change, each point of the temperature table for itself (log
entry 55). -/
def fieldsOf (p : Profile) : List Int :=
  [(p.linePos : Int), (p.east : Int), (p.north : Int), (p.rateCode : Int), (p.ppsWindow : Int), (p.lineNs : Int),
    (p.tempA : Int), (p.tempB : Int), (p.tempC : Int), (p.tempD : Int), (p.tempE : Int), (p.staShift : Int),
    (p.ltaShift : Int), (p.onRatio : Int), (p.offRatio : Int), (p.onHold : Int), (p.offHold : Int), (p.maxTrigger : Int),
    (p.chanVote : Int), (p.repickGap : Int), (p.window : Int), (p.retention : Int), (p.slack : Int), (p.vMin : Int),
    (p.gradeLimit : Int), (p.kVotes : Int), (p.kFloor : Int), (p.alertHold : Int), (p.alertRepeats : Int),
    (p.confirmCount : Int), (p.preS : Int), (p.postS : Int), (p.recordMaxS : Int)] ++
  [(p.capacityAh : Int), (p.chargeEff : Int), (p.fullMv : Int), (p.taperMa : Int), (p.emptyMv : Int), (p.shed1 : Int),
    (p.shed2 : Int), (p.shed3 : Int), (p.vLow : Int), (p.vCrit : Int), (p.writeFloor : Int), (p.chargeMinT : Int),
    (p.chargeMaxT : Int), (p.maintT : Int), (p.setback : Int), (p.hyst : Int), (p.sourceMv : Int), (p.cutoutT : Int),
    (p.freezeLimit : Int), (p.freezeBudget : Int), (p.minOn : Int), (p.minOff : Int), (p.maxOn : Int),
    (p.deferMax : Int), (p.guardS : Int), (p.heaterMinMa : Int)]

/-- The number of fields in which two profiles differ. -/
def fieldChanges (p q : Profile) : Nat := ((fieldsOf p).zip (fieldsOf q)).countP (fun x => decide (x.1 ≠ x.2))

/-- The ordering adjustments of a profile whose fields lie in their ranges (R57, R83, R131, R152, R171, R211). -/
def ordered (p : Profile) : Profile :=
  { p with
    ltaShift := max p.ltaShift (p.staShift + 3)
    offRatio := min p.offRatio (p.onRatio - 1)
    kFloor := min p.kFloor p.kVotes
    preS := min p.preS (4096 / rateOf p.rateCode)
    shed2 := min p.shed2 (p.shed1 - 1)
    shed3 := min p.shed3 (min p.shed2 (p.shed1 - 1) - 1)
    vCrit := min p.vCrit (p.vLow - 1)
    chargeMaxT := max p.chargeMaxT (p.chargeMinT + 30)
    cutoutT := max p.cutoutT (max (p.chargeMinT + 20) p.maintT + p.hyst + 10) }

/-- The profile in force in listen-only (R212): the defaults of 12.4, of Events and Alerts, of Battery Accounting and of Heater
Control. Of the parameters without a stated default (log entry 7) it says nothing; ProfileStaysInRange does. -/
def listenDefaults (p : Profile) : Prop :=
  (p.linePos = 0 ∧ p.east = 0 ∧ p.north = 0 ∧ p.ppsEnable = false ∧ p.uplinkRole = false ∧ p.baseCode = 1 ∧
      p.rateCode = 1 ∧ p.ppsWindow = 100 ∧ p.lineNs = 5 ∧ p.tempA = 0 ∧ p.tempB = 0 ∧ p.tempC = 0 ∧ p.tempD = 0 ∧
      p.tempE = 0 ∧ p.alertHold = 120 ∧ p.alertRepeats = 3 ∧ p.confirmCount = 2) ∧
    (p.capacityAh = 100 ∧ p.chargeEff = 95 ∧ p.fullMv = 14200 ∧ p.taperMa = 500 ∧ p.emptyMv = 11000 ∧ p.shed1 = 40 ∧
      p.shed2 = 20 ∧ p.shed3 = 8 ∧ p.vLow = 12000 ∧ p.vCrit = 11400 ∧ p.writeFloor = 11000 ∧ p.chargeMinT = 20 ∧
      p.chargeMaxT = 450) ∧
    (p.maintT = -150 ∧ p.setback = 50 ∧ p.hyst = 10 ∧ p.sourceMv = 15000 ∧ p.cutoutT = 400 ∧ p.freezeLimit = -250 ∧
      p.freezeBudget = 240 ∧ p.minOn = 60 ∧ p.minOff = 120 ∧ p.maxOn = 1800 ∧ p.deferMax = 120 ∧ p.guardS = 3 ∧
      p.heaterMinMa = 1000)

/-- The exposure after the report of the first exit from UNSET, with local time after it (R25, R183): the restart gap in whole
seconds, floored, from 0 to 604,800, joins it where the restored below-freeze flag is set; the restored time and flag are
then discarded. -/
def gapCounted (h : Heater) (now : ArrayTime) (after : Heater) : Prop :=
  ∃ exposure, after = { h with exposure := exposure, restoredTime := none, restoredFlag := false } ∧
    (h.restoredFlag = false → exposure = h.exposure) ∧
    (h.restoredFlag = true →
      (h.restoredTime = none → exposure = min 4294967295 h.exposure) ∧
      ∀ r, h.restoredTime = some r →
        exposure = min 4294967295 (h.exposure + (max 0 (min 604800 (diffUs now r / 1000000))).toNat))

/-- A valid snapshot of the care log at a place and a slot (R167). -/
def snapshotAt (m : Memory) (place slot : Nat) (x : Snapshot) : Prop :=
  place < 8 ∧ slot < 63 ∧ careReadable (pageCells m (carePage place)) (carePage place) = true ∧
    slotSnapshot (pageCells m (carePage place)) (carePage place) slot = some x

/-- The fields of a snapshot in the widths of R216, with a shed level of 0 to 3. -/
def snapshotFits (x : Snapshot) : Prop :=
  x.seq < 4294967296 ∧ x.time.sec < 4294967296 ∧ x.time.us < 16777216 ∧ x.timeState < 256 ∧ x.q < 1099511627776 ∧
    x.capacity < 65536 ∧ x.exposure < 4294967296 ∧ x.shed ≤ 3 ∧ x.nextId < 4294967296 ∧ x.cause < 256

/-- A valid page that the scan keeps for a record: of several with one identifier and page index, that of the lowest page
number (R146, R147). -/
def recordPage (m : Memory) (h : PageHeader) : Prop :=
  poolPage h.page ∧ scanPage m h.page = .valid h ∧
    ∀ x, poolPage x.page → scanPage m x.page = .valid x → x.id = h.id → x.idx = h.idx → h.page ≤ x.page

/-- The run of a record (R147): its pages of consecutive indices from 0, up to a final page or the first missing index. -/
def recordRun (m : Memory) (id : Nat) (run : List PageHeader) : Prop :=
  run ≠ [] ∧ (∀ i h, run[i]? = some h → recordPage m h ∧ h.id = id ∧ h.idx = i) ∧
    (∀ i h, run[i]? = some h → i + 1 < run.length → h.final = false) ∧
    ∀ last, run.getLast? = some last → last.final = true ∨ ∀ h, recordPage m h → h.id = id → h.idx ≠ run.length

/-- At most 63 records of higher identifiers are rebuilt, so that this one is kept (R148). -/
def keptRecord (m : Memory) (id : Nat) : Prop :=
  ∀ ids : List Nat, ids.Nodup → (∀ n ∈ ids, id < n ∧ ∃ run, recordRun m n run) → ids.length ≤ 63

/-- The pool page that follows a pool page in ascending circular order, past the care pages (R123, R147; log entry 22). -/
def nextPool (q p : Nat) : Prop := p = if q = 251 then 256 else if q = 507 then 0 else q + 1

/-- A run without a final page is TORN rather than CUT: its record has valid pages beyond the missing index, or the page that
follows its last page is torn (R147). -/
def runTorn (m : Memory) (run : List PageHeader) (last : PageHeader) : Prop :=
  (∃ h, recordPage m h ∧ h.id = last.id ∧ run.length < h.idx) ∨
    ∃ p, nextPool last.page p ∧ poolPage p ∧ scanPage m p = .torn

/-- The directory entry rebuilt from a run (R147). -/
def rebuiltAs (m : Memory) (run : List PageHeader) (e : DirEntry) : Prop :=
  ∃ first last cause, run.head? = some first ∧ run.getLast? = some last ∧
    e =
      { id := first.id, closed := true, hold := first.hold, firstPage := some first.page, pages := run.length
        firstSet := first.first
        lastSet := some (addUs last.first (((last.count : Int) - 1) * (1000000 / rateOf last.rate : Nat)))
        endCause := some cause, eventRef := none } ∧
    (last.final = true → cause = last.cause) ∧
    (last.final = false → (runTorn m run last → cause = .torn) ∧ (¬runTorn m run last → cause = .cut))

/-- A page in the run of a record that is kept. -/
def inKeptRun (m : Memory) (h : PageHeader) : Prop := ∃ run, recordRun m h.id run ∧ keptRecord m h.id ∧ h ∈ run

/-- A page whose every byte is erased. -/
def pageErased (m : Memory) (page : Nat) : Prop :=
  ∀ a, page * 2048 ≤ a → a < page * 2048 + 2048 → memRead m a = 0xFF#8

/-! ### What a command may change -/

/-- The parts of the state, one for each block of the manual, with the start sequence and the profile for the Profile
Loader. -/
inductive Block where
  | start | profile | memory | timebase | peerTable | sampler | detector | pickList | eventTable | recordMemory
  | battery | heater | line | query
  deriving DecidableEq, Repr

/-- Two states agree on a block. -/
def sameBlock (b : Block) (s t : State) : Prop :=
  match b with
  | .start => t.phase = s.phase
  | .profile =>
    t.profile = s.profile ∧ t.ownId = s.ownId ∧ t.listenOnly = s.listenOnly ∧ t.listenCause = s.listenCause ∧
      t.clamped = s.clamped
  | .memory => t.mem = s.mem
  | .timebase => t.tb = s.tb
  | .peerTable => t.peers = s.peers
  | .sampler => t.sampler = s.sampler
  | .detector => t.det = s.det
  | .pickList => t.picks = s.picks
  | .eventTable => t.events = s.events
  | .recordMemory => t.rm = s.rm
  | .battery => t.bat = s.bat
  | .heater => t.heat = s.heat
  | .line => t.line = s.line
  | .query => t.query = s.query

/-- Every block: what a start may change but for the record memory's bytes, which it keeps (R148). -/
def startBlocks : List Block :=
  [.start, .profile, .timebase, .peerTable, .sampler, .detector, .pickList, .eventTable, .recordMemory, .battery,
    .heater, .line, .query]

/-- The blocks that each command may change. -/
def mayChange (c : Instr) : List Block :=
  match c with
  | .powerOn | .brownOutRecovery | .restartTakesEffect => startBlocks
  | .brownOut _ => [.start, .memory, .recordMemory, .battery, .line]
  | .profileRead _ _ _ => [.start, .profile]
  | .careRestore => [.start, .battery, .heater]
  | .startUpScan => [.start, .recordMemory]
  | .lineEnable => [.start, .line, .timebase]
  | .samplerStart => [.start, .timebase, .detector]
  | .sampleTick _ =>
    [.timebase, .peerTable, .sampler, .detector, .pickList, .eventTable, .recordMemory, .battery, .heater, .line]
  | .settlingEnd _ _ | .warmupEnd _ _ | .channelTriggered _ _ _ | .triggerEnd _ _ _ | .maxTrigger _ _ _ => [.detector]
  | .captureTakeSet | .captureEndTime | .recordMaxReached | .pageAllocation | .engineOperationStart =>
    [.recordMemory, .battery]
  | .pickAged => [.pickList]
  | .eventEnd | .uplinkReportSent => [.eventTable]
  | .alertRepeatDue => [.eventTable, .line]
  | .schedule | .owedSnapshot => [.battery, .recordMemory]
  | .shedExit => [.battery, .recordMemory, .detector, .timebase]
  | .fullAnchor | .emptyAnchor => [.battery]
  | .maxOn | .deferralExpired => [.heater, .detector]
  | .openCheck _ => [.heater, .detector, .battery]
  | .heaterOpenClear | .exposureReset => [.heater]
  | .steeringInstant | .peerExpiry => [.timebase, .peerTable, .line, .recordMemory, .heater]
  | .ppsEdge => [.timebase, .line, .recordMemory]
  | .beaconReceived _ _ => [.line, .peerTable, .timebase]
  | .pickFrameReceived _ _ => [.line, .peerTable, .pickList, .eventTable, .recordMemory, .battery]
  | .alertFrameReceived _ _ => [.line, .peerTable, .eventTable, .recordMemory, .battery]
  | .badFrame _ => [.line]
  | .frameNotHandedOn _ _ _ => [.line, .peerTable]
  | .status _ _ | .peer _ _ | .event _ _ | .record _ _ | .page _ _ _ _ | .release _ _ | .wipe _ | .badRequest _ _ _ =>
    [.line, .peerTable, .query, .recordMemory, .battery]
  | .setSeconds _ _ => [.line, .peerTable, .query, .recordMemory, .battery, .timebase, .heater]
  | .latchClear _ =>
    [.timebase, .peerTable, .sampler, .detector, .pickList, .eventTable, .recordMemory, .battery, .heater, .line, .query]
  | .restart _ => [.line, .peerTable, .query, .recordMemory, .battery]
  | .idleGapMet | .backoffExpiry | .lineTurnsBusy _ => [.line]
  | .mismatch | .frameSent => [.line, .eventTable]
  | .sectionReset => [.line, .peerTable, .pickList, .timebase]
  | .eraseComplete => [.memory, .recordMemory, .battery]
  | .captureProgramComplete => [.memory, .recordMemory, .battery]
  | .careSnapshotComplete => [.start, .memory, .recordMemory, .battery]
  | .markComplete => [.memory, .recordMemory, .battery]
  | .nominalMicrosecond => [.timebase, .eventTable, .line]

/-! ### Frames heard -/

/-- The receiver is taking a frame: enabled and not transmitting, it heard the frame's delimiter, with r local time at its
leading edge (R194). -/
def hears (s : State) (r : ArrayTime) : Prop :=
  s.awake = true ∧ s.line.sending = false ∧ s.line.rx = .taking r

/-- A frame of a sender that is a station's or a tool's and not the part's own is heard (R194, R195). -/
def heardFrom (s : State) (sender : Nat) : Prop :=
  (∃ r, hears s r) ∧ 1 ≤ sender ∧ sender ≤ 254 ∧ s.ownId ≠ some sender

/-- A QUERY of a service tool to the part is heard (R195, R200). -/
def queryHeard (s : State) (q : QueryHeader) : Prop :=
  (∃ r, hears s r) ∧ 240 ≤ q.sender.toNat ∧ q.sender.toNat ≤ 254 ∧ s.ownId = some q.target.toNat ∧
    q.target.toNat ≤ 239

/-- A query taken and answered outside listen-only: it renews the line-quiet timer, it is counted, and its ANSWER is
handed to the transmit queue (R196, R200); `t` is what its own rule leaves. -/
def answered (t : State) (q : QueryHeader) (code result : Nat) (data : List Byte) : State :=
  engineKick (offerFrame { t with query := { t.query with taken := bump t.query.taken } }
    (.answer ⟨q.sender.toNat, code, result, data⟩) (some q.seq.toNat))

/-- The state in which a frame that passes the tests of R195 is handed on: the receiver hunts again (R194) and the line-quiet
timer is renewed (R196). -/
def renewed (s : State) : State :=
  { s with line := { s.line with rx := .hunting, lastValid := some (usOf s.tb.clock), quiet := false } }

/-! ### Time -/

/-- A steering instant is due: local time has reached the scheduled time `n` (R11). -/
def instantDue (s : State) (n : ArrayTime) : Prop :=
  s.awake = true ∧ s.tb.nextInstant = some n ∧ 0 ≤ diffUs s.tb.clock n

/-- A peer is live: the age of its last beacon is less than three advertised intervals (R35). -/
def peerLive (s : State) (e : PeerEntry) : Prop := diffUs s.tb.clock e.last < 3 * (e.interval : Int) * 1000000

/-- A peer qualifies (R15). -/
def peerQualifies (s : State) (e : PeerEntry) : Prop :=
  e ∈ s.peers.entries ∧ peerLive s e ∧ e.conflict = false ∧ e.fresh = true ∧ e.grade ≤ 14

/-- g is the least grade among the qualifying peers (R15). -/
def bestGrade (s : State) (g : Nat) : Prop :=
  (∃ e, peerQualifies s e ∧ e.grade = g) ∧ ∀ e, peerQualifies s e → g ≤ e.grade

/-- v is the lower median of some values: the one at position floor((n − 1) / 2) of the n in ascending order (R17). -/
def isLowerMedian (xs : List Int) (v : Int) : Prop :=
  ∃ ys : List Int, ys.Perm xs ∧ ys.Pairwise (fun a b => a ≤ b) ∧ ys[(xs.length - 1) / 2]? = some v

/-- The offsets of the reference set of grade g (R15); the order does not matter to their median. -/
def offsetsOf (s : State) (g : Nat) (xs : List Int) : Prop :=
  ∃ es : List PeerEntry, es.Nodup ∧ (∀ e, e ∈ es ↔ peerQualifies s e ∧ e.grade = g) ∧ xs = es.map PeerEntry.offset

/-- PPS is present: enabled, with an edge accepted less than 64 s of local time ago (R10). -/
def ppsPresent (s : State) : Prop :=
  s.profile.ppsEnable = true ∧ ∃ t, s.tb.ppsLast = some t ∧ diffUs s.tb.clock t < 64000000

/-- A time state and grade outside HOLDOVER, the entry values lapsed. -/
def withState (s : State) (state : TimeState) (grade : Nat) : State :=
  { s with tb := { s.tb with state := state, grade := grade, holdover := none } }

/-- p set to 0 (R16). -/
def withoutP (s : State) : State := { s with tb := { s.tb with p := 0 } }

/-- The correction of R18 for a reference that is ahead by v µs (an error of −v): a step by v, or the PI update of R19
over T seconds. -/
def corrected (s : State) (v T : Int) : State :=
  if 1000 < |v| then stepClock s v
  else
    { s with
      tb :=
        { s.tb with
          p := clampInt (-50000) 50000 (-((-v * 1000).tdiv (4 * T)))
          steerF := clampInt (-100000) 100000 (s.tb.steerF - (-v * 1000).tdiv (16 * T)) } }

/-- Steps 3 to 6 of an instant (R20): the Peer Table shifts and expires, the seed is emptied, the next instant is
scheduled and the own BEACON is asked for. -/
def endInstant (s : State) : State :=
  askBeacon (scheduleInstant (emptySeed (expirePeers (shiftHeard s))))

/-- Steps 1 and 2 of an instant before its path (R20): the stepped indication cleared, and a HOLDOVER grade formed anew. -/
def beginInstant (s : State) : State := reformGrade { s with tb := { s.tb with stepped := false } }

/-- The beacon interval in seconds at the shed level now in force (R11). -/
def intervalNow (s : State) : Nat :=
  min 512 (4 * 2 ^ s.profile.baseCode * (if s.bat.shed = 0 then 1 else if s.bat.shed ≤ 2 then 4 else 16))

/-! ### Received frames -/

/-- A BEACON's contents pass the checks of R28, with the time state they report. -/
def beaconFits (b : BeaconPayload) (st : TimeState) : Prop :=
  b.intervalCode.toNat ≤ 7 ∧ b.timeState.toNat = st.code ∧ (st = .unset → b.grade.toNat = 15) ∧
    (st = .anchored → b.grade.toNat = 0) ∧
    (st ≠ .unset → st ≠ .anchored → 1 ≤ b.grade.toNat ∧ b.grade.toNat ≤ 14) ∧ b.shed.toNat ≤ 3 ∧
    b.linePos.toNat ≤ 20000 ∧ b.east.toInt ≠ -32768 ∧ b.north.toInt ≠ -32768 ∧ b.soc.toNat ≤ 1000

/-- The delay of R13: |sender line position − own line position| × line_ns_per_m, in µs, rounded halves up. -/
def delayUs (s : State) (b : BeaconPayload) : Int :=
  ((((b.linePos.toNat : Int) - s.profile.linePos).natAbs * s.profile.lineNs + 500) / 1000 : Nat)

/-- An entry as a stored BEACON fills it (R30, R33), with the offset of R13. -/
def filledBy (s : State) (b : BeaconPayload) (r : ArrayTime) (st : TimeState) (e : PeerEntry) : PeerEntry :=
  { e with
    interval := 4 * 2 ^ b.intervalCode.toNat, last := r
    offset := clampInt (-2147483647) 2147483647 (usOf (wireTime b.departure) + delayUs s b - usOf r)
    fresh := true, state := st, grade := b.grade.toNat, shed := b.shed.toNat
    running := decide (b.flags.toNat % 2 = 1), soc := b.soc.toNat, temp := b.temp.toInt }

/-- The entry that a BEACON makes for a sender without one (R33). -/
def madeBy (s : State) (sender : Nat) (b : BeaconPayload) (r : ArrayTime) (st : TimeState) : PeerEntry :=
  filledBy s b r st
    { id := sender, linePos := b.linePos.toNat, east := b.east.toInt, north := b.north.toInt, interval := 4, last := r
      offset := 0, fresh := true, state := st, grade := 0, shed := 0, running := false, soc := 0, temp := 0
      heardA := false, heardB := false, heardC := false, conflict := false }

/-- The UNSET seed after a BEACON stored fresh (R14). -/
def seedAfter (s : State) (sender : Nat) (b : BeaconPayload) (r : ArrayTime) (st : TimeState)
    (old new : Option Seed) : Prop :=
  (s.tb.state = .unset ∧ st ≠ .unset ∧ b.grade.toNat ≤ 14 ∧ (∀ x, old = some x → b.grade.toNat ≤ x.grade) →
    new = some ⟨sender, b.grade.toNat, addUs (wireTime b.departure) (delayUs s b), r⟩) ∧
  (¬(s.tb.state = .unset ∧ st ≠ .unset ∧ b.grade.toNat ≤ 14 ∧ ∀ x, old = some x → b.grade.toNat ≤ x.grade) →
    new = old)

/-- The entry that a full table looks at: of the oldest last-beacon time, and of the lowest identifier between equal
times (R34). -/
def oldestEntry (s : State) (e : PeerEntry) : Prop :=
  e ∈ s.peers.entries ∧ ∀ x ∈ s.peers.entries, usOf e.last < usOf x.last ∨ (usOf e.last = usOf x.last ∧ e.id ≤ x.id)

/-- A PICK frame's pick passes the checks of R85. -/
def pickFits (sender : Nat) (p : PickPayload) : Prop :=
  sender ≤ 239 ∧ p.grade.toNat ≤ 15 ∧ p.amp.toNat ≤ 23 ∧ p.mask.toNat % 8 ≠ 0 ∧ p.east.toInt ≠ -32768 ∧
    p.north.toInt ≠ -32768 ∧ p.onset.us.toNat ≤ 999999

/-- The entry of a PICK frame's pick (R84, R86). -/
def pickOf (s : State) (sender : Nat) (p : PickPayload) : PickEntry :=
  { origin := sender, seq := p.seq.toNat, time := wireTime p.onset, grade := p.grade.toNat, east := p.east.toInt
    north := p.north.toInt, amp := p.amp.toNat, counted := decide (p.grade.toNat ≤ s.profile.gradeLimit)
    assigned := none }

/-- The entries that the ageing sweep keeps (R88). -/
def keptPicks (s : State) : List PickEntry :=
  s.picks.entries.filter (fun e =>
    decide (diffUs s.tb.clock e.time ≤ ((s.profile.window + s.profile.retention : Nat) : Int) * 1000000))

/-- The list after one of 32 entries gives way: the oldest unassigned one, or the oldest when all are assigned (R87). -/
def gaveWay (es kept : List PickEntry) : Prop :=
  ∃ a e b, es = a ++ e :: b ∧ kept = a ++ b ∧
    ((e.assigned = none ∧ ∀ x ∈ a, x.assigned ≠ none) ∨ (a = [] ∧ ∀ x ∈ es, x.assigned ≠ none))

/-- A pick at its place in order of pick time, after those of equal time (R84). -/
def placedIn (n : PickEntry) (es placed : List PickEntry) : Prop :=
  ∃ a b, es = a ++ b ∧ placed = a ++ n :: b ∧ (∀ x ∈ a, usOf x.time ≤ usOf n.time) ∧
    ∀ x ∈ b, usOf n.time < usOf x.time

/-- A good pick at the Pick List (R84, R87, R88): after the ageing sweep a pick too far ahead, too old or held already is counted;
any other enters at its place, one of 32 entries giving way, and is evaluated. -/
def pickTaken (s : State) (n : PickEntry) (t : State) : Prop :=
  ∀ base, base = { s with picks := { s.picks with entries := keptPicks s } } →
    (2000000 < diffUs n.time s.tb.clock →
      t = { base with picks := { base.picks with future := min (s.picks.future + 1) 65535 } }) ∧
    (((s.profile.window + s.profile.retention : Nat) : Int) * 1000000 < diffUs s.tb.clock n.time →
      t = { base with picks := { base.picks with stale := min (s.picks.stale + 1) 65535 } }) ∧
    (diffUs n.time s.tb.clock ≤ 2000000 →
      diffUs s.tb.clock n.time ≤ ((s.profile.window + s.profile.retention : Nat) : Int) * 1000000 →
      ((∃ e ∈ keptPicks s, e.origin = n.origin ∧ e.seq = n.seq) →
        t = { base with picks := { base.picks with duplicate := min (s.picks.duplicate + 1) 65535 } }) ∧
      ((∀ e ∈ keptPicks s, ¬(e.origin = n.origin ∧ e.seq = n.seq)) →
        ∃ kept placed displaced, placedIn n kept placed ∧
          ((keptPicks s).length < 32 → kept = keptPicks s ∧ displaced = s.picks.displaced) ∧
          ((keptPicks s).length = 32 → gaveWay (keptPicks s) kept ∧ displaced = min (s.picks.displaced + 1) 65535) ∧
          t = evaluatePick { base with picks := { base.picks with entries := placed, displaced := displaced } } n))

/-- The entry of a station pick, at the station's own place (R78, R84, R86). -/
def ownPick (s : State) (k : StationPick) : PickEntry :=
  { origin := s.own, seq := k.seq, time := k.onset, grade := k.grade, east := s.profile.east, north := s.profile.north
    amp := k.amp, counted := decide (k.grade ≤ s.profile.gradeLimit), assigned := none }

/-- An unassigned counted entry of the Pick List. -/
def freePick (s : State) (e : PickEntry) : Prop := e ∈ s.picks.entries ∧ e.assigned = none ∧ e.counted = true

/-- The first member of a list with a property. -/
def firstWith {α : Type} (P : α → Prop) (l : List α) (x : α) : Prop :=
  ∃ a b, l = a ++ x :: b ∧ P x ∧ ∀ y ∈ a, ¬P y

/-- A Peer Table entry of an event's first-pick station that is not in conflict (R92). -/
def keyPeer (e : EventEntry) (x : PeerEntry) : Prop := x.id = e.key.origin ∧ x.conflict = false

/-- A held entry of an event's first pick: its origin and pick time equal the event's key (R92). -/
def keyPick (e : EventEntry) (x : PickEntry) : Prop := x.origin = e.key.origin ∧ x.time = e.key.time

/-- The first-pick position of an event (R92), of the first source that gives one: the position that the event holds; a held
entry of its key, of several the first in the list (log entry 48); the station's own, for a key of its own; and that of a Peer
Table entry of the key's origin that is not in conflict. -/
def positionGiven (s : State) (e : EventEntry) (pos : Int × Int) : Prop :=
  e.position = some pos ∨
    (e.position = none ∧
      ((∃ x, firstWith (keyPick e) s.picks.entries x ∧ pos = (x.east, x.north)) ∨
        ((∀ y ∈ s.picks.entries, ¬keyPick e y) ∧
          ((s.ownId = some e.key.origin ∧ pos = (s.profile.east, s.profile.north)) ∨
            (s.ownId ≠ some e.key.origin ∧
              ∃ x, firstWith (keyPeer e) s.peers.entries x ∧ pos = (x.east, x.north))))))

/-- An event to which a new entry attaches (R92, R93). -/
def attachable (s : State) (n : PickEntry) (e : EventEntry) : Prop :=
  e ∈ s.events.entries ∧ e.active = true ∧ n.counted = true ∧ n.origin ∉ e.votes ∧ e.votes.length < 24 ∧
    ∃ pos, positionGiven s e pos ∧ consistent s.profile e.key.time pos n.time (n.east, n.north) = true

/-- The order of keys: by key time, then by key origin (R93, R104). -/
def keyAhead (a b : Key) : Prop := usOf a.time < usOf b.time ∨ (usOf a.time = usOf b.time ∧ a.origin < b.origin)

/-- The table has no place for an entry with a key (R106, R107): no entry has the key, and all 8 are ACTIVE. -/
def noPlace (s : State) (key : Key) : Prop :=
  (∀ e ∈ s.events.entries, e.key ≠ key) ∧ s.events.entries.length = 8 ∧ ∀ e ∈ s.events.entries, e.active = true

/-- An entry gives its place to a new one with a key (R106, R107): the ENDED entry with that key; or in a full table without
one, the ENDED entry of the earliest key time, and of the lower key origin between equal times. -/
def givesPlace (s : State) (key : Key) (x : EventEntry) : Prop :=
  x ∈ s.events.entries ∧ x.active = false ∧
    (x.key = key ∨ ((∀ e ∈ s.events.entries, e.key ≠ key) ∧ s.events.entries.length = 8 ∧
      ∀ e ∈ s.events.entries, e.active = false → e ≠ x → keyAhead x.key e.key))

/-- The entries that stay when a new one with a key is made (R106, R107). -/
def staysFor (s : State) (key : Key) (e : EventEntry) : Prop := e ∈ s.events.entries ∧ ¬givesPlace s key e

/-- A new entry with a key can be made: a free place, or an entry that gives its own (R106, R107). -/
def placeFor (s : State) (key : Key) : Prop :=
  (∃ x, givesPlace s key x) ∨ ((∀ e ∈ s.events.entries, e.key ≠ key) ∧ s.events.entries.length < 8)

/-- An ALERT passes the checks of R109. -/
def alertFits (sender : Nat) (a : AlertPayload) : Prop :=
  sender ≤ 239 ∧ 1 ≤ a.keyOrigin.toNat ∧ a.keyOrigin.toNat ≤ 239 ∧ a.keyTime.us.toNat ≤ 999999 ∧
    1 ≤ a.repeatNo.toNat ∧ a.repeatNo.toNat ≤ 4 ∧ 1 ≤ a.count.toNat ∧ a.count.toNat ≤ 16 ∧
    a.origins.length = a.count.toNat ∧ (∀ o ∈ a.origins, 1 ≤ o.toNat ∧ o.toNat ≤ 239) ∧ a.origins.Nodup ∧
    a.best.toNat ≤ 15 ∧ a.amp.toNat ≤ 23

/-- The distance of an entry's key time from an ALERT's, in µs (R110). -/
def alertDistance (a : AlertPayload) (e : EventEntry) : Int := |diffUs e.key.time (wireTime a.keyTime)|

/-- An entry is a candidate for an ALERT (R110). -/
def alertCandidate (s : State) (a : AlertPayload) (e : EventEntry) : Prop :=
  e ∈ s.events.entries ∧ alertDistance a e ≤ (s.profile.window : Int) * 1000000

/-- The entry that an ALERT matches: the closest candidate, then the lower key origin, then the earlier key time (R110). That
this holds also of two entries with the ALERT's key time, one of which has its key, is log entry 57. -/
def alertMatch (s : State) (a : AlertPayload) (e : EventEntry) : Prop :=
  alertCandidate s a e ∧ ∀ x, alertCandidate s a x → x ≠ e → alertDistance a e < alertDistance a x ∨
    (alertDistance a e = alertDistance a x ∧ (e.key.origin < x.key.origin ∨
      (e.key.origin = x.key.origin ∧ usOf e.key.time < usOf x.key.time)))

/-- Origins joined to a vote set: of those not yet in it the first, in the order carried, until it holds 24 (R106, R111). -/
def joined (votes new after : List Nat) : Prop :=
  after = votes ++ (new.filter (fun o => decide (o ∉ votes))).eraseDups.take (24 - votes.length)

/-- An Alert Report of an entry at the uplink port (R117, R118), with the port as it is after it: none without uplink_role;
taken at once by an idle port (log entry 20); else in the queue of 16, or dropped. -/
def reportFormed (s : State) (kind : Nat) (y : EventEntry) (after : EventTable) : Prop :=
  ∀ port : EventTable, port = { after with
      sending := s.events.sending, sentUs := s.events.sentUs, uplink := s.events.uplink
      uplinkDropped := s.events.uplinkDropped } →
    (s.profile.uplinkRole = false → after = port) ∧
    (s.profile.uplinkRole = true →
      (s.events.sending = none → after = { port with sending := some (reportBytes kind s.own y), sentUs := 0 }) ∧
      (s.events.sending.isSome = true →
        (s.events.uplink.length < 16 → after = { port with uplink := s.events.uplink ++ [reportBytes kind s.own y] }) ∧
        (16 ≤ s.events.uplink.length →
          after = { port with uplinkDropped := min (s.events.uplinkDropped + 1) 65535 })))

/-- A report taken by the uplink port: at once by an idle port (log entry 20); else it joins the queue of 16, or is dropped and
counted (R118). -/
def portTakes (port : EventTable) (report : List Byte) : EventTable :=
  if port.sending = none then { port with sending := some report, sentUs := 0 }
  else if port.uplink.length < 16 then { port with uplink := port.uplink ++ [report] }
  else { port with uplinkDropped := min (port.uplinkDropped + 1) 65535 }

/-- An ACTIVE entry ends: local time lies more than alert_hold after its last activity (R115). -/
def endsNow (s : State) (e : EventEntry) : Bool :=
  e.active && decide ((s.profile.alertHold : Int) * 1000000 < diffUs s.tb.clock e.lastActivity)

/-- The ENDED reports of the entries that end, in the order in which the entries were made (R115, R117; log entry 46). -/
def endedReports (s : State) : List (List Byte) :=
  if s.profile.uplinkRole = true then (s.events.entries.filter (endsNow s)).map (reportBytes 2 s.own) else []

/-- An entry's repeat is due: local time has reached its repeat due time (R114). -/
def repeatIsDue (s : State) (e : EventEntry) : Bool := e.repeatDue.any (fun due => decide (0 ≤ diffUs s.tb.clock due))

/-- A repeat of an entry e handed on (R113, R114): repeats remaining is one lower, and the repeat due time absent, before the
frame is handed to the Line Controller; a refusal completes the frame at once. -/
def repeatMade (s : State) (e : EventEntry) (t : State) : Prop :=
  ∃ (l : Line) (r : Offer), s.line.offer (.alert
      { serial := e.serial, key := e.key, repeatNo := s.profile.alertRepeats - (e.repeatsLeft - 1), best := e.best
        amp := e.amp, origins := e.votes.take 16 }) none = (l, r) ∧ (r = .accepted ∨ r = .refused) ∧
    (r = .accepted → t = { s with
      line := l
      events := { s.events with entries := s.events.entries.map (fun x =>
        if x.serial = e.serial then { x with repeatsLeft := e.repeatsLeft - 1, repeatDue := none } else x) } }) ∧
    (r = .refused → t = { s with
      line := l
      events := { s.events with
        sendFailed := min (s.events.sendFailed + 1) 65535
        entries := s.events.entries.map (fun x =>
          if x.serial = e.serial then { x with
            repeatsLeft := e.repeatsLeft - 1
            repeatDue := if e.active = true ∧ 0 < e.repeatsLeft - 1 then some (addUs s.tb.clock 2000000) else none }
          else x) } })

/-- The repeats of some entries handed on, one after another. -/
def repeatsMade (due : List EventEntry) (s t : State) : Prop :=
  match due with
  | [] => t = s
  | e :: rest => ∃ u, repeatMade s e u ∧ repeatsMade rest u t

/-- The first ALERT frame of a local declaration handed to the transmit queue (R105, R106, R113, R114): y is the entry with its
repeats; a refusal completes the frame at once, and the next is due 2 s later while repeats remain. -/
def firstAlert (s t : State) (y : EventEntry) : Prop :=
  y.repeatsLeft = s.profile.alertRepeats - 1 ∧
    ∃ (l : Line) (r : Offer), t.line = l ∧ s.line.offer (.alert
        { serial := y.serial, key := y.key, repeatNo := 1, best := y.best, amp := y.amp, origins := y.votes.take 16 })
        none = (l, r) ∧
      (r ≠ .refused → y.repeatDue = none ∧ t.events.sendFailed = s.events.sendFailed) ∧
      (r = .refused → t.events.sendFailed = min (s.events.sendFailed + 1) 65535 ∧
        y.repeatDue = if 0 < y.repeatsLeft then some (addUs s.tb.clock 2000000) else none)

/-- A record's span contains one of the carried pick times (R141). -/
def holdsPick (picks : List ArrayTime) (e : DirEntry) : Prop :=
  ∃ p ∈ picks, usOf e.firstSet ≤ usOf p ∧ (e.closed = true → ∃ l, e.lastSet = some l ∧ usOf p ≤ usOf l)

/-- A hold request of an event's key names a record (R119, R141): its span overlaps [key time − 5 s, key time + W], or
contains a carried pick time. -/
def namedBy (s : State) (key : Key) (picks : List ArrayTime) (e : DirEntry) : Prop :=
  (usOf e.firstSet ≤ usOf key.time + (s.profile.window : Int) * 1000000 ∧
      (e.closed = true → ∃ l, e.lastSet = some l ∧ usOf key.time - 5000000 ≤ usOf l)) ∨
    holdsPick picks e

/-- A record in the answer to a hold request (R141; log entry 23). -/
def answeredBy (s : State) (key : Key) (picks : List ArrayTime) (e : DirEntry) : Prop :=
  e ∈ s.rm.dir ∧ namedBy s key picks e ∧ e.hold ≠ .released

/-- The Record Memory takes a hold request (R119, R141), with the Record Memory after it and the record that an event without
one stores: a LOOSE record named becomes HOLD-PENDING, and its MARK is asked for if its first page is programmed; a named record
takes the event's key if it has none; stored is the record that contains a carried pick time, or else the least answered. Of
several that contain one it is the least (log entry 52). -/
def holdTaken (s : State) (key : Key) (picks : List ArrayTime) (after : RecordMem) (answer : Option Nat) : Prop :=
  (∃ (dir : List DirEntry) (asked : List MarkReq), after = { s.rm with dir := dir, marks := s.rm.marks ++ asked } ∧
    dir.length = s.rm.dir.length ∧
    (∀ (i : Nat) (e : DirEntry), s.rm.dir[i]? = some e → ∃ y, dir[i]? = some y ∧ (¬namedBy s key picks e → y = e) ∧
      (namedBy s key picks e → y = { e with
        hold := if e.hold = .loose then .pending else e.hold
        eventRef := if e.eventRef = none then some key else e.eventRef })) ∧
    (∀ m, m ∈ asked ↔ ∃ e ∈ s.rm.dir, namedBy s key picks e ∧ e.hold = .loose ∧ ∃ p, e.firstPage = some p ∧
      (∃ id idx, s.kindOf p = .owned id idx true) ∧ m = ⟨e.id, p, 0⟩) ∧
    asked.Pairwise (fun a b => a.recId < b.recId)) ∧
  ((∀ e, ¬answeredBy s key picks e) → answer = none) ∧
  (∀ e, answeredBy s key picks e → holdsPick picks e →
    (∀ x, answeredBy s key picks x → holdsPick picks x → e.id ≤ x.id) → answer = some e.id) ∧
  ((∀ x, answeredBy s key picks x → ¬holdsPick picks x) → ∀ e, answeredBy s key picks e →
    (∀ x, answeredBy s key picks x → e.id ≤ x.id) → answer = some e.id)

/-- What the receiver heard is a whole frame with a good check: 4 bytes from the kind on, the payload they announce, of a
length that suits the kind, and its CRC (R187, R194). -/
def frameGood (f : HeardBytes) : Prop :=
  f.badStop = false ∧ f.cutOff = false ∧
    ∃ kind sender seq len payload crc rest, f.bytes = kind :: sender :: seq :: len :: (payload ++ crc ++ rest) ∧
      payload.length = len.toNat ∧ crc.length = 2 ∧ lengthSuits kind.toNat len.toNat = true ∧
      ofBytes crc = crc16 (kind :: sender :: seq :: len :: payload)

/-! ### The line -/

/-- The frames of a queue that are not in transmission: all of them, or all but the head (R189). -/
def waitingOf (sending : Bool) (queue : List QFrame) : List QFrame := if sending then queue.drop 1 else queue

/-- A frame in its place in the queue (R189): every frame behind it is of lower priority, and what it stands directly behind is
a frame of its own or of higher priority, or the head in transmission. `a` stands before it. -/
def entersAfter (sending : Bool) (q : QFrame) (a old new : List QFrame) : Prop :=
  ∃ b, old = a ++ b ∧ new = a ++ q :: b ∧ (sending = true → a ≠ []) ∧
    (∀ x, (waitingOf sending a).getLast? = some x → q.frame.priority ≤ x.frame.priority) ∧
    ∀ x ∈ b, x.frame.priority < q.frame.priority

/-- The first waiting frame of a kind leaves the queue (R189): `a` stands before it. -/
def leavesAfter (sending : Bool) (kind : QFrame → Prop) (a old new : List QFrame) : Prop :=
  ∃ o b, old = a ++ o :: b ∧ new = a ++ b ∧ (sending = true → a ≠ []) ∧ kind o ∧ ∀ x ∈ waitingOf sending a, ¬kind x

/-- Levels that send bytes in their serial form: for each a start bit, the eight data bits with the least significant first,
and a stop bit; true is the level of a stop bit and of a data bit 1 (R118, R186). -/
def serialForm (bs : List Byte) (levels : List Bool) : Prop :=
  levels.length = 10 * bs.length ∧ ∀ k b, bs[k]? = some b → levels[10 * k]? = some false ∧
    levels[10 * k + 9]? = some true ∧ ∀ j < 8, levels[10 * k + 1 + j]? = some (b.getLsbD j)

/-- The idle gap of a frame by its priority, in µs (R187, R190). -/
def gapOf (q : QFrame) : Nat := if q.frame.priority = 2 then 320 else if q.frame.priority = 1 then 448 else 576

/-- The silence of the line after one more nominal microsecond, with a start bit of its own in it or not (R186; log
entry 39). -/
def silenceAfter (l : Line) (started : Bool) : Nat := if started = true then 0 else min (l.silence + 1) 736

/-! ### Sampling and detection -/

/-- The averages after a set with sample x, and the set's e (R58 to R60). -/
def averaged (p : Profile) (a new : Averages) (e x : Int) (frozen : Bool) : Prop :=
  new.d = a.d + (256 * x - a.d) / 1024 ∧ e = |clampInt (-8388607) 8388607 (x - new.d / 256)| ∧
    new.s = a.s + (256 * e - a.s) / 2 ^ p.staShift ∧
    new.l = (if frozen = true then a.l else a.l + (256 * e - a.l) / 2 ^ p.ltaShift)

/-- An on set (R61). -/
def onSet (p : Profile) (a : Averages) : Prop := max a.l (256 * (p.ltaFloor : Int)) * p.onRatio ≤ 16 * a.s

/-- An off set (R61). -/
def offSet (p : Profile) (a : Averages) : Prop := 16 * a.s < max a.l (256 * (p.ltaFloor : Int)) * p.offRatio

/-- The state with one channel of the Detector replaced. -/
def withChannel (s : State) (c : Channel) (d : ChanDet) : State :=
  { s with det := { s.det with chan := s.det.chan.set c d } }

/-- A channel in trigger (R73). -/
def inTrigger (c : ChanDet) : Bool := c.state == .triggered || c.state == .ending

/-- A channel that has gone OFF at a stamp (R62, R71, R79): all is discarded but the last-trigger record, which a channel in
trigger writes with end POWER. -/
def wentOff (d : ChanDet) (t : ArrayTime) (after : ChanDet) : Prop :=
  ∃ last, after = { state := .off, avg := none, warmup := 0, onRun := 0, offRun := 0, run := none, last := last } ∧
    (inTrigger d = false → last = d.last) ∧
    ∀ r, inTrigger d = true → d.run = some r →
      last = some ⟨r.onset, (diffUs t r.onset / 1000).toNat, r.peak, .power, r.clipped⟩

/-- A channel that could vote (R74). -/
def couldVote (c : ChanDet) : Bool :=
  c.state == .quiet || c.state == .pending || c.state == .triggered || c.state == .ending

/-- Whether the Detector is on (R74). -/
def detectorIsOn (s : State) : Prop := s.bat.shed ≠ 3 ∧ s.listenOnly = false

/-- The scaled value of a housekeeping code (R48). -/
def scaled (i : HkInput) (code : Int) : Int :=
  match i with
  | .batVolt => 8 * code
  | .batCurr => 10 * (code - 2048)
  | .batTemp | .encTemp => code - 1500
  | .heatCurr => 2 * code
  | .srcVolt => 16 * code

/-- The latest value of an input. -/
def latestOf (l : Latest) (i : HkInput) : Option Int :=
  match i with
  | .batVolt => l.batVolt
  | .batCurr => l.batCurr
  | .batTemp => l.batTemp
  | .encTemp => l.encTemp
  | .heatCurr => l.heatCurr
  | .srcVolt => l.srcVolt

/-- A channel's word of a set for a converter's result, by power and settling (R42, R44, R45). -/
def wordFits (r : RawSample) (powered settling : Bool) (w : SetWord) : Prop :=
  w.powered = powered ∧ w.settling = (powered && settling) ∧
    (powered = false → w.sample = 0 ∧ w.clipped = false) ∧
    (powered = true →
      (r.overrange = some .pos → w.sample = 8388607 ∧ w.clipped = true) ∧
      (r.overrange = some .neg → w.sample = -8388607 ∧ w.clipped = true) ∧
      (r.overrange = none → w.sample = max (-8388607) (min 8388607 r.value) ∧
        (w.clipped = true ↔ r.value < -8388607 ∨ 8388607 < r.value)))

/-! ### Recording -/

/-- The capture is open with its buffer free, and the ring holds the set x at its read position (R134). -/
def captureHolds (s : State) (id num : Nat) (x : SampleSet) : Prop :=
  s.rm.cap.mode = .opened ∧ s.rm.cap.recId = some id ∧ s.rm.cap.buf.busy = false ∧ s.rm.cap.readPos = some num ∧
    ringRead s.sampler num = some x

/-- The same in a part that works. -/
def captureAt (s : State) (id num : Nat) (x : SampleSet) : Prop := s.awake = true ∧ captureHolds s id num x

/-- A set lies after the capture's end time (R134). -/
def afterEnd (s : State) (x : SampleSet) : Prop := ∃ t, s.rm.cap.endTime = some t ∧ usOf t < usOf x.stamp

/-- The page in the buffer ends before the set x (R134): it holds 168 sets, or x is not one tick period after its last. -/
def pageEnds (s : State) (x : SampleSet) : Prop :=
  168 ≤ s.rm.cap.buf.sets.length ∨
    ∃ y, s.rm.cap.buf.sets.getLast? = some y ∧ x.stamp ≠ addUs y.stamp (1000000 / rateOf s.profile.rateCode : Nat)

/-- The set x is the next to be stored (R134): as the first of a page, which it begins whatever the end time says unless the
record has taken no set; or behind the sets of a page that it belongs to, up to the end time. -/
def storesNext (s : State) (x : SampleSet) : Prop :=
  (s.rm.cap.buf.sets = [] ∧ s.rm.cap.buf.page.isSome = true ∧ (afterEnd s x → s.rm.cap.taken ≠ 0)) ∨
    (s.rm.cap.buf.sets ≠ [] ∧ ¬afterEnd s x ∧ ¬pageEnds s x)

/-- The record ends before the set x, which lies after its end time (R134, R137). -/
def endsBefore (s : State) (x : SampleSet) : Prop :=
  afterEnd s x ∧
    (s.rm.cap.buf.sets ≠ [] ∨ (s.rm.cap.buf.sets = [] ∧ s.rm.cap.buf.page.isSome = true ∧ s.rm.cap.taken = 0))

/-- The count of sets at which a record closes (R134). -/
def setLimit (s : State) : Nat := s.profile.recordMaxS * rateOf s.profile.rateCode

/-- The set x taken into the buffer (R134, R140). -/
def setTaken (s : State) (id num : Nat) (x : SampleSet) : State :=
  { s with rm := { s.rm with
      dir := s.rm.dir.map (fun e => if e.id = id then { e with lastSet := some x.stamp } else e)
      pendingStep := if s.rm.cap.buf.sets = [] then false else s.rm.pendingStep
      cap := { s.rm.cap with
        readPos := some ((num + 1) % 4294967296), taken := s.rm.cap.taken + 1
        buf := { s.rm.cap.buf with
          sets := s.rm.cap.buf.sets ++ [x]
          grade := if s.rm.cap.buf.sets = [] then s.tb.grade else s.rm.cap.buf.grade
          stepped := (if s.rm.cap.buf.sets = [] then s.rm.pendingStep else s.rm.cap.buf.stepped) ||
            x.words.z.stepped } } } }

/-- The page in the buffer made final with a cause, and its PROGRAM requested (R137, R139). -/
def closedWith (s : State) (cause : EndCause) : State :=
  { s with rm := { s.rm with
      programReq := true
      cap := { s.rm.cap with
        mode := .closing, readPos := none, endTime := none, awaiting := false
        buf := { s.rm.cap.buf with final := some cause, busy := true } } } }

/-- The capture once its buffer is free (R139): OPEN for a waiting record, or IDLE. -/
def freedCapture (c : Capture) : Capture :=
  if c.waiting = none then Capture.reset
  else { c with mode := .opened, recId := c.waiting, waiting := none, buf := PageBuffer.empty }

/-- The capture makes a record (R132, R133): it is OPEN, or CLOSING with a new record waiting. -/
def captureOpen (s : State) : Prop :=
  s.rm.cap.mode = .opened ∨ (s.rm.cap.mode = .closing ∧ s.rm.cap.waiting.isSome = true)

/-- A record that can be reclaimed (R136). -/
def reclaimable (e : DirEntry) : Prop := e.closed = true ∧ (e.hold = .loose ∨ e.hold = .released)

/-- The record that a reclaim takes: the reclaimable one of the lowest identifier (R136). -/
def firstReclaimed (s : State) (e : DirEntry) : Prop :=
  firstWith reclaimable s.rm.dir e

/-- A record reclaimed (R136), and the look at the next free page that follows (R135). -/
def reclaimedOf (s : State) (e : DirEntry) : State :=
  lookAhead { s with rm := { s.rm with
    dir := s.rm.dir.filter (fun y => y.id != e.id), reclaimed := min (s.rm.reclaimed + 1) 65535
    map := s.rm.map.map (fun k => if k.isOwnedBy e.id = true then .freeDirty else k) } }

/-- The walk of R54 for a start set at or after a time passes the first k sets of the ring, the newest first. That the last
set before a backward step is not passed even where it is the oldest set held is log entry 61. -/
def walkPasses (sets : List SampleSet) (start : Int) (k : Nat) : Prop :=
  k ≤ sets.length ∧
    (∀ j x, j < k → sets[j]? = some x → start ≤ usOf x.stamp ∧
      ∀ y, 0 < j → sets[j - 1]? = some y → usOf x.stamp < usOf y.stamp) ∧
    ∀ x, sets[k]? = some x → usOf x.stamp < start ∨ ∃ y, 0 < k ∧ sets[k - 1]? = some y ∧ usOf y.stamp ≤ usOf x.stamp

/-- A capture begun for a pick (R132, steps 4 to 6): the new entry under the next identifier, the start set of R54 for the
time pre_s before the onset, and the marks. -/
def captureBegun (s : State) (onset : ArrayTime) (after : State) : Prop :=
  ∃ (start : Int) (k : Nat) (first : ArrayTime) (cap : Capture),
    start = usOf onset - (s.profile.preS : Int) * 1000000 ∧ walkPasses s.sampler.ring start k ∧
      (k = 0 → first = ofUs start) ∧ (∀ x, 0 < k → s.sampler.ring[k - 1]? = some x → first = x.stamp) ∧
      (s.rm.cap.mode = .closing → cap = { s.rm.cap with waiting := some s.rm.nextId }) ∧
      (s.rm.cap.mode ≠ .closing → cap = { s.rm.cap with
        mode := .opened, recId := some s.rm.nextId, waiting := none, buf := PageBuffer.empty }) ∧
      after = { s with rm := { s.rm with
        dir := s.rm.dir ++ [
          { id := s.rm.nextId, closed := false, hold := .loose, firstPage := none, pages := 0, firstSet := first
            lastSet := none, endCause := none, eventRef := none }]
        nextId := s.rm.nextId + 1, started := min (s.rm.started + 1) 65535
        cap := { cap with
          readPos := some ((s.sampler.nextSet + 4294967296 - k) % 4294967296), endTime := none, awaiting := true
          taken := 0 } } }

/-- A capture refused (R132). -/
def captureTurnedAway (s : State) : State := { s with rm := { s.rm with refused := min (s.rm.refused + 1) 65535 } }

/-- A closing of the capture's record by R138 counted. -/
def closeCounted (s : State) (cause : EndCause) : State :=
  { s with rm := { s.rm with
      closedPower := if cause = .power then min (s.rm.closedPower + 1) 65535 else s.rm.closedPower
      closedOverrun := if cause = .overrun then min (s.rm.closedOverrun + 1) 65535 else s.rm.closedOverrun } }

/-- A page allocated ahead that a closing capture gives back, if there is one (R139). -/
def givenBack (s : State) (id : Nat) (page : Option Nat) : State :=
  match page with
  | none => s
  | some p => { s with rm := { s.rm with
      map := s.rm.map.set p .freeDirty
      dir := s.rm.dir.map (fun e => if e.id = id then { e with pages := e.pages - 1 } else e) } }

/-- The capture CLOSING with a buffer. -/
def closingWith (s : State) (b : PageBuffer) : State :=
  { s with rm := { s.rm with cap := { s.rm.cap with
      mode := .closing, readPos := none, endTime := none, awaiting := false, buf := b } } }

/-- A page that counts as FREE (R123). -/
def freePage (s : State) (p : Nat) : Prop := s.kindOf p = .freeErased ∨ s.kindOf p = .freeDirty

/-- The next free page: the first from the allocation pointer on, wrapping from 511 to 0 (R135). -/
def nextFreePage (s : State) (p : Nat) : Prop :=
  ∃ k < 512, p = (s.rm.allocPtr + k) % 512 ∧ freePage s p ∧ ∀ j < k, ¬freePage s ((s.rm.allocPtr + j) % 512)

/-- The capture needs a page of an index: its first, or the next one at a commit (R134). -/
def needsPage (s : State) (x : SampleSet) (first : Bool) : Prop :=
  if first = true then s.rm.cap.buf.sets = [] ∧ s.rm.cap.buf.page = none
  else s.rm.cap.buf.sets ≠ [] ∧ ¬afterEnd s x ∧ pageEnds s x

/-- An erased page given to a record (R135). -/
def pageGiven (s : State) (p id idx : Nat) : State :=
  { s with rm := { s.rm with
      map := s.rm.map.set p (.owned id idx false), allocPtr := (p + 1) % 512
      dir := s.rm.dir.map (fun e =>
        if e.id = id then { e with pages := e.pages + 1, firstPage := e.firstPage.or (some p) } else e) } }

/-- The page p given to the capture's record (R134, R135), with the look at the next free page that follows: for the empty
buffer, or for the set that follows its page, whose PROGRAM is then requested. -/
def pageAdded (s : State) (id p : Nat) (first : Bool) : State :=
  let u := lookAhead (pageGiven s p id (if first = true then s.rm.cap.buf.idx else s.rm.cap.buf.idx + 1))
  if first = true then
    { u with rm := { u.rm with cap := { s.rm.cap with buf := { s.rm.cap.buf with page := some p } } } }
  else
    { u with rm := { u.rm with
      programReq := true
      cap := { s.rm.cap with buf := { s.rm.cap.buf with next := some p, busy := true } } } }

/-- A record that has taken no set leaves the directory, its identifier spent and the refusal counted (R137). -/
def leftOut (s : State) (id : Nat) : State :=
  { s with rm := { s.rm with
      dir := s.rm.dir.filter (fun y => y.id != id), refused := min (s.rm.refused + 1) 65535
      cap := freedCapture s.rm.cap } }

/-- The record closed by an allocation that fails (R137): at its first page with no set taken, at a later one, or at a commit.
That a record with an empty buffer is CLOSED at once is log entry 28. -/
def closedFull (s : State) (id : Nat) (first : Bool) : State :=
  let u := { s with rm := { s.rm with closedFull := min (s.rm.closedFull + 1) 65535 } }
  if first = false then closedWith u .full
  else if s.rm.cap.taken = 0 then leftOut u id
  else
    { u with rm := { u.rm with
      dir := s.rm.dir.map (fun y => if y.id = id then { y with closed := true, endCause := some .full } else y)
      cap := freedCapture s.rm.cap } }

/-- The record closed NORMAL before the set at its read position (R134, R137, R139): with its buffer as the final page, or,
if it has taken no set, with its page given back (log entry 28). -/
def endedRecord (s : State) (id : Nat) : State :=
  if s.rm.cap.buf.sets ≠ [] then closedWith s .normal else leftOut (givenBack s id s.rm.cap.buf.page) id

/-- One move of the capture (R134 to R137): it stores the set at its read position, as the record's last where the count reaches
its limit; closes the record at its end time; is given the page that the set needs, erased and next free; reclaims a record
where no page is free; or closes the record FULL where nothing can be reclaimed. -/
inductive captureMoves (s : State) : State → Prop where
  | stores (id num : Nat) (x : SampleSet) : captureHolds s id num x → storesNext s x → s.rm.cap.taken + 1 < setLimit s →
      captureMoves s (setTaken s id num x)
  | storesLast (id num : Nat) (x : SampleSet) : captureHolds s id num x → storesNext s x →
      setLimit s ≤ s.rm.cap.taken + 1 → captureMoves s (closedWith (setTaken s id num x) .normal)
  | ends (id num : Nat) (x : SampleSet) : captureHolds s id num x → endsBefore s x → captureMoves s (endedRecord s id)
  | pageAdded (id num : Nat) (x : SampleSet) (first : Bool) (p : Nat) : captureHolds s id num x → needsPage s x first →
      nextFreePage s p → s.kindOf p = .freeErased → captureMoves s (pageAdded s id p first)
  | reclaims (id num : Nat) (x : SampleSet) (first : Bool) (e : DirEntry) : captureHolds s id num x → needsPage s x first →
      (∀ p, ¬nextFreePage s p) → firstReclaimed s e → captureMoves s (reclaimedOf s e)
  | closesFull (id num : Nat) (x : SampleSet) (first : Bool) : captureHolds s id num x → needsPage s x first →
      (∀ p, ¬nextFreePage s p) → (∀ e ∈ s.rm.dir, ¬reclaimable e) → captureMoves s (closedFull s id first)

/-- The capture waits for the ERASE of the page it needs (R135). -/
def captureWaits (s : State) : Prop :=
  ∃ id num x first p, captureHolds s id num x ∧ needsPage s x first ∧ nextFreePage s p ∧ s.kindOf p = .freeDirty

/-- The placed care request waits to be started (R130). -/
def careWaits (s : State) : Prop :=
  ∃ r, s.bat.placed = some r ∧ (r.stage = .needErase ∨ r.stage = .needProgram)

/-- The engine starts an operation. -/
def startedOp (s : State) (o : EngineOp) : State := { s with rm := { s.rm with flight := some o } }

/-- The operation in flight has done its work on the memory, and the engine is idle. -/
def opDone (s : State) (m : Memory) : State := { s with mem := m, rm := { s.rm with flight := none } }

/-! ### The battery and the heater -/

/-- The snapshot of what stands now (R163). -/
def snapshotOf (s : State) (cause : SnapCause) : Snapshot :=
  { seq := s.bat.seq, time := s.tb.clock, timeState := s.tb.state.code, q := s.bat.q, capacity := s.profile.capacityAh
    exposure := s.heat.exposure, below := s.heat.accumulating, shed := s.bat.shed, nextId := s.rm.nextId
    cause := cause.code }

/-- A snapshot formed (R165): its request at the log position, which advances, and the next due time. -/
def formedSnapshot (s : State) (cause : SnapCause) : State :=
  { s with bat := { s.bat with
      seq := (s.bat.seq + 1) % 4294967296
      placed := some
        { page := carePage s.bat.logPage, seq := s.bat.seq, cause := cause
          offset := if s.bat.logSlot = 0 then 0 else 32 + 32 * s.bat.logSlot
          bytes := (if s.bat.logSlot = 0 then careHeader (carePage s.bat.logPage) else []) ++
            snapshotBytes (snapshotOf s cause)
          stage := if s.bat.logSlot = 0 then .needErase else .needProgram }
      logPage := if s.bat.logSlot = 62 then (s.bat.logPage + 1) % 8 else s.bat.logPage
      logSlot := if s.bat.logSlot = 62 then 0 else s.bat.logSlot + 1
      nextDue := some (addUs s.tb.clock 900000000) } }

/-- A snapshot falls due (R164): formed at once, or owed while a request is placed. -/
def dueSnapshot (s : State) (cause : SnapCause) : State :=
  if s.bat.placed = none then formedSnapshot s cause
  else { s with bat := { s.bat with owed := if s.bat.owed = some .restart then some .restart else some cause } }

/-- C, in mAs (R152). -/
def packFull (s : State) : Nat := s.profile.capacityAh * 3600000

/-- SOC in permille (R154). -/
def socNow (s : State) : Nat := 1000 * s.bat.q / packFull s

/-- The entry condition of a shed level (R157). -/
def entryHolds (s : State) (level : Nat) : Prop :=
  (level = 3 ∧ (socNow s < 10 * s.profile.shed3 ∨ ∃ v, s.sampler.latest.batVolt = some v ∧ v < s.profile.vCrit)) ∨
    (level = 2 ∧ (socNow s < 10 * s.profile.shed2 ∨ ∃ v, s.sampler.latest.batVolt = some v ∧ v < s.profile.vLow)) ∨
    (level = 1 ∧ socNow s < 10 * s.profile.shed1)

/-- The exit condition of a shed level (R158). -/
def exitHolds (s : State) (level : Nat) : Prop :=
  (level = 3 ∧ 10 * (s.profile.shed3 + 5) ≤ socNow s ∧
      ∃ v, s.sampler.latest.batVolt = some v ∧ s.profile.vCrit + 100 ≤ v) ∨
    (level = 2 ∧ 10 * (s.profile.shed2 + 5) ≤ socNow s ∧
      ∃ v, s.sampler.latest.batVolt = some v ∧ s.profile.vLow + 100 ≤ v) ∨
    (level = 1 ∧ 10 * (s.profile.shed1 + 5) ≤ socNow s)

/-- Write permission at a shed level (R160). -/
def permissionIs (s : State) (level : Nat) (w : WritePerm) : Prop :=
  (s.sampler.latest.batVolt = none → w = .absent) ∧
    ∀ v, s.sampler.latest.batVolt = some v →
      w = if v < s.profile.writeFloor then .absent else if level = 3 then .careOnly else .full

/-- An on-delay has run for its time at local time. -/
def delayRun (s : State) (d : OnDelay) (start : ArrayTime) (us : Int) : Prop :=
  d.start = some start ∧ us ≤ diffUs s.tb.clock start

/-- An on-delay after an evaluation at a time (00_scope.md, Delays; R155, R156, R158, R182): it ends where its condition fails,
begins at the first evaluation at which it holds, and is met once its time has run. -/
def delayAt (d : OnDelay) (holds : Prop) (now : ArrayTime) (need : Int) (after : OnDelay) : Prop :=
  (¬holds → after = ⟨none, false⟩) ∧
    (holds → after.start = some (d.start.getD now) ∧
      (after.isMet = true ↔ d.isMet = true ∨ need ≤ diffUs now (d.start.getD now)))

/-- The condition of the full anchor (R155). -/
def fullHolds (s : State) : Prop :=
  ∃ v i src, s.sampler.latest.batVolt = some v ∧ s.sampler.latest.batCurr = some i ∧
    s.sampler.latest.srcVolt = some src ∧ s.profile.fullMv ≤ v ∧ 0 ≤ i ∧ i ≤ s.profile.taperMa ∧ s.profile.sourceMv < src

/-- The condition of the empty anchor (R156). -/
def emptyHolds (s : State) : Prop := ∃ v, s.sampler.latest.batVolt = some v ∧ v < s.profile.emptyMv

/-- The full anchor acts with its on-delay (R155). -/
def fullActed (s : State) (d : OnDelay) : State :=
  { s with bat := { s.bat with
      full := d
      q := if d.isMet = true then packFull s else s.bat.q
      residual := if d.isMet = true then 0 else s.bat.residual
      fullAnchors := if d.isMet = true ∧ s.bat.full.isMet = false then min (s.bat.fullAnchors + 1) 65535
        else s.bat.fullAnchors } }

/-- The empty anchor acts with its on-delay (R156). -/
def emptyActed (s : State) (d : OnDelay) : State :=
  { s with bat := { s.bat with
      empty := d
      q := if d.isMet = true then min s.bat.q (packFull s / 20) else s.bat.q
      residual := if d.isMet = true ∧ packFull s / 20 < s.bat.q then 0 else s.bat.residual
      emptyAnchors := if d.isMet = true ∧ s.bat.empty.isMet = false then min (s.bat.emptyAnchors + 1) 65535
        else s.bat.emptyAnchors } }

/-- The shed level lowered by one (R158): the exit on-delay ends, the change is announced (R159), write permission is formed
again (R160), and a snapshot with cause SHED falls due (R164). On a move out of level 3 the next tick is scheduled at the
profile's rate (R22), and the Detector is on again (R74, R79). -/
def shedLowered (s : State) (w : WritePerm) (after : State) : Prop :=
  ∃ next running, after = dueSnapshot { s with
      bat := { s.bat with shed := s.bat.shed - 1, exit := ⟨none, false⟩, permission := w }
      tb := { s.tb with nextTick := next }, det := { s.det with running := running } } .shed ∧
    (s.bat.shed ≠ 3 → next = s.tb.nextTick ∧ running = s.det.running) ∧
    (s.bat.shed = 3 →
      (running = true ↔ s.listenOnly = false ∧ ∃ v, s.det.vote = some v ∧ v ≤ s.det.chan.count couldVote) ∧
      (s.tb.lastTick = none → next = s.tb.nextTick) ∧
      ∀ last period n : Int, s.tb.lastTick.map usOf = some last →
        period = (1000000 / rateOf s.profile.rateCode : Nat) → period ∣ n → last < n → n ≤ last + period →
        next = some (ofUs n))

/-- HEAT takes a level at a stamp, and opens a guard interval (R75, R178). -/
def heatSwitched (s : State) (t : ArrayTime) (on : Bool) : State :=
  { s with
    heat := { s.heat with
      on := on, since := t, openCheck := on, deferral := none
      starts := if on = true then min (s.heat.starts + 1) 65535 else s.heat.starts }
    det := { s.det with guard := some ⟨t, addUs t ((s.profile.guardS : Int) * 1000000)⟩ } }

/-- HEAT is forced off at a stamp with a cause (R175). -/
def heatForcedOff (s : State) (t : ArrayTime) (cause : ForcedCause) : State :=
  { heatSwitched s t false with heat := { (heatSwitched s t false).heat with
      forcedOffs := min (s.heat.forcedOffs + 1) 65535, lastForced := some cause } }

/-- The open check finds the heater open (R179): HEATER OPEN latches, and HEAT is forced off. -/
def heatFoundOpen (s : State) (t : ArrayTime) : State :=
  { heatForcedOff s t .opened with heat := { (heatForcedOff s t .opened).heat with
      openSince := some t, opens := min (s.heat.opens + 1) 65535 } }

/-- The elapsed time from one conversion to another, in ms, floored and held from 0 to 10,000 (R153, R162, R181). -/
def elapsedMs (t u : ArrayTime) : Int := max 0 (min 10000 (diffUs t u / 1000))

/-- A held time that lies after a stamp is set to the stamp (R176). -/
def heldAt (t held : ArrayTime) : ArrayTime := if 0 < diffUs held t then t else held

/-- The held times of the Heater Controller brought into line with a stamp (R176). -/
def timesHeld (s : State) (t : ArrayTime) : State :=
  { s with heat := { s.heat with
      since := heldAt t s.heat.since, deferral := s.heat.deferral.map (heldAt t)
      openSince := s.heat.openSince.map (heldAt t)
      resetDelay := { s.heat.resetDelay with start := s.heat.resetDelay.start.map (heldAt t) } } }

/-- The Battery Monitor after a heater-current conversion of i mA (R162). -/
def drawCounted (s : State) (t : ArrayTime) (i : Nat) (b : Battery) : Prop :=
  (s.bat.lastHeater = none → b = { s.bat with
      heaterDraw := min s.bat.heaterDraw 4294967295, lastHeater := some t }) ∧
    ∀ u, s.bat.lastHeater = some u → b = { s.bat with
      heaterDraw := min (s.bat.heaterDraw + i * (elapsedMs t u).toNat / 1000) 4294967295, lastHeater := some t }

/-- A charge source is present (R171). -/
def sourceThere (s : State) : Prop := ∃ v, s.sampler.latest.srcVolt = some v ∧ s.profile.sourceMv < v

/-- The row of R173's table: the two thresholds, and whether heating there asks for a spent budget. -/
def demandRow (s : State) (lo hi : Int) (spentOnly : Bool) : Prop :=
  (s.bat.shed ≤ 2 → sourceThere s → lo = s.profile.chargeMinT + 20 - s.profile.hyst ∧
      hi = s.profile.chargeMinT + 20 + s.profile.hyst ∧ spentOnly = false) ∧
    (s.bat.shed = 0 → ¬sourceThere s → lo = s.profile.maintT - s.profile.hyst ∧
      hi = s.profile.maintT + s.profile.hyst ∧ spentOnly = false) ∧
    ((s.bat.shed = 1 ∨ s.bat.shed = 2) → ¬sourceThere s →
      lo = s.profile.maintT - s.profile.setback - s.profile.hyst ∧
      hi = s.profile.maintT - s.profile.setback + s.profile.hyst ∧ spentOnly = decide (s.bat.shed = 2)) ∧
    (s.bat.shed = 3 → lo = s.profile.freezeLimit ∧ hi = s.profile.freezeLimit + s.profile.hyst ∧ spentOnly = true)

/-- The wanted state at a reading of x (R173, R174, R181). -/
def wantedIs (s : State) (x : Int) (on : Bool) : Prop :=
  ∃ lo hi spentOnly, demandRow s lo hi spentOnly ∧
    (on = true ↔ s.heat.openSince = none ∧ (spentOnly = true → s.profile.freezeBudget * 60 ≤ s.heat.exposure) ∧
      (s.heat.on = true → x < hi) ∧ (s.heat.on = false → x < lo ∧ x < s.profile.cutoutT))

/-- A forced-off test holds with its cause, and none before it, at a conversion of a reading or of a fault notice (R175). -/
def forcedBy (s : State) (t : ArrayTime) (r : Option Int) (cause : ForcedCause) : Prop :=
  (cause = .sensor ∧ r = none) ∨
    ∃ x, r = some x ∧
      ((cause = .cutout ∧ s.profile.cutoutT ≤ x) ∨
        (x < s.profile.cutoutT ∧ cause = .opened ∧ s.heat.openSince.isSome = true) ∨
        (x < s.profile.cutoutT ∧ s.heat.openSince = none ∧ cause = .maxOn ∧
          (s.profile.maxOn : Int) * 1000000 ≤ diffUs t s.heat.since))

/-- The least-time rule lets HEAT leave its level (R176). -/
def leastTimeOver (s : State) (t : ArrayTime) : Prop :=
  ((if s.heat.on = true then s.profile.minOn else s.profile.minOff : Nat) : Int) * 1000000 ≤ diffUs t s.heat.since

/-- A wanted switch is held back by the quiet: quiet-blocked, with a defer_max, and no freeze-protect turn-on (R174, R177). -/
def heldByQuiet (s : State) (r : Option Int) : Prop :=
  ((∃ e ∈ s.events.entries, e.active = true) ∨ s.det.trigger = true) ∧ s.profile.deferMax ≠ 0 ∧
    ¬(s.heat.on = false ∧ ∃ x, r = some x ∧ x < s.profile.freezeLimit)

/-- Steps 1 to 3 of an evaluation of the Heater Controller (R172, R176, R181, R182): the held times, the freeze-exposure
stopwatch, the exposure-reset on-delay, and an old HEATER OPEN cleared. -/
def heaterPrepared (s u : State) (t : ArrayTime) (r : Option Int) : Prop :=
  ∃ (delta total : Nat) (d : OnDelay) (opened : Option ArrayTime) (first : Bool),
    (s.heat.lastTemp = none → delta = 0) ∧ (∀ v, s.heat.lastTemp = some v → (delta : Int) = elapsedMs t v) ∧
      total = s.heat.rem + (if s.heat.accumulating = true then delta else 0) ∧
      delayAt (timesHeld s t).heat.resetDelay (∃ x, r = some x ∧ s.profile.freezeLimit + 50 ≤ x) t 3600000000 d ∧
      (first = true ↔ d.isMet = true ∧ s.heat.resetDelay.isMet = false) ∧
      (s.heat.openSince = none → opened = none) ∧
      (∀ o, s.heat.openSince = some o →
        opened = if 3600000000 ≤ diffUs t (heldAt t o) then none else some (heldAt t o)) ∧
      u = { s with heat := { s.heat with
        since := heldAt t s.heat.since, deferral := s.heat.deferral.map (heldAt t), openSince := opened
        lastTemp := some t, resetDelay := d
        exposure := if first = true then 0 else min 4294967295 (s.heat.exposure + total / 1000)
        rem := if first = true then 0 else total % 1000
        resets := if first = true then min (s.heat.resets + 1) 65535 else s.heat.resets
        accumulating := match r with
          | none => s.heat.accumulating
          | some x => decide (x < s.profile.freezeLimit) } }

/-- The oscillator offset at an enclosure temperature (R4), by the points of the table on each side of it. -/
def offsetAt (p : Profile) (x y : Int) : Prop :=
  (x ≤ -400 → y = p.tempA) ∧ (400 ≤ x → y = p.tempE) ∧
    (-400 < x → x < -200 → y = p.tempA + ((p.tempB - p.tempA) * (x + 400)).tdiv 200) ∧
    (-200 ≤ x → x < 0 → y = p.tempB + ((p.tempC - p.tempB) * (x + 200)).tdiv 200) ∧
    (0 ≤ x → x < 200 → y = p.tempC + ((p.tempD - p.tempC) * x).tdiv 200) ∧
    (200 ≤ x → x < 400 → y = p.tempD + ((p.tempE - p.tempD) * (x - 200)).tdiv 200)

/-- The Battery Monitor after a battery-current conversion's contribution (R153, R154). -/
def chargeCounted (s : State) (t : ArrayTime) (i : Int) (b : Battery) : Prop :=
  (s.bat.lastCurrent = none → b = { s.bat with lastCurrent := some t }) ∧
    ∀ u, s.bat.lastCurrent = some u → ∃ amount carry q : Int,
      amount = (if 0 < i * elapsedMs t u then (i * elapsedMs t u * s.profile.chargeEff).tdiv 100
        else i * elapsedMs t u) ∧
      carry = (s.bat.residual + amount).tdiv 1000 ∧
      q = max 0 (min ((s.profile.capacityAh * 3600000 : Nat) : Int) ((s.bat.q : Int) + carry)) ∧
      b = { s.bat with lastCurrent := some t, residual := s.bat.residual + amount - 1000 * carry, q := q.toNat }

/-- The charge permit after a battery-temperature conversion (R161), a drop of it counted. -/
def permitAfter (s : State) (r : Option Int) (permit : Bool) : Prop :=
  (r = none → permit = false) ∧
    ∀ x, r = some x →
      ((x < s.profile.chargeMinT ∨ s.profile.chargeMaxT < x) → permit = false) ∧
      (s.profile.chargeMinT + 10 ≤ x → x ≤ s.profile.chargeMaxT - 10 → permit = true) ∧
      (s.profile.chargeMinT ≤ x → x ≤ s.profile.chargeMaxT →
        (x < s.profile.chargeMinT + 10 ∨ s.profile.chargeMaxT - 10 < x) → permit = s.bat.permit)

/-- The counters and latches after LATCH CLEAR (R207), block by block: ID CONFLICT latches again at once while an entry is
in conflict (R32). -/
def latchesCleared (s : State) : State :=
  { s with
    tb := { s.tb with ppsRejects := 0, steps := 0 }
    peers := { s.peers with
      refused := 0, full := 0, conflicts := 0, ownId := 0, ownIdConflict := false
      idConflict := s.peers.entries.any (·.conflict) }
    sampler := { s.sampler with
      batterySensor := false, enclosureSensor := false, clips := ⟨0, 0, 0⟩, badBattery := 0, badEnclosure := 0 }
    det := { s.det with formed := 0, guardSup := 0, repickSup := 0, longTrig := 0 }
    picks := { s.picks with malformed := 0, future := 0, stale := 0, duplicate := 0, displaced := 0, declared := 0 }
    events := { s.events with
      declRefused := 0, alertRefused := 0, alertMalformed := 0, alertLate := 0, sendFailed := 0, uplinkDropped := 0 }
    rm := { s.rm with
      started := 0, refused := 0, reclaimed := 0, closedFull := 0, closedPower := 0, closedOverrun := 0, torn := 0
      dropped := 0 }
    bat := { s.bat with
      permit := false, careLost := false, heaterDraw := 0, fullAnchors := 0, emptyAnchors := 0, shedRaises := 0
      written := 0, permitDrops := 0 }
    heat := { s.heat with
      openSince := none, stuck := false, starts := 0, forcedOffs := 0, deferred := 0, expired := 0, resets := 0
      opens := 0 }
    line := { s.line with
      sent := 0, collisions := 0, dropped := 0, refused := 0, displaced := 0, replaced := 0, skipped := 0, badFrame := 0
      badSender := 0, unknownKind := 0, sectionResets := 0 }
    query := { s.query with taken := 0, bad := 0, ignored := 0 } }

/-- The number in n bytes at an offset, the most significant byte first (R216). -/
def numberAt (bs : List Byte) (off n : Nat) : Nat := ((bs.drop off).take n).foldl (fun a b => a * 256 + b.toNat) 0

/-- A signed field in n bytes at an offset holds a value in two's complement (R216). -/
def integerAt (bs : List Byte) (off n : Nat) (x : Int) : Prop := (numberAt bs off n : Int) = x % (256 ^ n : Nat)

/-- An array time in seven bytes at an offset (R216). -/
def timeAt (bs : List Byte) (off : Nat) (t : ArrayTime) : Prop :=
  numberAt bs off 4 = t.sec ∧ numberAt bs (off + 4) 3 = t.us

/-- An array time, or seven bytes of 0xFF (R216). -/
def maybeTimeAt (bs : List Byte) (off : Nat) (o : Option ArrayTime) : Prop :=
  (o = none → ∀ i < 7, numberAt bs (off + i) 1 = 255) ∧ ∀ t, o = some t → timeAt bs off t

/-- The fields of an entry within their widths (2.1). -/
def peerInWidths (e : PeerEntry) : Prop :=
  e.id < 256 ∧ e.linePos < 65536 ∧ (∃ c < 8, e.interval = 4 * 2 ^ c) ∧ e.last.sec < 4294967296 ∧ e.last.us < 16777216 ∧
    e.grade < 256 ∧ e.shed < 256 ∧ e.soc < 65536

/-- The layout of a PEER answer's data (R27, R202, R216; 2.1). -/
def peerLaidOut (e : PeerEntry) (now : ArrayTime) (bs : List Byte) : Prop :=
  bs.length = 31 ∧ numberAt bs 0 1 = e.id ∧ numberAt bs 1 2 = e.linePos ∧ integerAt bs 3 2 e.east ∧
    integerAt bs 5 2 e.north ∧ 4 * 2 ^ numberAt bs 7 1 = e.interval ∧ timeAt bs 8 e.last ∧ integerAt bs 15 4 e.offset ∧
    numberAt bs 19 1 = e.state.code ∧ numberAt bs 20 1 = e.grade ∧ numberAt bs 21 1 = e.shed ∧ numberAt bs 22 2 = e.soc ∧
    integerAt bs 24 2 e.temp ∧
    numberAt bs 26 1 = e.fresh.toNat + 2 * e.running.toNat + 4 * e.heardA.toNat + 8 * e.heardB.toNat +
      16 * e.heardC.toNat + 32 * e.conflict.toNat +
      64 * (decide (diffUs now e.last < 3 * (e.interval : Int) * 1000000)).toNat ∧
    integerAt bs 27 4 (diffUs now e.last / 1000000)

/-- The fields of an entry within their widths (6.2). -/
def eventInWidths (e : EventEntry) : Prop :=
  e.key.origin < 256 ∧ e.key.time.sec < 4294967296 ∧ e.key.time.us < 16777216 ∧ e.votes.length < 256 ∧
    (∀ o ∈ e.votes, o < 256) ∧ e.declaredBy.length < 256 ∧ (∀ o ∈ e.declaredBy, o < 256) ∧
    (∀ k, e.kNeeded = some k → k < 256) ∧ e.best < 256 ∧ e.amp < 256 ∧ (∀ r, e.recordId = some r → r < 4294967296) ∧
    e.lastActivity.sec < 4294967296 ∧ e.lastActivity.us < 16777216 ∧ e.repeatsLeft < 256 ∧
    ∀ t, e.repeatDue = some t → t.sec < 4294967296 ∧ t.us < 16777216

/-- The layout of an EVENT answer's data (R104, R202, R216; 6.2): n and m are the lengths of the two lists. -/
def eventLaidOut (e : EventEntry) (now : ArrayTime) (bs : List Byte) : Prop :=
  ∀ n m o : Nat, n = e.votes.length → m = e.declaredBy.length → o = 11 + n + m →
    bs.length = o + 31 ∧ numberAt bs 0 1 = e.key.origin ∧ timeAt bs 1 e.key.time ∧
      numberAt bs 8 1 = (if e.active = true then 0 else 1) ∧ numberAt bs 9 1 = n ∧
      (∀ i x, e.votes[i]? = some x → numberAt bs (10 + i) 1 = x) ∧ numberAt bs (10 + n) 1 = m ∧
      (∀ i x, e.declaredBy[i]? = some x → numberAt bs (11 + n + i) 1 = x) ∧ numberAt bs o 1 = e.kNeeded.getD 255 ∧
      numberAt bs (o + 1) 1 = e.best ∧ numberAt bs (o + 2) 1 = e.amp ∧
      integerAt bs (o + 3) 2 ((e.position.map Prod.fst).getD (-32768)) ∧
      integerAt bs (o + 5) 2 ((e.position.map Prod.snd).getD (-32768)) ∧
      numberAt bs (o + 7) 4 = e.recordId.getD 4294967295 ∧ timeAt bs (o + 11) e.lastActivity ∧
      numberAt bs (o + 18) 1 = e.repeatsLeft ∧ maybeTimeAt bs (o + 19) e.repeatDue ∧
      numberAt bs (o + 26) 1 = e.localDecl.toNat ∧ integerAt bs (o + 27) 4 (diffUs now e.lastActivity / 1000000)

/-- The fields of an entry within their widths (R126). -/
def recordInWidths (e : DirEntry) : Prop :=
  e.id < 4294967296 ∧ (∀ p, e.firstPage = some p → p < 65536) ∧ e.pages < 65536 ∧ e.firstSet.sec < 4294967296 ∧
    e.firstSet.us < 16777216 ∧ (∀ t, e.lastSet = some t → t.sec < 4294967296 ∧ t.us < 16777216) ∧
    ∀ k, e.eventRef = some k → k.origin < 256 ∧ k.time.sec < 4294967296 ∧ k.time.us < 16777216

/-- The code of an end cause (R216). -/
def endCauseNumber (c : EndCause) : Nat :=
  match c with
  | .normal => 0
  | .full => 1
  | .power => 2
  | .overrun => 3
  | .cut => 4
  | .torn => 5

/-- The code of a hold (R216). -/
def holdNumber (h : Hold) : Nat :=
  match h with
  | .loose => 0
  | .pending => 1
  | .held => 2
  | .released => 3

/-- The layout of a RECORD answer's data (R126, R202, R216). -/
def recordLaidOut (e : DirEntry) (bs : List Byte) : Prop :=
  bs.length = 33 ∧ numberAt bs 0 4 = e.id ∧ numberAt bs 4 1 = e.closed.toNat ∧ numberAt bs 5 1 = holdNumber e.hold ∧
    numberAt bs 6 2 = e.firstPage.getD 65535 ∧ numberAt bs 8 2 = e.pages ∧ timeAt bs 10 e.firstSet ∧
    maybeTimeAt bs 17 e.lastSet ∧ numberAt bs 24 1 = (e.endCause.map endCauseNumber).getD 255 ∧
    numberAt bs 25 1 = (e.eventRef.map Key.origin).getD 255 ∧ maybeTimeAt bs 26 (e.eventRef.map Key.time)

/-! ### The STATUS sections (R201, R216): each a list of fields, a field its width in bytes and its value -/

/-- Fields one after another: the width of each in bytes, and its value. -/
abbrev Fields := List (Nat × Int)

/-- The bytes hold the fields one after another and nothing else, each field modulo its width (log entries 33 and 58). -/
def fieldsStand (fields : Fields) (bs : List Byte) : Prop :=
  match fields with
  | [] => bs = []
  | f :: rest => f.1 ≤ bs.length ∧ integerAt bs 0 f.1 f.2 ∧ fieldsStand rest (bs.drop f.1)

/-- The value whose bytes are all 0xFF: an absent unsigned value's (R216). -/
def allOnes : Int := -1

/-- The fields of an array time. -/
def timeFields (t : ArrayTime) : Fields := [(4, t.sec), (3, t.us)]

/-- The fields of an array time that may be absent. -/
def maybeTimeFields (o : Option ArrayTime) : Fields :=
  match o with
  | none => [(4, allOnes), (3, allOnes)]
  | some t => timeFields t

/-- An unsigned field that may be absent. -/
def maybeField (width : Nat) (o : Option Int) : Nat × Int := (width, o.getD allOnes)

/-- A signed field of 16 bits that may be absent. -/
def maybeSigned (o : Option Int) : Nat × Int := (2, o.getD (-32768))

/-- Flags that share a byte, bit 0 the first of them. -/
def flagField (flags : List Bool) : Nat × Int :=
  (1, ((flags.zipIdx.map (fun (b, i) => if b = true then 2 ^ i else 0)).sum : Nat))

/-- Counters, of two bytes each. -/
def counterFields (cs : List Nat) : Fields := cs.map (fun (c : Nat) => (2, (c : Int)))

/-- The code of a value: its place in the row of R216's table that names its codes from 0 on. -/
def codeIn {α : Type} [BEq α] (row : List α) (x : α) : Int := row.idxOf x

/-- The level of the FAULT line (R213); low while the part is stopped (R215). -/
def faultLevel (s : State) : Bool :=
  s.awake && (s.listenOnly || s.peers.ownIdConflict || s.peers.idConflict || s.sampler.batterySensor ||
    s.sampler.enclosureSensor || s.bat.careLost || s.heat.openSince.isSome || s.heat.stuck)

/-- Section 0: the station; the latches in the order of the LATCH CLEAR table. -/
def stationFields (s : State) : Fields :=
  timeFields s.tb.clock ++
    [(1, codeIn [.unset, .anchored, .following, .consensus, .holdover] s.tb.state), (1, s.tb.grade), (4, s.tb.steerF),
     (1, s.bat.shed), (2, socNow s), maybeSigned s.sampler.latest.batTemp, maybeSigned s.sampler.latest.encTemp,
     flagField [s.heat.on, s.bat.permit, s.events.alertLine, faultLevel s, s.peers.ownIdConflict, s.peers.idConflict,
       s.sampler.batterySensor, s.sampler.enclosureSensor],
     flagField [s.bat.careLost, s.heat.openSince.isSome, s.heat.stuck, s.listenOnly],
     (1, codeIn [.none, .noDevice, .badCheck, .badIdentifier] s.listenCause), (2, s.clamped),
     flagField [s.query.restartPending], (2, s.query.taken), (2, s.query.bad), (2, s.query.ignored)]

/-- Section 1: the Timebase; c is R3's sum, clamped. -/
def timebaseFields (s : State) : Fields :=
  ([(4, s.tb.p), (4, s.tb.tc), (4, max (-150000) (min 150000 (s.tb.steerF + s.tb.p + s.tb.tc))),
   maybeField 1 (s.tb.holdover.map (fun h => h.grade)), maybeSigned (s.tb.holdover.map (fun h => h.temp))] : Fields) ++
    maybeTimeFields (s.tb.holdover.map (fun h => h.time)) ++
    ([flagField [s.tb.ppsAligned], (1, s.tb.ppsRun)] : Fields) ++ maybeTimeFields s.tb.ppsLast ++
    ([flagField [s.tb.stepped]] : Fields) ++ maybeTimeFields s.tb.nextInstant ++ counterFields [s.tb.steps, s.tb.ppsRejects]

/-- Section 2: the Sampler; the inputs in the order of their rotation. -/
def samplerFields (s : State) : Fields :=
  ([maybeField 2 (s.sampler.latest.batVolt.map (fun v => v.toNat)), maybeSigned s.sampler.latest.batCurr,
   maybeSigned s.sampler.latest.batTemp, maybeSigned s.sampler.latest.encTemp,
   maybeField 2 (s.sampler.latest.heatCurr.map (fun v => v.toNat)),
   maybeField 2 (s.sampler.latest.srcVolt.map (fun v => v.toNat)),
   flagField [s.sampler.powered.z, s.sampler.powered.n, s.sampler.powered.e],
   (1, s.sampler.settling.z), (1, s.sampler.settling.n), (1, s.sampler.settling.e), (2, s.sampler.ring.length)] : Fields) ++
    counterFields [s.sampler.clips.z, s.sampler.clips.n, s.sampler.clips.e, s.sampler.badBattery, s.sampler.badEnclosure]

/-- A channel in section 3: its state, s and l, and its last-trigger record's onset, duration, peak and end. -/
def channelFields (c : ChanDet) : Fields :=
  [(1, codeIn [.off, .settling, .warmup, .quiet, .pending, .triggered, .ending] c.state),
   maybeField 4 (c.avg.map (fun a => a.s.toNat)), maybeField 4 (c.avg.map (fun a => a.l.toNat))] ++
    maybeTimeFields (c.last.map (fun r => r.onset)) ++
    [maybeField 3 (c.last.map (fun r => r.duration)), maybeField 3 (c.last.map (fun r => r.peak.toNat)),
     maybeField 1 (c.last.map (fun r => codeIn [.normal, .long, .power] r.ended))]

/-- Whether a channel's last trigger ended LONG; not so where there was none (log entry 62). -/
def endedLong (c : ChanDet) : Bool := c.last.any (fun r => r.ended == .long)

/-- Whether a channel's last trigger was clipped; not so where there was none (log entry 62). -/
def endedClipped (c : ChanDet) : Bool := c.last.any (fun r => r.clipped)

/-- Section 3: the Detector; the guard interval as its open time. -/
def detectorFields (s : State) : Fields :=
  channelFields s.det.chan.z ++ channelFields s.det.chan.n ++ channelFields s.det.chan.e ++
    ([flagField [s.det.trigger, s.det.running, endedLong s.det.chan.z, endedClipped s.det.chan.z,
      endedLong s.det.chan.n, endedClipped s.det.chan.n, endedLong s.det.chan.e, endedClipped s.det.chan.e]] : Fields) ++
    maybeTimeFields (s.det.guard.map (fun g => g.opens)) ++ ([(1, s.det.pickSeq)] : Fields) ++ maybeTimeFields s.det.prevPick ++
    counterFields [s.det.formed, s.det.guardSup, s.det.repickSup, s.det.longTrig]

/-- The able stations of the Peer Table: live, not in conflict and running (R37); and the station itself while it runs. -/
def ableStations (s : State) : Nat :=
  s.peers.entries.countP (fun e => decide (diffUs s.tb.clock e.last < 3 * (e.interval : Int) * 1000000 ∧
    e.conflict = false ∧ e.running = true)) + s.det.running.toNat

/-- Section 4: the Peer Table, the Pick List and the Event Table. -/
def tableFields (s : State) : Fields :=
  ([(1, s.peers.entries.length), (1, ableStations s), (1, s.picks.entries.length),
   (1, s.picks.entries.countP (fun e => decide (e.assigned = none ∧ e.counted = true))),
   (1, s.events.entries.length), (1, s.events.entries.countP (fun e => e.active))] : Fields) ++
    counterFields [s.peers.refused, s.peers.full, s.peers.conflicts, s.peers.ownId,
      s.picks.malformed, s.picks.future, s.picks.stale, s.picks.duplicate, s.picks.displaced, s.picks.declared,
      s.events.declRefused, s.events.alertRefused, s.events.alertMalformed, s.events.alertLate, s.events.sendFailed,
      s.events.uplinkDropped]

/-- The code of an operation in flight (R216). -/
def operationNumber (o : EngineOp) : Nat :=
  match o with
  | .careErase _ | .aheadErase _ | .wipeErase _ => 0
  | .careProgram _ _ _ | .recordProgram _ _ => 1
  | .mark _ => 2

/-- A placed care request waits in class 1: neither its ERASE nor its PROGRAM is in flight (log entry 40). -/
def careWaiting (r : PlacedCare) : Bool := r.stage == .needErase || r.stage == .needProgram

/-- A page is OWNED (R123). -/
def isOwned (k : PageKind) : Bool :=
  match k with
  | .owned _ _ _ => true
  | .care | .freeErased | .freeDirty => false

/-- The record being made: the one that waits, where one does (log entry 41). -/
def recordMade (s : State) : Option Nat :=
  if s.rm.cap.waiting.isSome = true then s.rm.cap.waiting else s.rm.cap.recId

/-- Section 5: the Record Memory. -/
def recordFields (s : State) : Fields :=
  ([(1, codeIn [.idle, .opened, .closing] s.rm.cap.mode),
   maybeField 4 ((recordMade s).map (fun (id : Nat) => (id : Int))),
   flagField [s.rm.wiping], maybeField 1 (s.rm.flight.map (fun o => operationNumber o))] : Fields) ++
    counterFields [(s.bat.placed.any careWaiting).toNat, s.rm.marks.length, s.rm.programReq.toNat,
      s.rm.eraseAhead.isSome.toNat, s.rm.wipeList.length,
      s.rm.map.countP (· == .care), s.rm.map.countP (· == .freeErased), s.rm.map.countP (· == .freeDirty),
      s.rm.map.countP isOwned] ++
    ([(1, s.rm.dir.length), (4, s.rm.nextId), (2, s.rm.allocPtr)] : Fields) ++
    counterFields [s.rm.started, s.rm.refused, s.rm.reclaimed, s.rm.closedFull, s.rm.closedPower, s.rm.closedOverrun,
      s.rm.torn, s.rm.dropped]

/-- The exit on-delay's elapsed time in whole seconds, absent while it does not run (R159; log entries 42, 54 and 63). -/
def exitElapsed (s : State) : Option Int :=
  s.bat.exit.start.map (fun t => max 0 (diffUs s.tb.clock t / 1000000))

/-- Section 6: the Battery Monitor. -/
def batteryFields (s : State) : Fields :=
  ([(5, s.bat.q), (1, s.bat.shed), flagField [s.bat.exit.start.isSome], maybeField 2 (exitElapsed s),
   (1, codeIn [.absent, .careOnly, .full] s.bat.permission), (4, s.bat.heaterDraw),
   maybeField 4 (s.bat.lastDone.map (fun r => r.1)),
   maybeField 1 (s.bat.lastDone.map (fun r => codeIn [.schedule, .shed, .restart] r.2)),
   maybeField 4 (s.bat.restored.map (fun r => r.1)), maybeField 1 (s.bat.restored.map (fun r => r.2)),
   flagField [s.bat.placed.isSome, s.bat.owed.isSome]] : Fields) ++
    counterFields [s.bat.fullAnchors, s.bat.emptyAnchors, s.bat.shedRaises, s.bat.written, s.bat.permitDrops]

/-- The setpoint in force (R173), from the shed level and the source voltage that stand (log entry 43). -/
def setpointNow (s : State) : Int :=
  if s.bat.shed = 3 then s.profile.freezeLimit + s.profile.hyst.tdiv 2
  else if s.sampler.latest.srcVolt.any (fun v => decide (s.profile.sourceMv < v)) = true then s.profile.chargeMinT + 20
  else if s.bat.shed = 0 then s.profile.maintT
  else s.profile.maintT - s.profile.setback

/-- Section 7: the Heater Controller. -/
def heaterFields (s : State) : Fields :=
  ([(2, setpointNow s)] : Fields) ++ timeFields s.heat.since ++ ([flagField [s.heat.deferral.isSome]] : Fields) ++
    maybeTimeFields s.heat.deferral ++
    ([maybeField 1 (s.heat.lastForced.map (fun c => codeIn [.cutout, .sensor, .opened, .maxOn] c)), (4, s.heat.exposure),
     (1, s.heat.accumulating.toNat),
     flagField [decide (s.profile.freezeBudget * 60 ≤ s.heat.exposure), s.heat.resetDelay.start.isSome]] : Fields) ++
    counterFields [s.heat.starts, s.heat.forcedOffs, s.heat.deferred, s.heat.expired, s.heat.resets, s.heat.opens]

/-- The code of a frame's kind (R216). -/
def kindNumber (f : Frame) : Nat :=
  match f with
  | .alert _ => 1
  | .pick _ _ _ => 2
  | .beacon _ => 3
  | .answer _ => 5

/-- How many frames of a kind are queued. -/
def queuedFrames (s : State) (kind : Nat) : Nat := s.line.queue.countP (fun q => kindNumber q.frame == kind)

/-- Section 8: the Line Controller; the frames queued are ALERTs, PICKs, BEACONs and ANSWERs. The time since the last valid frame
is log entries 58, 64 and 65. -/
def lineFields (s : State) : Fields :=
  ([(1, queuedFrames s 1), (1, queuedFrames s 2), (1, queuedFrames s 3), (1, queuedFrames s 5),
   (1, s.line.seq),
   maybeField 4 (s.line.lastValid.map (fun t => ((((s.tb.clock.sec * 1000000 + s.tb.clock.us : Nat) : Int) - t) / 1000).toNat)),
   flagField [s.line.quiet]] : Fields) ++
    counterFields [s.line.sent, s.line.collisions, s.line.dropped, s.line.refused, s.line.displaced, s.line.replaced,
      s.line.skipped, s.line.badFrame, s.line.badSender, s.line.unknownKind, s.line.sectionResets]

/-- What a STATUS section holds, in the order of R201. -/
def sectionFields (s : State) (sect : Nat) : Fields :=
  match sect with
  | 0 => stationFields s
  | 1 => timebaseFields s
  | 2 => samplerFields s
  | 3 => detectorFields s
  | 4 => tableFields s
  | 5 => recordFields s
  | 6 => batteryFields s
  | 7 => heaterFields s
  | _ => lineFields s

/-! ### What the part sends and stores besides (12.4) -/

/-- A frame's payload (R216); a BEACON's departure stamp is taken as it leaves (R12). -/
def payloadFields (f : Frame) (stamp : ArrayTime) : Fields :=
  match f with
  | .alert a =>
    ([(1, a.key.origin)] : Fields) ++ timeFields a.key.time ++
      ([(1, a.repeatNo), (1, a.origins.length), (1, a.best), (1, a.amp)] : Fields) ++
      a.origins.map (fun (o : Nat) => (1, (o : Int)))
  | .pick p east north =>
    ([(1, p.seq)] : Fields) ++ timeFields p.onset ++
      ([(1, p.grade), flagField [p.mask.z, p.mask.n, p.mask.e], (1, p.amp), flagField [p.stepped, p.clipped], (2, east),
        (2, north)] : Fields)
  | .beacon b =>
    timeFields stamp ++
      ([(1, codeIn [.unset, .anchored, .following, .consensus, .holdover] b.state), (1, b.grade), (1, b.code), (1, b.shed),
        flagField [b.running], (2, b.linePos), (2, b.east), (2, b.north), (2, b.soc), maybeSigned b.temp] : Fields)
  | .answer a =>
    ([(1, a.requester), (1, a.code), (1, a.result)] : Fields) ++ a.data.map (fun (b : Byte) => (1, (b.toNat : Int)))

/-- A whole frame with its CRC (R187, R216): preamble, start delimiter, kind, sender, sequence, length, payload, CRC. -/
def frameFields (own : Nat) (q : QFrame) (stamp : ArrayTime) (crc : Nat) : Fields :=
  ([(1, 0x55), (1, 0x55), (1, 0xB9), (1, kindNumber q.frame), (1, own), (1, q.seq),
    (1, ((payloadFields q.frame stamp).map Prod.fst).sum)] : Fields) ++ payloadFields q.frame stamp ++ ([(2, crc)] : Fields)

/-- An Alert Report with its CRC (R117, R216). -/
def reportFields (kind own : Nat) (e : EventEntry) (crc : Nat) : Fields :=
  ([(1, 0xA5), (1, 0x4C), (1, kind), (1, e.key.origin)] : Fields) ++ timeFields e.key.time ++
    ([(1, e.votes.length), (1, e.declaredBy.length), (1, e.best), (1, e.amp), (1, own), (2, crc)] : Fields)

/-- A care snapshot with its CRC (R163, R216). -/
def snapshotFields (x : Snapshot) (crc : Nat) : Fields :=
  ([(4, x.seq)] : Fields) ++ timeFields x.time ++
    ([(1, x.timeState), (5, x.q), (2, x.capacity), (4, x.exposure), flagField [x.below], (1, x.shed), (4, x.nextId),
      (1, x.cause), (2, crc)] : Fields)

/-- The header of a care page with its CRC (R216). -/
def carePageFields (page crc : Nat) : Fields :=
  ([(1, 0x43), (2, page)] : Fields) ++ List.replicate 27 (1, 0) ++ ([(2, crc)] : Fields)

/-- A word of a stored set (R216). -/
def wordFields (w : SetWord) : Fields :=
  [(3, w.sample), flagField [w.powered, w.settling, w.clipped, w.guard, w.stepped]]

/-- A record page as it is programmed, with its CRC (R124, R216): the header, its mark bytes erased, and the sets. The flags
have bit 0 stepped, bit 1 final, and a final page's end cause in bits 4 and 5. -/
def recordPageFields (id own rate : Nat) (b : PageBuffer) (first : ArrayTime) (crc : Nat) : Fields :=
  ([(1, 0x52), (4, id), (2, b.idx)] : Fields) ++ timeFields first ++
    ([(1, b.sets.length),
      flagField [b.sets.any (fun x => x.words.z.powered), b.sets.any (fun x => x.words.n.powered),
        b.sets.any (fun x => x.words.e.powered)],
      (1, rate), (1, own), (1, b.grade),
      (1, (b.stepped.toNat + 2 * b.final.isSome.toNat + 16 * (b.final.map endCauseNumber).getD 0 : Nat)),
      (1, 0xFF), (1, 0xFF)] : Fields) ++ List.replicate 8 (1, 0) ++ ([(2, crc)] : Fields) ++
    b.sets.flatMap (fun x => wordFields x.words.z ++ wordFields x.words.n ++ wordFields x.words.e)

/-- A query answered without being carried out: BAD_REQUEST (R200). -/
def answeredBad (s : State) (q : QueryHeader) (code : Nat) : State :=
  engineKick (offerFrame { s with query := { s.query with bad := min (s.query.bad + 1) 65535 } }
    (.answer ⟨q.sender.toNat, code, 4, []⟩) (some q.seq.toNat))

/-- A query ignored in listen-only (R200). -/
def ignored (s : State) : State :=
  engineKick { s with query := { s.query with ignored := min (s.query.ignored + 1) 65535 } }

/-- A query code with its number of argument bytes (R200). -/
def queryTakes (code count : Nat) : Prop :=
  (1 ≤ code ∧ code ≤ 4 ∧ count = 1) ∨ (code = 5 ∧ count = 7) ∨ ((code = 6 ∨ code = 8) ∧ count = 4) ∨
    ((code = 7 ∨ code = 9 ∨ code = 10) ∧ count = 0)

/-- A code and arguments that are not those of the table: another count, a STATUS section above 8 or a PAGE slice above 31
(R200). -/
def queryMalformed (code : Nat) (args : List Byte) : Prop :=
  ¬queryTakes code args.length ∨ (code = 1 ∧ ∃ x, args = [x] ∧ 8 < x.toNat) ∨
    (code = 5 ∧ ∃ x, args[6]? = some x ∧ 31 < x.toNat)

/-! ### Rows whose event is not there -/

/-- A channel row finds no channel to act on: the Detector is off, or the channel takes no word (R62, R63, R74). -/
def takesNoWord (s : State) (w : SetWord) : Prop := ¬detectorIsOn s ∨ w.powered = false ∨ w.settling = true

/-- The event that a row names is not there (log entries 2 and 4). False stands at a row that always acts, and at one whose own statement
says when it changes nothing. -/
def noEvent (c : Instr) (s : State) : Prop :=
  match c with
  | .powerOn => False
  | .brownOut _ => s.phase = .brownOut
  | .brownOutRecovery => s.phase ≠ .brownOut
  | .restartTakesEffect => s.phase ≠ .restarting
  | .profileRead _ _ _ => s.phase ≠ .step1
  | .careRestore => s.phase ≠ .step2
  | .startUpScan => s.phase ≠ .step3
  | .lineEnable => s.phase ≠ .step4
  | .samplerStart => s.phase ≠ .step5
  | .sampleTick _ => ∀ n, s.tb.nextTick = some n → diffUs s.tb.clock n < 0
  | .settlingEnd c w => takesNoWord s w ∨ (s.det.chan.get c).state ≠ .settling
  | .warmupEnd c w => takesNoWord s w ∨ (s.det.chan.get c).state ≠ .warmup ∨ 1 < (s.det.chan.get c).warmup
  | .channelTriggered c _ w => takesNoWord s w ∨
      ((s.det.chan.get c).state ≠ .quiet ∧ (s.det.chan.get c).state ≠ .pending) ∨
      ((s.det.chan.get c).state = .quiet ∧ 1 < s.profile.onHold) ∨
      ((s.det.chan.get c).state = .pending ∧ (s.det.chan.get c).onRun + 1 < s.profile.onHold)
  | .triggerEnd c _ w => takesNoWord s w ∨ inTrigger (s.det.chan.get c) = false ∨
      (s.det.chan.get c).offRun + 1 < s.profile.offHold
  | .maxTrigger c t w => takesNoWord s w ∨ inTrigger (s.det.chan.get c) = false ∨
      ∀ r, (s.det.chan.get c).run = some r → diffUs t r.onset < (s.profile.maxTrigger : Int) * 1000000
  | .captureTakeSet | .captureEndTime | .recordMaxReached | .pageAllocation => ∀ id num x, ¬captureHolds s id num x
  | .pickAged | .eventEnd | .alertRepeatDue => False
  | .schedule => ∀ d, s.bat.nextDue = some d → diffUs s.tb.clock d < 0
  | .owedSnapshot | .shedExit | .fullAnchor | .emptyAnchor | .maxOn | .deferralExpired => False
  | .heaterOpenClear => ∀ u, s.heat.openSince = some u → diffUs s.tb.clock u < 3600000000
  | .exposureReset => s.heat.resetDelay.isMet = true ∨ s.sampler.batterySensor = true ∨
      (∀ x, s.sampler.latest.batTemp = some x → x < s.profile.freezeLimit + 50) ∨
      ∀ start, s.heat.resetDelay.start = some start → diffUs s.tb.clock start < 3600000000
  | .openCheck _ => False
  | .steeringInstant | .peerExpiry => ∀ n, ¬instantDue s n
  | .ppsEdge => s.profile.ppsEnable = false
  | .beaconReceived _ _ | .pickFrameReceived _ _ | .alertFrameReceived _ _ | .badFrame _ | .frameNotHandedOn _ _ _
  | .status _ _ | .peer _ _ | .event _ _ | .record _ _ | .page _ _ _ _ | .release _ _ | .wipe _ | .setSeconds _ _
  | .latchClear _ | .restart _ | .badRequest _ _ _ => ∀ r, ¬hears s r
  | .idleGapMet => s.line.queue = [] ∨ s.line.access ≠ .waiting
  | .backoffExpiry => s.line.queue = [] ∨ s.line.access ≠ .backoff 0
  | .lineTurnsBusy _ => s.line.rx = .deaf ∨ s.line.sending = true
  | .mismatch | .frameSent => s.line.queue = [] ∨ ∀ e stamp, s.line.access ≠ .transmitting e stamp
  | .sectionReset => s.line.quiet = true ∨ s.line.lastValid = none
  | .uplinkReportSent => s.events.sending = none ∨ s.events.sentUs < 18750
  | .engineOperationStart => False
  | .eraseComplete => ∀ p, s.rm.flight ≠ some (.careErase p) ∧ s.rm.flight ≠ some (.aheadErase p) ∧
      s.rm.flight ≠ some (.wipeErase p)
  | .captureProgramComplete => ∀ p bytes, s.rm.flight ≠ some (.recordProgram p bytes)
  | .careSnapshotComplete => ∀ p offset bytes, s.rm.flight ≠ some (.careProgram p offset bytes)
  | .markComplete => ∀ m, s.rm.flight ≠ some (.mark m)
  | .nominalMicrosecond => False

/-- A part that a brown-out has stopped, or that waits for its restart (log entries 4 and 38), with no operation in flight, and a row
other than those of the supply and the start: nothing in it acts (R149, R215). -/
def stoppedFor (c : Instr) (s : State) : Prop :=
  s.awake = false ∧ s.rm.flight = none ∧ c ≠ .powerOn ∧ (∀ b, c ≠ .brownOut b) ∧ c ≠ .brownOutRecovery ∧
    c ≠ .restartTakesEffect

end Sys2Proof
end

