-- ==== Sys2Proof/Certificates/Slice0/Obligations.lean ====
section
/-! DEFINITION. The statements for the provers, listed in OBLIGATIONS.json. -/

section Statements

open Sys2Proof Sys2Proof.Machine

/-! ### The step and the whole machine -/

/-- A step runs the command at the front of the queue on the state with the queue's rest, and idles on an empty queue
(the block's convention, log entry 1). -/
def Obligations.StepRunsFrontCommand : Prop :=
  (∀ (c : Instr) (rest : List Instr) (s : State), s.pending = c :: rest →
      step s = exec c { s with pending := rest }) ∧
    ∀ s : State, s.pending = [] → step s = .next s

/-- No command ends the run, unless the engine's operation names a page that the memory does not have (R123; log entry 32). And
a command changes nothing where the event that its row names is not there (log entries 2 and 4), or where a brown-out or a
coming restart has stopped the part and the row is none of the supply's (R149, R215; log entries 4 and 38). -/
def Obligations.EveryCommandGoesOn : Prop :=
  (∀ (c : Instr) (s : State), (∀ o, s.rm.flight = some o → o.page < 512) → ∃ t, exec c s = .next t) ∧
    ∀ (c : Instr) (s : State), noEvent c s ∨ stoppedFor c s → exec c s = .next s

/-- Each command leaves every block it has no business with as it is, and never touches the waiting commands. What a command's
step holds is listed in 95_what_each_step_holds.md, with the rules that govern it, and each chapter says what its own block
does then: a block that no rule has a part in the step stays as it is, as R24, R122, R151, R170 and R185 say of the line-quiet
section reset. That a command which ends by offering the engine its choice may touch the engine is log entry 13. -/
def Obligations.CommandsKeepOtherBlocks : Prop :=
  ∀ (c : Instr) (s t : State), exec c s = .next t →
    t.pending = s.pending ∧ ∀ b : Block, b ∉ mayChange c → sameBlock b s t

/-! ### Invariants -/

/-- The grade agrees with the time state after every step (R5), and local time, the accumulator and the correction terms stay
in their ranges (R1, R2, R3). -/
def Obligations.TimebaseStaysInRange : Prop := KeptByStep gradeInv ∧ KeptByStep clockInv

/-- The transmit queue stays within 8 frames and one BEACON, access goes with its head, and the frame in transmission stays
within its bytes, with a departure stamp from a BEACON's start delimiter on (R12, R189, R190); the ring never holds more than
4,096 sets (R52). -/
def Obligations.QueueAndRingStayBounded : Prop := KeptByStep queueInv ∧ KeptByStep ringInv

/-- The Peer Table stays within 24 entries of distinct station identifiers in ascending order (R27); the Pick List within
32 entries in order of pick time, no two the same pick (R84). -/
def Obligations.PeersAndPicksStayOrdered : Prop := KeptByStep peersInv ∧ KeptByStep picksInv

/-- The Event Table stays within 8 entries of distinct keys, and the ALERT line agrees with it (R104, R116): it is high
while at least one ACTIVE entry has a declared-by count of confirm_count or more, and low otherwise, and that count
includes the station itself only for an event it declared. The invariant also says that before step 1 of a start there is no
entry and nothing that could make one, since step 1 may change confirm_count. -/
def Obligations.AlertLineAgreesWithEvents : Prop := KeptByStep eventsInv

/-- The record memory's bytes keep their canonical form; the record directory stays within 64 entries in strictly ascending
order of identifier (R126); the page map keeps its 512 entries with exactly the care pages CARE, and the capture's buffer never
holds a care page (R123). -/
def Obligations.MemoryAndRecordsStayOrdered : Prop :=
  KeptByStep memoryInv ∧ KeptByStep directoryInv ∧ KeptByStep pageMapInv

/-- Q stays within the capacity of the pack, and the residual within 999 (R154); the shed level stays from 0 to 3 (R157); HEAT
is never on while HEATER OPEN is latched (R175), and the open-check mark stands only while HEAT is on (R178). -/
def Obligations.ChargeAndHeatStayInBounds : Prop := KeptByStep chargeInv ∧ KeptByStep heaterInv

/-- Every parameter of the profile stays in its range and its ordering (R57, R83, R131, R152, R171, R211). -/
def Obligations.ProfileStaysInRange : Prop := KeptByStep profileInv

/-- The state after reset meets every invariant. -/
def Obligations.ResetMeetsInvariants : Prop :=
  memoryInv State.reset ∧ gradeInv State.reset ∧ clockInv State.reset ∧ queueInv State.reset ∧ peersInv State.reset ∧
    picksInv State.reset ∧ eventsInv State.reset ∧ directoryInv State.reset ∧ pageMapInv State.reset ∧
    chargeInv State.reset ∧ heaterInv State.reset ∧ ringInv State.reset ∧ profileInv State.reset

/-! ### The supply and the start -/

/-- POWER_ON at any time, BROWN_OUT_RECOVERY after a brown-out and RESTART_TAKES_EFFECT after its snapshot begin a start
at step 1: the record memory's bytes are kept, the outputs are low, and each block holds what its chapter gives (R26, R40, R56,
R82, R103, R122, R151, R170, R185, R199, R209), all counters at 0. Nothing is said of what a later step of the start forms: the
profile, the channels' power and settling counts, what the restore and the scan give, the line's silence and its last valid
frame. That a start can begin in any phase, and that a restart is a phase of its own, are log entries 3 and 38. The model's
choice, log entry 6, is what stands before the step that forms it: the beacon interval 0 with no instant and no tick before
LINE_ENABLE and SAMPLER_START (R26), the Detector's channels OFF with no vote and no last set, an empty directory, and the
model's own serial of the events 0. -/
def Obligations.StartLeavesResetValues : Prop :=
  ∀ (c : Instr) (s : State), beginsStart c s →
    ∃ t, exec c s = .next t ∧ t.phase = .step1 ∧ t.mem = s.mem ∧ t.pins = pinsLow ∧
      t.tb =
        { clock := ⟨0, 0⟩, residual := 0, steerF := 0, p := 0, tc := 0, state := .unset, grade := 15, holdover := none,
          ppsAligned := false, ppsLast := none, ppsRun := 0, seed := none, nextInstant := none, interval := 0,
          stepped := false, nextTick := none, lastTick := none, ppsRejects := 0, steps := 0 } ∧
      t.peers =
        { entries := [], refused := 0, full := 0, conflicts := 0, ownId := 0, idConflict := false,
          ownIdConflict := false } ∧
      t.sampler =
        { powered := t.sampler.powered, settling := t.sampler.settling, slot := .batVolt
          latest :=
            { batVolt := none, batCurr := none, batTemp := none, encTemp := none, heatCurr := none, srcVolt := none }
          batterySensor := false, enclosureSensor := false, ring := [], nextSet := 0, clips := ⟨0, 0, 0⟩
          badBattery := 0, badEnclosure := 0 } ∧
      (∀ c, t.det.chan.get c =
        { state := .off, avg := none, warmup := 0, onRun := 0, offRun := 0, run := none, last := none }) ∧
      t.det =
        { chan := t.det.chan, trigger := false, running := false, vote := none, lastSet := none, guard := none
          prevPick := none, pickSeq := 0, formed := 0, guardSup := 0, repickSup := 0, longTrig := 0 } ∧
      t.picks =
        { entries := [], malformed := 0, future := 0, stale := 0, duplicate := 0, displaced := 0, declared := 0 } ∧
      t.events =
        { entries := [], nextSerial := 0, alertLine := false, uplink := [], sending := none, sentUs := 0
          declRefused := 0, alertRefused := 0, alertMalformed := 0, alertLate := 0, sendFailed := 0
          uplinkDropped := 0 } ∧
      t.rm =
        { map := t.rm.map, dir := [], nextId := t.rm.nextId, allocPtr := t.rm.allocPtr
          cap :=
            { mode := .idle, recId := none, waiting := none, readPos := none, endTime := none, awaiting := false
              taken := 0
              buf :=
                { page := none, idx := 0, sets := [], grade := 0, stepped := false, final := none, busy := false
                  next := none, tail := none } }
          flight := none, marks := [], programReq := false, eraseAhead := none, wipeList := [], wiping := false
          pendingStep := false, started := 0, refused := 0, reclaimed := 0, closedFull := 0, closedPower := 0
          closedOverrun := 0, torn := 0, dropped := 0 } ∧
      t.bat =
        { q := t.bat.q, residual := 0, lastCurrent := none, lastHeater := none, full := ⟨none, false⟩
          empty := ⟨none, false⟩, shed := t.bat.shed, exit := ⟨none, false⟩, permit := false, permission := .absent
          logPage := t.bat.logPage, logSlot := t.bat.logSlot, seq := t.bat.seq, nextDue := t.bat.nextDue, owed := none
          placed := none, lastDone := none, restored := t.bat.restored, restoredNextId := t.bat.restoredNextId
          heaterDraw := 0, careLost := t.bat.careLost, fullAnchors := 0, emptyAnchors := 0, shedRaises := 0
          written := 0, permitDrops := 0 } ∧
      t.heat =
        { on := false, since := t.heat.since, deferral := none, openSince := none, stuck := false, openCheck := false
          exposure := t.heat.exposure, rem := 0, accumulating := t.heat.accumulating, lastTemp := none
          resetDelay := ⟨none, false⟩, restoredTime := t.heat.restoredTime, restoredFlag := t.heat.restoredFlag
          lastForced := none, starts := 0, forcedOffs := 0, deferred := 0, expired := 0, resets := 0, opens := 0 } ∧
      t.line =
        { rx := .deaf, silence := t.line.silence, queue := [], access := .idle, driven := none, seq := 0
          lastValid := t.line.lastValid, quiet := false, sent := 0, collisions := 0, dropped := 0, refused := 0
          displaced := 0, replaced := 0, skipped := 0, badFrame := 0, badSender := 0, unknownKind := 0
          sectionResets := 0 } ∧
      t.query = { restartPending := false, taken := 0, bad := 0, ignored := 0 }

/-- BROWN_OUT stops the part (R149, R215): the outputs are low, requests, capture and transmit queue are lost, and of the
record memory only the page of an operation in flight may change. If the supply allows, the operation completes; if not, it
leaves of an ERASE a page torn or erased, of a care PROGRAM a check that fails, of a MARK a programmed mark (R149, R167; a cut
record PROGRAM is CutRecordPageIsTorn). What of this the free bytes of a cut operation may be is log entry 9. -/
def Obligations.BrownOutStopsThePart : Prop :=
  ∀ (s : State) (supplyAllows : Bool), s.phase ≠ .brownOut →
    ∃ t, exec (.brownOut supplyAllows) s = .next t ∧ t.phase = .brownOut ∧ t.pins = pinsLow ∧
      t.rm.flight = none ∧ t.rm.marks = [] ∧ t.rm.programReq = false ∧ t.rm.eraseAhead = none ∧ t.rm.wipeList = [] ∧
      t.rm.cap.mode = .idle ∧ t.rm.cap.buf.sets = [] ∧ t.rm.pendingStep = false ∧ t.bat.placed = none ∧
      t.bat.owed = none ∧ t.line.queue = [] ∧ t.line.access = .idle ∧
      (s.rm.flight = none → t.mem = s.mem) ∧
      ∀ o, s.rm.flight = some o →
        (supplyAllows = true → completedAs s.mem o t.mem) ∧
        (supplyAllows = false → Memory.wf s.mem → cutAs s.mem o t.mem) ∧
        (opFits o → ∀ a, outsidePage o.page a → memRead t.mem a = memRead s.mem a)

/-- The PROGRAM of a record page that the supply cuts short leaves a page that the scan finds torn (R146, R149),
whatever the free bytes of the part-written page are. That no free byte makes such a page valid is log entry 9. -/
def Obligations.CutRecordPageIsTorn : Prop :=
  ∀ (m : Memory) (k page id own rate : Nat) (b : PageBuffer), Memory.wf m → pageErased m page → b.sets.length ≤ 168 →
    scanPage (cutFlight m k (.recordProgram page (recordPageBytes id own rate b))) page = .torn

/-- PROFILE_READ at step 1 with a good read and a station identifier uses the profile (R210, R211, R216): each field comes from
its place in the 96 bytes, is held to its range, and takes the ordering adjustments of R57, R83, R131, R152 and R171; the
clamped-fields counter is the number of fields that a range changed and of adjustments that changed one, up to 255. What counts
as a field is log entries 24 and 55. -/
def Obligations.ProfileIsUsed : Prop :=
  ∀ (s : State) (r1 r2 r3 : Option (List Byte)) (bs : List Byte), s.phase = .step1 → stopsAt [r1, r2, r3] bs →
    bs.length = 96 → 1 ≤ idByte bs → idByte bs ≤ 239 →
    exec (.profileRead r1 r2 r3) s = .next { s with
      phase := .step2, profile := ordered (laidOut bs)
      clamped := min 255 (fieldChanges (asRead bs) (laidOut bs) + fieldChanges (laidOut bs) (ordered (laidOut bs)))
      ownId := some (idByte bs), listenOnly := false, listenCause := .none }

/-- PROFILE_READ at step 1 enters listen-only with its cause where the profile cannot be used, with the identifier of the
last acknowledged read if it is a station's, and FAULT is high (R210, R212, R213). The profile in force is that of the stated
defaults; a parameter without one holds a free value within its range (log entry 7). No profile is used, and the
clamped-fields counter is 0 (log entry 24). -/
def Obligations.ListenOnlyIsEntered : Prop :=
  ∀ (s : State) (r1 r2 r3 : Option (List Byte)), s.phase = .step1 →
    (r1 = none → r2 = none → r3 = none → ∃ t, exec (.profileRead r1 r2 r3) s = .next t ∧ t.listenOnly = true ∧
      t.listenCause = .noDevice ∧ t.ownId = none ∧ t.phase = .step2 ∧ faultLine t = true ∧
       listenDefaults t.profile ∧ t.clamped = 0) ∧
    (∀ bs, noneGood [r1, r2, r3] → lastIs [r1, r2, r3] bs → ∃ t, exec (.profileRead r1 r2 r3) s = .next t ∧
      t.listenOnly = true ∧ t.listenCause = .badCheck ∧
      t.ownId = (if 1 ≤ idByte bs ∧ idByte bs ≤ 239 then some (idByte bs) else none) ∧ t.phase = .step2 ∧
      faultLine t = true ∧
       listenDefaults t.profile ∧ t.clamped = 0) ∧
    ∀ bs, stopsAt [r1, r2, r3] bs → (idByte bs = 0 ∨ 240 ≤ idByte bs) →
      ∃ t, exec (.profileRead r1 r2 r3) s = .next t ∧ t.listenOnly = true ∧ t.listenCause = .badIdentifier ∧
        t.ownId = none ∧ t.phase = .step2 ∧ faultLine t = true ∧ listenDefaults t.profile ∧ t.clamped = 0

/-- CARE_RESTORE at step 2 restores the charge, the shed level, the log position and what the Heater Controller and the
Record Memory are handed, or latches CARE LOST (R167, R168, R185). The restored snapshot is the valid one of the highest
sequence number, the later in the order of the care pages and of their slots where two share it; there is none only where no
snapshot is valid. The wrap of the sequence number is log entry 25. -/
def Obligations.CareLogIsRestored : Prop :=
  (∀ m : Memory,
    (∀ place x, restoredSnapshot m = some (place, x) → ∃ slot, snapshotAt m place slot x ∧
      ∀ place' slot' y, snapshotAt m place' slot' y →
        y.seq < x.seq ∨ (y.seq = x.seq ∧ (place' < place ∨ (place' = place ∧ slot' ≤ slot)))) ∧
    (restoredSnapshot m = none → ∀ place slot x, ¬snapshotAt m place slot x)) ∧
  ∀ s : State, s.phase = .step2 →
    (∀ place x, restoredSnapshot s.mem = some (place, x) → x.capacity ≠ 0 →
      exec .careRestore s = .next { s with
        phase := .step3
        bat := { s.bat with
          q := min (s.profile.capacityAh * 3600000)
            (if x.capacity = s.profile.capacityAh then x.q else x.q * s.profile.capacityAh / x.capacity)
          residual := 0, shed := x.shed, seq := (x.seq + 1) % 4294967296, logPage := (place + 1) % 8, logSlot := 0
          restored := some (x.seq, x.cause), restoredNextId := x.nextId, careLost := false
          nextDue := some (addUs s.tb.clock 900000000) }
        heat := { s.heat with
          since := s.tb.clock, exposure := x.exposure, rem := 0, accumulating := x.below
          restoredTime := if x.timeState = 0 then none else some x.time, restoredFlag := x.below } }) ∧
    (restoredSnapshot s.mem = none →
      exec .careRestore s = .next { s with
        phase := .step3
        bat := { s.bat with
          q := s.profile.capacityAh * 3600000 / 2, residual := 0, shed := 0, seq := 0, logPage := 0, logSlot := 0
          restored := none, restoredNextId := 0, careLost := true, nextDue := some (addUs s.tb.clock 900000000) }
        heat := { s.heat with
          since := s.tb.clock, exposure := 0, rem := 0, accumulating := false, restoredTime := none
          restoredFlag := false } })

/-- A snapshot written in its 32 bytes is a valid snapshot, and is read back with every field (R163, R167, R216); its fields
stand where R216 lays them out, with the CRC of the bytes before it, and so do those of a care page's header. -/
def Obligations.SnapshotReadsBack : Prop :=
  (∀ x : Snapshot, fieldsStand (snapshotFields x (crc16 ((snapshotBytes x).take 30))) (snapshotBytes x)) ∧
  (∀ page : Nat, fieldsStand (carePageFields page (crc16 ((careHeader page).take 30))) (careHeader page)) ∧
  ∀ x : Snapshot, snapshotFits x →
    (snapshotBytes x).length = 32 ∧ slotValid (snapshotBytes x) = true ∧ parseSnapshot (snapshotBytes x) = x

/-- A record page programmed into an erased page scans as valid, with its identifier, index, time of first set, set
count, rate, final flag and end cause, and LOOSE (R124, R125, R146, R216). Its header and its sets stand where R216 lays them
out, and its CRC covers the header without the mark bytes and the CRC, and the sets (R125). -/
def Obligations.RecordPageScansBack : Prop :=
  (∀ (id own rate : Nat) (b : PageBuffer) (x : SampleSet) (rest : List SampleSet) (bs : List Byte),
    b.sets = x :: rest → (∀ c, b.final = some c → c ≠ .cut ∧ c ≠ .torn) → bs = recordPageBytes id own rate b →
    fieldsStand (recordPageFields id own rate b x.stamp (crc16 (bs.take 20 ++ (bs.drop 22).take 8 ++ bs.drop 32))) bs) ∧
  ∀ (m : Memory) (page id own rate : Nat) (b : PageBuffer) (x : SampleSet) (rest : List SampleSet), Memory.wf m →
    pageErased m page → b.sets = x :: rest → rest.length ≤ 167 → b.idx ≤ 503 → id < 4294967296 → rate ≤ 2 →
    x.stamp.sec < 4294967296 → x.stamp.us < 16777216 → (∀ c, b.final = some c → c ≠ .cut ∧ c ≠ .torn) →
    scanPage (memProgram m (page * 2048) (recordPageBytes id own rate b)) page =
      .valid
        { page := page, id := id, idx := b.idx, first := x.stamp, count := rest.length + 1, rate := rate
          final := b.final.isSome, cause := b.final.getD .normal, hold := .loose }

/-- START_UP_SCAN at step 3 gives each page its kind, rebuilds exactly the kept records with what their pages say, sets the
next record identifier and the allocation pointer past them, counts the torn and the dropped pages, and looks at the next free
page for its erase-ahead (R135, R146 to R148, R150). The cap on the next identifier is log entry 23, the pool page that follows
another log entry 22, and a look that finds another erase-ahead waiting log entry 49. -/
def Obligations.ScanRebuildsTheDirectory : Prop :=
  ∀ s : State, s.phase = .step3 →
    ∃ t, exec .startUpScan s = .next t ∧ t.phase = .step4 ∧ t.rm.map.length = 512 ∧
      (∀ p < 512, isCarePage p = true → t.kindOf p = .care) ∧
      (∀ p, poolPage p → scanPage s.mem p = .erased → t.kindOf p = .freeErased) ∧
      (∀ p, poolPage p → scanPage s.mem p = .torn → t.kindOf p = .freeDirty) ∧
      (∀ p h, poolPage p → scanPage s.mem p = .valid h → h.page = p ∧
        (recordPage s.mem h → inKeptRun s.mem h → t.kindOf p = .owned h.id h.idx true) ∧
        (¬(recordPage s.mem h ∧ inKeptRun s.mem h) → t.kindOf p = .freeDirty)) ∧
      (∀ e, e ∈ t.rm.dir ↔ ∃ run, recordRun s.mem e.id run ∧ keptRecord s.mem e.id ∧ rebuiltAs s.mem run e) ∧
      t.rm.dir.length ≤ 64 ∧ t.rm.dir.Pairwise (fun a b => a.id < b.id) ∧
      (∀ n, (n = s.bat.restoredNextId ∨ ∃ e ∈ t.rm.dir, n = e.id + 1) → s.bat.restoredNextId ≤ n →
        (∀ e ∈ t.rm.dir, e.id < n) → t.rm.nextId = min 4294967295 n) ∧
      ((∀ p id idx done, p < 512 → t.kindOf p ≠ .owned id idx done) → t.rm.allocPtr = 0) ∧
      (∀ q id idx done, q < 512 → t.kindOf q = .owned id idx done →
        (∀ p id' idx' done', p < 512 → t.kindOf p = .owned id' idx' done' → p ≤ q) → nextPool q t.rm.allocPtr) ∧
      (∀ pages : List Nat, pages.Nodup → (∀ p, p ∈ pages ↔ poolPage p ∧ (scanPage s.mem p = .torn ∨
          ∃ h, scanPage s.mem p = .valid h ∧ ¬recordPage s.mem h)) → t.rm.torn = min (s.rm.torn + pages.length) 65535) ∧
      (∀ pages : List Nat, pages.Nodup → (∀ p, p ∈ pages ↔ poolPage p ∧
          ∃ h, scanPage s.mem p = .valid h ∧ recordPage s.mem h ∧ ¬inKeptRun s.mem h) →
        t.rm.dropped = min (s.rm.dropped + pages.length) 65535) ∧
      ((s.rm.eraseAhead.isSome = true ∨ ∀ p, ¬nextFreePage t p) → t.rm.eraseAhead = s.rm.eraseAhead) ∧
      (∀ p, nextFreePage t p → s.rm.eraseAhead = none → t.rm.eraseAhead =
        (if t.kindOf p = .freeDirty ∧ p ∉ s.rm.wipeList ∧ s.rm.flight ≠ some (.aheadErase p) ∧
          s.rm.flight ≠ some (.wipeErase p) then some p else none)) ∧
      t = { s with
        phase := .step4
        rm := { s.rm with
          map := t.rm.map, dir := t.rm.dir, nextId := t.rm.nextId, allocPtr := t.rm.allocPtr
          torn := t.rm.torn, dropped := t.rm.dropped, eraseAhead := t.rm.eraseAhead } }

/-- LINE_ENABLE at step 4 begins to hear and schedules the first steering instant one beacon interval later; SAMPLER_START
at step 5 fixes the first tick at the least multiple of the tick period after local time (R11, R22, R82, R199, R214). -/
def Obligations.LineAndSamplerStart : Prop :=
  ∀ s : State,
    (s.phase = .step4 → ∀ n : Nat, n = min 512 (4 * 2 ^ s.profile.baseCode *
        (if s.bat.shed = 0 then 1 else if s.bat.shed ≤ 2 then 4 else 16)) →
      exec .lineEnable s = .next { s with
        phase := .step5
        line := { s.line with rx := .hunting, lastValid := some (usOf s.tb.clock), quiet := false }
        tb := { s.tb with nextInstant := some (addUs s.tb.clock (n * 1000000)), interval := n } }) ∧
    (s.phase = .step5 → ∀ n : Int, usOf s.tb.clock < n → n ≤ usOf s.tb.clock + s.period → s.period ∣ n →
      ∃ t, exec .samplerStart s = .next t ∧ t.phase = .running ∧ t.tb = { s.tb with nextTick := some (ofUs n) } ∧
        ∀ c, ∃ state, t.det.chan.get c =
            { state := state, avg := none, warmup := 0, onRun := 0, offRun := 0, run := none, last := none } ∧
          (state = .settling ↔ s.listenOnly = false ∧ (s.bat.shed ≤ 1 ∨ (s.bat.shed = 2 ∧ c = .z))) ∧
          (state = .settling ∨ state = .off))

/-! ### Time -/

/-- NOMINAL_MICROSECOND (R1, R2): the accumulator receives c, and local time advances by one microsecond, by two, or by none;
the accumulator stays within its range. The uplink port and the Line Controller count the same microsecond (log entry 29).
Local time counts in seconds and microseconds: a microsecond past 999,999 raises the seconds, and the seconds return to 0
after the last; a difference is a signed count of microseconds. -/
def Obligations.NominalMicrosecondCounts : Prop :=
  (∀ (s : State) (sum : Int), s.awake = true → |s.tb.residual| ≤ 999999999 →
    sum = s.tb.residual + clampInt (-150000) 150000 (s.tb.steerF + s.tb.p + s.tb.tc) →
    ∃ b : Timebase, exec .nominalMicrosecond s = .next (lineTick (uplinkTick { s with tb := b })) ∧
      |b.residual| ≤ 999999999 ∧
      (1000000000 ≤ sum → b = { s.tb with residual := sum - 1000000000, clock := addUs s.tb.clock 2 }) ∧
      (sum ≤ -1000000000 → b = { s.tb with residual := sum + 1000000000 }) ∧
      (-1000000000 < sum → sum < 1000000000 → b = { s.tb with residual := sum, clock := addUs s.tb.clock 1 })) ∧
  ∀ t : ArrayTime, t.sec ≤ 4294967295 → t.us ≤ 999999 →
    addUs t 1 =
      (if t.us < 999999 then ⟨t.sec, t.us + 1⟩ else if t.sec < 4294967295 then ⟨t.sec + 1, 0⟩ else ⟨0, 0⟩) ∧
    (∀ d : Int, 0 ≤ usOf t + d → usOf t + d ≤ 4294967295999999 → diffUs (addUs t d) t = d) ∧
    ∀ u : ArrayTime, u.us ≤ 999999 → (diffUs t u < 0 ↔ t.sec < u.sec ∨ (t.sec = u.sec ∧ t.us < u.us))

/-- A step of local time by d (R21): the accumulator and p become 0 and steer_f stays, the stepped indication and the
Record Memory's mark are raised, the scheduled instant moves by d (R11), the time of the last valid frame moves with local
time (R196), and the next tick becomes the least multiple of the period at or after the new time, or the next one if that
equals the last tick stamp (R22). -/
def Obligations.StepMovesLocalTime : Prop :=
  ∀ (s : State) (d : Int), 0 < s.period →
    ∃ next, stepClock s d =
        { s with
          tb :=
            { s.tb with
              clock := addUs s.tb.clock d, residual := 0, p := 0, stepped := true, steps := min (s.tb.steps + 1) 65535
              nextInstant := s.tb.nextInstant.map (addUs · d), nextTick := next }
          rm := { s.rm with pendingStep := true }
          line := { s.line with lastValid := s.line.lastValid.map (· + (usOf (addUs s.tb.clock d) - usOf s.tb.clock)) } } ∧
      (s.tb.nextTick = none → next = none) ∧
      ∀ n : Int, s.tb.nextTick.isSome = true → s.period ∣ n → usOf (addUs s.tb.clock d) ≤ n →
        n < usOf (addUs s.tb.clock d) + s.period →
        next = some (if s.tb.lastTick = some (ofUs n) then addUs (ofUs n) s.period else ofUs n)

/-- STEERING_INSTANT takes one of the paths of R16, with the lower median of R17 and the correction of R18, between the
steps of R20 before it and after it. The seed step reports the exit from UNSET, and the restart gap joins the freeze exposure
(R25, R183). -/
def Obligations.SteeringInstantTakesItsPath : Prop :=
  (∀ (h : Heater) (now : ArrayTime), gapCounted h now (h.reportExit now)) ∧
  ∀ (s u : State) (n : ArrayTime) (G : Nat), instantDue s n → s.peers.entries.Nodup → u = beginInstant s →
    G = (if s.tb.state = .anchored then 1 else u.tb.grade) →
    (s.tb.state = .anchored → ppsPresent s → exec .steeringInstant s = .next (endInstant (withoutP u))) ∧
    (s.tb.state = .unset → ∀ g x, bestGrade s g → s.tb.seed = some x → ∀ v,
      v = stepClock u (diffUs (addUs x.reckoned (diffUs s.tb.clock x.arrival)) s.tb.clock) →
      exec .steeringInstant s = .next (endInstant
        { withState v .following (min (g + 1) 14) with heat := v.heat.reportExit v.tb.clock })) ∧
    (s.tb.state = .unset → ((∀ g, ¬bestGrade s g) ∨ s.tb.seed = none) →
      exec .steeringInstant s = .next (endInstant (withoutP u))) ∧
    (s.tb.state ≠ .unset → (s.tb.state = .anchored → ¬ppsPresent s) →
      (∀ g xs v, bestGrade s g → g < G → offsetsOf s g xs → isLowerMedian xs v →
        exec .steeringInstant s =
          .next (endInstant (corrected (withState u .following (min (g + 1) 14)) v s.tb.interval))) ∧
      (∀ xs v, bestGrade s G → offsetsOf s G xs → isLowerMedian (0 :: xs) v →
        exec .steeringInstant s = .next (endInstant (corrected (withState u .consensus G) v s.tb.interval))) ∧
      (((∀ g, ¬bestGrade s g) ∨ ∃ g, bestGrade s g ∧ G < g) →
        exec .steeringInstant s =
          .next (endInstant (withoutP (if s.tb.state = .holdover then u else enterHoldover u G)))))

/-- The end of an instant (R20, steps 3 to 6; R11, R36, R37): the heard history takes the fresh marks, entries that have
reached sixteen intervals leave, the seed is emptied, the next instant is one interval after this one, and outside
listen-only the BEACON of what now stands is handed to the transmit queue. -/
def Obligations.InstantEndsInOrder : Prop :=
  ∀ s : State, ∃ t, endInstant s = t ∧
    t.tb = { s.tb with
      seed := none, interval := intervalNow s
      nextInstant := s.tb.nextInstant.map (addUs · ((intervalNow s : Int) * 1000000)) } ∧
    t.peers = { s.peers with
      entries :=
        (s.peers.entries.filter (fun e =>
          decide (diffUs s.tb.clock e.last < 16 * (e.interval : Int) * 1000000))).map (fun e =>
          { e with heardA := e.heardB, heardB := e.heardC, heardC := e.fresh, fresh := false }) } ∧
    (s.listenOnly = true → t.line = s.line) ∧
    (s.listenOnly = false → t.line =
      (s.line.offer (.beacon
        { state := s.tb.state, grade := s.tb.grade, code := intervalCode (intervalNow s), shed := s.bat.shed
          running := s.det.running, linePos := s.profile.linePos, east := s.profile.east, north := s.profile.north
          soc := s.soc, temp := s.sampler.latest.batTemp }) none).1) ∧
    t = { s with tb := t.tb, peers := t.peers, line := t.line }

/-- The grade of HOLDOVER (R6): captured on entry, it grows by one for each 1,024 s of age and each 5.0 °C of drift, up
to 14. -/
def Obligations.HoldoverGradeGrows : Prop :=
  (∀ (s : State) (g : Nat), g ≤ 14 → (enterHoldover s g).tb =
    { s.tb with
      state := .holdover, grade := max 1 g
      holdover := some ⟨max 1 g, s.sampler.latest.encTemp.getD 0, s.tb.clock⟩ }) ∧
    ∀ (s : State) (h : Holdover), s.tb.state = .holdover → s.tb.holdover = some h → 1 ≤ h.grade →
      (0 ≤ diffUs s.tb.clock h.time →
        ((reformGrade s).tb.grade : Int) =
          min 14 (h.grade + diffUs s.tb.clock h.time / 1000000 / 1024 +
            (match s.sampler.latest.encTemp with
              | none => 0
              | some x => |x - h.temp| / 50))) ∧
      reformGrade s = { s with tb := { s.tb with grade := (reformGrade s).tb.grade } }

/-- PPS_EDGE (R7 to R9): e is the signed distance of local time from the nearest whole second. After four consecutive
rejections the edge is a re-acquire edge, accepted in every state, whose step to the nearest whole second sets p to 0
and clears the accumulator. (An alignment step is made for e = 0 too: log entry 21.) -/
def Obligations.PpsEdgeActs : Prop :=
  ∀ (s : State) (k e : Int), s.awake = true → s.tb.clock.us ≤ 999999 → usOf s.tb.clock = k * 1000000 + e →
    -500000 ≤ e → e ≤ 499999 →
    ∀ (accept : State → State),
      (accept = fun u => { u with tb := { u.tb with ppsRun := 0, ppsLast := some u.tb.clock } }) →
    (s.profile.ppsEnable = false → exec .ppsEdge s = .next s) ∧
    (s.profile.ppsEnable = true →
      (s.tb.ppsRun = 4 →
        (stepClock s (-e)).tb.clock = addUs s.tb.clock (-e) ∧ (stepClock s (-e)).tb.p = 0 ∧
        (stepClock s (-e)).tb.residual = 0 ∧
        (s.tb.state = .unset → exec .ppsEdge s =
          .next (accept { stepClock s (-e) with tb := { (stepClock s (-e)).tb with ppsAligned := true } })) ∧
        (s.tb.state ≠ .unset → exec .ppsEdge s = .next (accept (withState (stepClock s (-e)) .anchored 0)))) ∧
      (s.tb.ppsRun ≠ 4 →
        (s.tb.state = .unset → s.tb.ppsAligned = false → exec .ppsEdge s =
          .next (accept { stepClock s (-e) with tb := { (stepClock s (-e)).tb with ppsAligned := true } })) ∧
        (s.tb.state = .unset → s.tb.ppsAligned = true → |e| ≤ (s.profile.ppsWindow : Int) * 1000 →
          exec .ppsEdge s = .next (accept (if e = 0 then s else stepClock s (-e)))) ∧
        (s.tb.state ≠ .unset → |e| ≤ (s.profile.ppsWindow : Int) * 1000 →
          exec .ppsEdge s = .next (accept
            (if e = 0 then withState s .anchored 0 else corrected (withState s .anchored 0) (-e) 1))) ∧
        ((s.tb.state = .unset → s.tb.ppsAligned = true) → (s.profile.ppsWindow : Int) * 1000 < |e| →
          exec .ppsEdge s = .next { s with
            tb := { s.tb with ppsRun := s.tb.ppsRun + 1, ppsRejects := min (s.tb.ppsRejects + 1) 65535 } })))

/-- Expiry (R20, R36, R37): within a steering instant, after any step on its path, after the shift of the heard history and
before the seed is emptied, exactly the entries whose age by the local time after that step is sixteen of their advertised
intervals or more leave; at no other time does an entry expire. PEER_EXPIRY is the instant at which one expires, with all the
instant's work, and nothing where none does: that is the model's choice, log entry 2. -/
def Obligations.PeersExpire : Prop :=
  ∀ s : State,
    ((∀ n, ¬instantDue s n) → exec .peerExpiry s = .next s) ∧
    ∀ n, instantDue s n → ∃ t, exec .steeringInstant s = .next t ∧ t.tb.seed = none ∧
      t.peers = { s.peers with
        entries :=
          (s.peers.entries.filter (fun e =>
            decide (diffUs t.tb.clock e.last < 16 * (e.interval : Int) * 1000000))).map (fun e =>
            { e with heardA := e.heardB, heardB := e.heardC, heardC := e.fresh, fresh := false }) } ∧
      ((∃ e ∈ s.peers.entries, 16 * (e.interval : Int) * 1000000 ≤ diffUs t.tb.clock e.last) →
        exec .peerExpiry s = .next t) ∧
      ((∀ e ∈ s.peers.entries, diffUs t.tb.clock e.last < 16 * (e.interval : Int) * 1000000) →
        exec .peerExpiry s = .next s)

/-! ### Received frames -/

/-- BEACON_RECEIVED stores a checked BEACON (R13, R14, R28, R30, R33, R34), with r as the receiver took it (R194): in its
sender's entry where the positions agree, in a free place for a sender without one, or in the place of the oldest entry, if
that is not live. -/
def Obligations.BeaconIsStored : Prop :=
  ∀ (s : State) (h : FrameHeader) (b : BeaconPayload) (r : ArrayTime) (st : TimeState) (x : Nat), peersInv s →
    x = h.sender.toNat → hears s r → heardFrom s x → x ≤ 239 → beaconFits b st →
    (∀ e ∈ s.peers.entries, e.id = x → e.conflict = false →
      (e.linePos = b.linePos.toNat ∧ e.east = b.east.toInt ∧ e.north = b.north.toInt) →
      ∃ seed, seedAfter s x b r st s.tb.seed seed ∧ exec (.beaconReceived h b) s = .next { renewed s with
        peers := { s.peers with
          entries := s.peers.entries.map (fun y => if y.id = x then filledBy s b r st y else y) }
        tb := { s.tb with seed := seed } }) ∧
    ((∀ e ∈ s.peers.entries, e.id ≠ x) → s.peers.entries.length < 24 →
      ∃ entries seed, seedAfter s x b r st s.tb.seed seed ∧
        (∀ e, e ∈ entries ↔ e = madeBy s x b r st ∨ e ∈ s.peers.entries) ∧
        entries.Pairwise (fun a b => a.id < b.id) ∧ exec (.beaconReceived h b) s = .next { renewed s with
          peers := { s.peers with entries := entries }, tb := { s.tb with seed := seed } }) ∧
    ∀ old, (∀ e ∈ s.peers.entries, e.id ≠ x) → s.peers.entries.length = 24 → oldestEntry s old → ¬peerLive s old →
      ∃ entries seed, seedAfter s x b r st (s.tb.seed.filter (fun y => y.sender != old.id)) seed ∧
        (∀ e, e ∈ entries ↔ e = madeBy s x b r st ∨ (e ∈ s.peers.entries ∧ e ≠ old)) ∧
        entries.Pairwise (fun a b => a.id < b.id) ∧ exec (.beaconReceived h b) s = .next { renewed s with
          peers := { s.peers with entries := entries }, tb := { s.tb with seed := seed } }

/-- BEACON_RECEIVED without a store (R28, R31, R32, R34): contents that fail a check, an entry in conflict, an entry that
enters conflict, and a full table whose oldest entry is live. -/
def Obligations.BeaconIsNotStored : Prop :=
  ∀ (s : State) (h : FrameHeader) (b : BeaconPayload) (r : ArrayTime) (x : Nat), peersInv s → x = h.sender.toNat →
    hears s r → heardFrom s x →
    ((240 ≤ x ∨ ∀ st, ¬beaconFits b st) → exec (.beaconReceived h b) s = .next { renewed s with
      peers := { s.peers with refused := min (s.peers.refused + 1) 65535 } }) ∧
    ∀ st, x ≤ 239 → beaconFits b st →
      (∀ e ∈ s.peers.entries, e.id = x → e.conflict = true → exec (.beaconReceived h b) s = .next { renewed s with
        peers := { s.peers with conflicts := min (s.peers.conflicts + 1) 65535 } }) ∧
      (∀ e ∈ s.peers.entries, e.id = x → e.conflict = false →
        ¬(e.linePos = b.linePos.toNat ∧ e.east = b.east.toInt ∧ e.north = b.north.toInt) →
        exec (.beaconReceived h b) s = .next { renewed s with
          peers := { s.peers with
            entries := s.peers.entries.map (fun y => if y.id = x then { y with conflict := true, fresh := false } else y)
            idConflict := true, conflicts := min (s.peers.conflicts + 1) 65535 }
          tb := { s.tb with seed := s.tb.seed.filter (fun y => y.sender != x) } }) ∧
      ∀ old, (∀ e ∈ s.peers.entries, e.id ≠ x) → s.peers.entries.length = 24 → oldestEntry s old → peerLive s old →
        exec (.beaconReceived h b) s = .next { renewed s with
          peers := { s.peers with full := min (s.peers.full + 1) 65535 } }

/-- PICK_FRAME_RECEIVED and the station's own pick (R78, R84 to R88): a malformed PICK is counted; after the ageing sweep a pick
too far ahead, too old or held already is counted; any other enters at its place, one of 32 entries giving way, and is
evaluated. The engine's choice at the end is log entry 13. -/
def Obligations.PickIsTested : Prop :=
  (∀ (s : State) (h : FrameHeader) (p : PickPayload) (x : Nat), picksInv s → x = h.sender.toNat → heardFrom s x →
    (¬pickFits x p → exec (.pickFrameReceived h p) s = .next (engineKick { renewed s with
      picks := { s.picks with malformed := min (s.picks.malformed + 1) 65535 } })) ∧
    (pickFits x p → ∃ t, exec (.pickFrameReceived h p) s = .next (engineKick t) ∧
      pickTaken (renewed s) (pickOf s x p) t)) ∧
  ∀ (s : State) (k : StationPick), picksInv s → pickTaken s (ownPick s k) (pickLocal s k)

/-- The velocity test (R90), its consequence for two picks of the same map position, and the bounds of its products. It
is made only between a pick and a first pick: a candidate set may hold two later members that fail it between them. -/
def Obligations.VelocityTest : Prop :=
  (∃ (s : State) (f m k : PickEntry), m ∈ candidateSet s f ∧ k ∈ candidateSet s f ∧
    consistent s.profile m.time (m.east, m.north) k.time (k.east, k.north) = false ∧
    consistent s.profile k.time (k.east, k.north) m.time (m.east, m.north) = false) ∧
  ∀ (p : Profile) (f q : ArrayTime) (place at_ : Int × Int) (dt eff dx dy : Int), dt = diffUs q f →
    eff = max 0 ((dt - p.slack) / 1000) → dx = at_.1 - place.1 → dy = at_.2 - place.2 →
    (consistent p f place q at_ = true ↔
      0 ≤ dt ∧ dt ≤ (p.window : Int) * 1000000 ∧ (eff * p.vMin) ^ 2 ≤ (dx ^ 2 + dy ^ 2) * 1000000) ∧
    (place = at_ → 0 < p.vMin →
      (consistent p f place q at_ = true ↔ 0 ≤ dt ∧ dt ≤ (p.window : Int) * 1000000 ∧ dt < p.slack + 1000)) ∧
    (p.window ≤ 30 → p.vMin ≤ 10000 → 0 ≤ dt → dt ≤ (p.window : Int) * 1000000 →
      eff ≤ 30000 ∧ (eff * p.vMin) ^ 2 ≤ 90000000000000000) ∧
    (|place.1| ≤ 32767 → |place.2| ≤ 32767 → |at_.1| ≤ 32767 → |at_.2| ≤ 32767 →
      |dx| ≤ 65534 ∧ |dy| ≤ 65534 ∧ (dx ^ 2 + dy ^ 2) * 1000000 < 8600000000000000)

/-- The candidate set of f (R95): f, then in list order one entry for each other origin that has an unassigned counted
entry consistent with f, the first of that origin in the list. K_needed (R94), which its size is held against, is formed from
the able count (R38), and lies from K_floor to K. -/
def Obligations.CandidateSetTakesOnePerOrigin : Prop :=
  (∀ (s : State) (f : PickEntry), ∃ others, candidateSet s f = f :: others ∧ others.Sublist s.picks.entries ∧
    ((f :: others).map PickEntry.origin).Nodup ∧
    (∀ m ∈ others, freePick s m ∧ consistent s.profile f.time (f.east, f.north) m.time (m.east, m.north) = true) ∧
    ∀ a x b, s.picks.entries = a ++ x :: b → freePick s x → x.origin ≠ f.origin →
      consistent s.profile f.time (f.east, f.north) x.time (x.east, x.north) = true →
      (∀ y ∈ a, ¬(y.origin = x.origin ∧ freePick s y ∧
        consistent s.profile f.time (f.east, f.north) y.time (y.east, y.north) = true)) → x ∈ others) ∧
  ∀ s : State, ∃ able : Nat,
    able = s.peers.entries.countP (fun e =>
        decide (diffUs s.tb.clock e.last < 3 * (e.interval : Int) * 1000000) && !e.conflict && e.running) +
      (if s.det.running = true then 1 else 0) ∧
    kNeeded s = max s.profile.kFloor (min s.profile.kVotes able) ∧
    (s.profile.kFloor ≤ s.profile.kVotes → s.profile.kFloor ≤ kNeeded s ∧ kNeeded s ≤ s.profile.kVotes) ∧
    (profileInv s → 2 ≤ kNeeded s ∧ kNeeded s ≤ 8)

/-- The evaluation of a new entry (R91 to R97, R99, R105 to R108): none at shed level 3 or in listen-only; an attachment to
the first event in key order that takes the entry, with its hold request (R119, R141); else a declaration by the first candidate
whose set reaches K_needed (R94, R95). It completes an ACTIVE entry of its key, and else makes an entry: in the place of an ENDED
one of its key; in a free place; in a full table in the place of the ENDED entry first in key order, with an OPENED report at the
uplink port (R117, R118); refused while all 8 are ACTIVE. Both then hand on the first ALERT frame (R113), whose refusal makes the
next due (R114), and make their hold request. Else nothing. The model's choices and inferences here: the report in transmission
is not among the 16 of the uplink queue, which decides whether a report joins or is dropped (log entry 20); a RELEASED record
that a hold request names takes the event's key (23); a completion of an entry declared here before (35); the own identifier
added to a list of 25 others (47); which of several held picks gives an event its position (48); and of several records that
hold a carried pick the least (52). -/
def Obligations.NewEntryIsEvaluated : Prop :=
  ∀ (s : State) (n : PickEntry), eventsInv s → picksInv s → directoryInv s → profileInv s → n ∈ s.picks.entries →
    n.assigned = none →
    ((s.bat.shed = 3 ∨ s.listenOnly = true) → evaluatePick s n = s) ∧
    (s.bat.shed ≠ 3 → s.listenOnly = false →
      (∀ e, attachable s n e → (∀ x, attachable s n x → x ≠ e → keyAhead e.key x.key) →
        ∃ rm answer, holdTaken s e.key (if s.ownId = some n.origin then [n.time] else []) rm answer ∧
          evaluatePick s n = { s with
            rm := rm
            picks := { s.picks with
              entries := s.picks.entries.map (fun y =>
                if y.origin = n.origin ∧ y.seq = n.seq then { y with assigned := some e.key } else y) }
            events := { s.events with
              entries := s.events.entries.map (fun z => if z.serial = e.serial
                then { e with
                  votes := e.votes ++ [n.origin], best := min e.best n.grade, amp := max e.amp n.amp
                  lastActivity := s.tb.clock, recordId := e.recordId.or answer }
                else z) } }) ∧
      ((∀ e, ¬attachable s n e) →
        ((∀ f, freePick s f → (candidateSet s f).length < kNeeded s) → evaluatePick s n = s) ∧
        ∀ a f b members, s.picks.entries = a ++ f :: b → freePick s f → kNeeded s ≤ (candidateSet s f).length →
          (∀ y ∈ a, freePick s y → (candidateSet s y).length < kNeeded s) → members = (candidateSet s f).take 24 →
          ∀ (key : Key) (picks : PickList) (own : List ArrayTime), key = ⟨f.origin, f.time⟩ →
          own = (members.filter (fun m => decide (s.ownId = some m.origin))).map PickEntry.time → picks = { s.picks with
            entries := s.picks.entries.map (fun y => if members.any (fun m => m.origin == y.origin && m.seq == y.seq)
              then { y with assigned := some key } else y)
            declared := min (s.picks.declared + 1) 65535 } →
          (noPlace s key → evaluatePick s n = { s with
            events := { s.events with declRefused := min (s.events.declRefused + 1) 65535 } }) ∧
          (placeFor s key → ∃ t, evaluatePick s n = t ∧
            t = { s with picks := picks, events := t.events, line := t.line, rm := t.rm } ∧
            (∀ e, staysFor s key e → e ∈ t.events.entries) ∧
            ∃ y ∈ t.events.entries, (∀ z ∈ t.events.entries, z = y ∨ staysFor s key z) ∧ y.key = key ∧
              y.active = true ∧ y.localDecl = true ∧ y.declaredBy = [s.own] ∧
              y.votes = members.map PickEntry.origin ∧ y.kNeeded = some (kNeeded s) ∧
              (∀ m ∈ members, y.best ≤ m.grade ∧ m.amp ≤ y.amp) ∧ (∃ m ∈ members, m.grade = y.best) ∧
              (∃ m ∈ members, m.amp = y.amp) ∧ y.position = some (f.east, f.north) ∧ y.lastActivity = s.tb.clock ∧
              reportFormed s 1 y t.events ∧ firstAlert s t y ∧ holdTaken s key own t.rm y.recordId) ∧
          ∀ e ∈ s.events.entries, e.key = key → e.active = true → ∃ t y, evaluatePick s n = t ∧
            t = { s with picks := picks, events := t.events, line := t.line, rm := t.rm } ∧
            t.events.entries = s.events.entries.map (fun z => if z.serial = e.serial then y else z) ∧
            y.serial = e.serial ∧ y.key = key ∧ y.active = true ∧ y.localDecl = true ∧
            y.declaredBy = (if s.own ∈ e.declaredBy then e.declaredBy else e.declaredBy ++ [s.own]) ∧
            joined e.votes (members.map PickEntry.origin) y.votes ∧ y.kNeeded = some (kNeeded s) ∧
            (∀ m ∈ members, y.best ≤ m.grade ∧ m.amp ≤ y.amp) ∧ y.best ≤ e.best ∧ e.amp ≤ y.amp ∧
            (y.best = e.best ∨ ∃ m ∈ members, m.grade = y.best) ∧ (y.amp = e.amp ∨ ∃ m ∈ members, m.amp = y.amp) ∧
            y.position = some (f.east, f.north) ∧ y.lastActivity = s.tb.clock ∧ firstAlert s t y ∧
            (∃ answer, holdTaken s key own t.rm answer ∧ y.recordId = e.recordId.or answer) ∧
            t.events.uplink = s.events.uplink ∧ t.events.sending = s.events.sending))

/-- ALERT_FRAME_RECEIVED without a match (R107, R109, R112, R120): a malformed ALERT, one in listen-only, one refused while all
8 entries are ACTIVE, and one that makes an ACTIVE entry, in a full table in the place of the ENDED entry first in key order,
with its OPENED report at the uplink port (R117, R118) and its hold request (R119, R141). (An ALERT of no origins or of more than
16 is a bad frame: FramesAreDiscarded.) That the report in transmission is not among the 16 of the uplink queue, which decides
whether the report joins or is dropped, is log entry 20; that a RELEASED record which the hold request names takes the event's
key is log entry 23; the engine's choice at the end is log entry 13. -/
def Obligations.AlertMakesEntry : Prop :=
  ∀ (s : State) (h : FrameHeader) (a : AlertPayload) (x : Nat), eventsInv s → directoryInv s →
    x = h.sender.toNat → heardFrom s x → 1 ≤ a.origins.length → a.origins.length ≤ 16 →
    ∀ key, key = ⟨a.keyOrigin.toNat, wireTime a.keyTime⟩ →
    (s.listenOnly = true → exec (.alertFrameReceived h a) s = .next (engineKick (renewed s))) ∧
    (s.listenOnly = false → ¬alertFits x a → exec (.alertFrameReceived h a) s = .next (engineKick { renewed s with
      events := { s.events with alertMalformed := min (s.events.alertMalformed + 1) 65535 } })) ∧
    (s.listenOnly = false → alertFits x a → (∀ e, ¬alertCandidate s a e) →
      (noPlace s key →
        exec (.alertFrameReceived h a) s = .next (engineKick { renewed s with
          events := { s.events with alertRefused := min (s.events.alertRefused + 1) 65535 } })) ∧
      (placeFor s key →
        ∃ t y kept, exec (.alertFrameReceived h a) s = .next (engineKick t) ∧
          t = { renewed s with events := t.events, rm := t.rm } ∧ t.events.entries = kept ++ [y] ∧
          kept.Sublist s.events.entries ∧ (∀ e, e ∈ kept ↔ staysFor s key e) ∧
          y.key = key ∧
          y.active = true ∧ y.votes = a.origins.map BitVec.toNat ∧ y.declaredBy = [x] ∧ y.localDecl = false ∧
          y.kNeeded = none ∧ y.best = a.best.toNat ∧ y.amp = a.amp.toNat ∧ y.position = none ∧
          y.lastActivity = s.tb.clock ∧ y.repeatsLeft = 0 ∧ y.repeatDue = none ∧
          reportFormed s 1 y t.events ∧ holdTaken s key [] t.rm y.recordId))

/-- ALERT_FRAME_RECEIVED with a match (R110, R111): the first from a sender is merged into an ACTIVE entry, a repeat only
renews its last activity, and an ALERT for an ENDED entry is late. A merge that gains an origin makes a hold request (R119,
R141). The model's choices: of two entries with the ALERT's key time the one with the lower key origin is matched, though the
other's key be the ALERT's own (log entry 57); a late ALERT's best grade and amplitude class are merged with its origins (51); a
RELEASED record that the hold request names takes the event's key (23); and the engine's choice at the end (13). -/
def Obligations.AlertIsMerged : Prop :=
  ∀ (s : State) (h : FrameHeader) (a : AlertPayload) (x : Nat) (e : EventEntry), eventsInv s → directoryInv s →
    x = h.sender.toNat → heardFrom s x → s.listenOnly = false → alertFits x a → alertMatch s a e →
    (e.active = true → x ∈ e.declaredBy → exec (.alertFrameReceived h a) s = .next (engineKick { renewed s with
      events := { s.events with
        entries := s.events.entries.map (fun y => if y.serial = e.serial then { y with lastActivity := s.tb.clock } else y) } })) ∧
    (e.active = true → x ∉ e.declaredBy → ∃ t y, exec (.alertFrameReceived h a) s = .next (engineKick t) ∧
      t = { renewed s with
        rm := t.rm
        events := { s.events with
          entries := s.events.entries.map (fun z => if z.serial = e.serial then y else z)
          alertLine := t.events.alertLine } } ∧
      (y.votes = e.votes → t.rm = s.rm ∧ y.recordId = e.recordId) ∧
      (y.votes ≠ e.votes → ∃ answer, holdTaken s e.key [] t.rm answer ∧ y.recordId = e.recordId.or answer) ∧
      y.key = e.key ∧ y.active = true ∧ joined e.votes (a.origins.map BitVec.toNat) y.votes ∧
      y.declaredBy = (if e.declaredBy.length < 25 then e.declaredBy ++ [x] else e.declaredBy) ∧
      y.best = min e.best a.best.toNat ∧ y.amp = max e.amp a.amp.toNat ∧ y.lastActivity = s.tb.clock ∧
      y.localDecl = e.localDecl ∧ y.position = e.position ∧ y.repeatsLeft = e.repeatsLeft) ∧
    (e.active = false → ∃ t y, exec (.alertFrameReceived h a) s = .next (engineKick t) ∧
      t = { renewed s with events := { s.events with
        entries := s.events.entries.map (fun z => if z.serial = e.serial then y else z)
        alertLate := min (s.events.alertLate + 1) 65535 } } ∧
      (x ∈ e.declaredBy → y = e) ∧
      (x ∉ e.declaredBy → ∃ votes, joined e.votes (a.origins.map BitVec.toNat) votes ∧ y = { e with
        votes := votes, best := min e.best a.best.toNat, amp := max e.amp a.amp.toNat
        declaredBy := if e.declaredBy.length < 25 then e.declaredBy ++ [x] else e.declaredBy }))

/-- Frames that reach no block (R29, R194 to R196). Nothing is taken unless a delimiter was heard. A frame that fails a check,
and an ALERT of no origins or of more than 16, is discarded and counted; BAD_FRAME with a good frame changes nothing (log
entry 4). A frame with the own identifier latches OWN ID CONFLICT, whatever its kind (log entry 27); and FRAME_NOT_HANDED_ON
counts a bad sender or an unknown kind, or else only renews the line-quiet timer. That a frame is taken whole, at its end, is
log entry 16. -/
def Obligations.FramesAreDiscarded : Prop :=
  ∀ (s : State) (f : HeardBytes) (h : FrameHeader) (b : BeaconPayload) (p : PickPayload) (a : AlertPayload)
    (kind sender target : Byte),
    ((∀ r, ¬hears s r) → exec (.badFrame f) s = .next s ∧ exec (.beaconReceived h b) s = .next s ∧
      exec (.pickFrameReceived h p) s = .next s ∧ exec (.alertFrameReceived h a) s = .next s ∧
      exec (.frameNotHandedOn kind sender target) s = .next s) ∧
    ∀ r bad own, hears s r →
      bad = { s with line := { s.line with rx := .discarded, badFrame := min (s.line.badFrame + 1) 65535 } } →
      own = { renewed s with
        peers := { s.peers with ownIdConflict := true, ownId := min (s.peers.ownId + 1) 65535 } } →
      (frameGood f → exec (.badFrame f) s = .next s) ∧ (¬frameGood f → exec (.badFrame f) s = .next bad) ∧
      ((a.origins = [] ∨ 16 < a.origins.length) → exec (.alertFrameReceived h a) s = .next bad) ∧
      (s.ownId = some h.sender.toNat → 1 ≤ h.sender.toNat → h.sender.toNat ≤ 239 →
        exec (.beaconReceived h b) s = .next own ∧ exec (.pickFrameReceived h p) s = .next own ∧
          (1 ≤ a.origins.length → a.origins.length ≤ 16 → exec (.alertFrameReceived h a) s = .next own)) ∧
      (s.ownId = some sender.toNat → 1 ≤ sender.toNat → sender.toNat ≤ 239 →
        exec (.frameNotHandedOn kind sender target) s = .next { own with line := { own.line with
          badSender := if kind.toNat = 4 then min (s.line.badSender + 1) 65535 else s.line.badSender
          unknownKind := if kind.toNat = 0 ∨ 6 ≤ kind.toNat then min (s.line.unknownKind + 1) 65535
            else s.line.unknownKind } }) ∧
      (s.ownId ≠ some sender.toNat →
        ((sender.toNat = 0 ∨ sender.toNat = 255 ∨ (kind.toNat = 4 ∧ sender.toNat ≤ 239)) →
          exec (.frameNotHandedOn kind sender target) s = .next { s with line := { s.line with
            rx := .hunting, badSender := min (s.line.badSender + 1) 65535 } }) ∧
        (1 ≤ sender.toNat → sender.toNat ≤ 254 →
          ((kind.toNat = 0 ∨ 6 ≤ kind.toNat) → exec (.frameNotHandedOn kind sender target) s = .next { s with
            line := { s.line with rx := .hunting, unknownKind := min (s.line.unknownKind + 1) 65535 } }) ∧
          ((kind.toNat = 5 ∨ (kind.toNat = 4 ∧ 240 ≤ sender.toNat ∧ s.ownId ≠ some target.toNat)) →
            exec (.frameNotHandedOn kind sender target) s = .next (renewed s)) ∧
          (((1 ≤ kind.toNat ∧ kind.toNat ≤ 3) ∨
              (kind.toNat = 4 ∧ 240 ≤ sender.toNat ∧ s.ownId = some target.toNat)) →
            exec (.frameNotHandedOn kind sender target) s = .next s)))

/-! ### The line -/

/-- A frame handed to the transmit queue (R188 to R190): a BEACON with a BEACON queued replaces it, or is skipped while
that one is in transmission; with room a frame takes its place; a full queue gives up the oldest frame of its lowest
waiting priority for a frame of higher priority, or refuses. A new head begins access afresh. Where the head is a stopped frame
before others of higher priority, a frame's place is log entry 17 (the model's inference). -/
def Obligations.QueueTakesFrames : Prop :=
  (∀ (s : State) (f : Frame) (querySeq : Option Nat) (r : Offer) (m : Line), s.line.offer f querySeq = (m, r) →
    offerFrame s f querySeq = { s with line := m }) ∧
  ∀ (l m : Line) (f : Frame) (querySeq : Option Nat) (r : Offer) (q : QFrame) (seq : Nat),
    (l.access = .idle ↔ l.queue = []) → l.offer f querySeq = (m, r) → q = ⟨f, querySeq.getD l.seq, 0⟩ →
    seq = (if querySeq = none then (l.seq + 1) % 256 else l.seq) →
    ((f.isBeacon = true ∧ ∃ x ∈ l.queue, x.isBeacon = true) →
      ((l.sending = true ∧ ∃ x, l.queue.head? = some x ∧ x.isBeacon = true) →
        r = .skipped ∧ m = { l with skipped := min (l.skipped + 1) 65535 }) ∧
      (¬(l.sending = true ∧ ∃ x, l.queue.head? = some x ∧ x.isBeacon = true) →
        r = .accepted ∧ ∃ a0 a mid new, leavesAfter l.sending (fun x => x.isBeacon = true) a0 l.queue mid ∧
          entersAfter l.sending q a mid new ∧ m = { l with
            queue := new, seq := seq, replaced := min (l.replaced + 1) 65535
            access := if a0 = [] ∨ a = [] then .waiting else l.access })) ∧
    (¬(f.isBeacon = true ∧ ∃ x ∈ l.queue, x.isBeacon = true) →
      (l.queue.length < 8 → r = .accepted ∧ ∃ a new, entersAfter l.sending q a l.queue new ∧ m = { l with
        queue := new, seq := seq, access := if a = [] then .waiting else l.access }) ∧
      (8 ≤ l.queue.length →
        ((∀ x ∈ waitingOf l.sending l.queue, f.priority ≤ x.frame.priority) →
          r = .refused ∧ m = { l with refused := min (l.refused + 1) 65535 }) ∧
        (∀ p, (∀ x ∈ waitingOf l.sending l.queue, p ≤ x.frame.priority) →
          (∃ x ∈ waitingOf l.sending l.queue, x.frame.priority = p) → p < f.priority →
          r = .accepted ∧ ∃ a0 a mid new, leavesAfter l.sending (fun x => x.frame.priority = p) a0 l.queue mid ∧
            entersAfter l.sending q a mid new ∧ m = { l with
              queue := new, seq := seq, displaced := min (l.displaced + 1) 65535
              access := if a0 = [] ∨ a = [] then .waiting else l.access })))

/-- Access to the line and the bits of a frame (R12, R186, R187, R190, R194). IDLE_GAP_MET draws a back-off of the attempt's
range once the idle time has reached the gap, and BACKOFF_EXPIRY begins the frame after its slots. LINE_TURNS_BUSY returns a
frame that backs off to its gap, and a delimiter that it brings while the receiver hunts begins a frame. The nominal
microseconds carry the back-off and the frame on, and a BEACON takes its departure stamp from local time as its start
delimiter leaves, 320 µs after its first start bit. A frame's fields stand where R216 lays them out, with the CRC of the bytes
between the delimiter and it. The draw is free (log entry 8); bit times are counted in nominal microseconds (log entry 15). -/
def Obligations.AccessProceeds : Prop :=
  (∀ (s : State) (q : QFrame) (rest : List QFrame), s.awake = true → s.line.queue = q :: rest →
    (s.line.access = .waiting →
      (s.line.silence < 160 + gapOf q → exec .idleGapMet s = .next s) ∧
      (160 + gapOf q ≤ s.line.silence → ∃ k, k < 2 ^ min (q.attempts + 1) (if q.frame.priority = 2 then 3 else 6) ∧
        exec .idleGapMet s = .next { s with
          line := { s.line with access := .backoff (128 * k) }, freeCount := s.freeCount + 1 })) ∧
    (∀ left, s.line.access = .backoff left →
      (left ≠ 0 → exec .backoffExpiry s = .next s) ∧
      (left = 0 → exec .backoffExpiry s = .next { s with line := { s.line with
        rx := .hunting, silence := 0, access := .transmitting 0 none, driven := some (frameLevels s.own q none) } }) ∧
      (s.line.rx ≠ .deaf → (lineTick s) = { s with line := { s.line with
        silence := silenceAfter s.line false, access := .backoff (left - 1) } })) ∧
    ∀ e stamp, s.line.access = .transmitting e stamp → e < frameUs q → s.line.rx ≠ .deaf →
      ∀ next, next = { s with line := { s.line with
          silence := silenceAfter s.line (decide ((e + 1) % 160 = 0 ∧ e + 1 < frameUs q))
          access := .transmitting (e + 1) stamp } } →
        ((e + 1 = 320 ∧ q.isBeacon = true ∧ stamp = none) → lineTick s = { next with line := { next.line with
          access := .transmitting 320 (some s.tb.clock), driven := some (frameLevels s.own q (some s.tb.clock)) } }) ∧
        (¬(e + 1 = 320 ∧ q.isBeacon = true ∧ stamp = none) → lineTick s = next)) ∧
  (∀ s : State,
    (s.line.rx = .deaf → s.line.sending = false → lineTick s = s) ∧
    (s.line.rx ≠ .deaf → (s.line.access = .idle ∨ s.line.access = .waiting ∨
        ∃ q e stamp, s.line.queue.head? = some q ∧ s.line.access = .transmitting e stamp ∧ e = frameUs q) →
      lineTick s = { s with line := { s.line with silence := silenceAfter s.line false } })) ∧
  (∀ (s : State) (delimiter : Bool) (rx : RxState), s.awake = true →
    ((s.line.rx = .deaf ∨ s.line.sending = true) → exec (.lineTurnsBusy delimiter) s = .next s) ∧
    (s.line.rx ≠ .deaf → s.line.sending = false →
      rx = (if s.line.rx = .hunting ∨ 160 ≤ s.line.silence
        then (if delimiter = true then .taking s.tb.clock else .hunting) else s.line.rx) →
      exec (.lineTurnsBusy delimiter) s = .next { s with line := { s.line with
        rx := rx, silence := 0
        access := match s.line.access with
          | .backoff _ => .waiting
          | x => x } })) ∧
  (∀ (s : State) (e : Nat) (stamp : Option ArrayTime) (levels : List Bool), s.awake = true →
    s.line.access = .transmitting e stamp → s.line.driven = some levels → s.pins.line = levels[e / 16]?) ∧
  ∀ (own : Nat) (q : QFrame) (t : ArrayTime), frameUs q = 160 * (frameBytes own q t).length ∧
    fieldsStand (frameFields own q t (crc16 (((frameBytes own q t).drop 3).dropLast.dropLast))) (frameBytes own q t) ∧
    serialForm (frameBytes own q t) (frameLevels own q (some t)) ∧
    (q.isBeacon = false → frameLevels own q none = frameLevels own q (some timeZero)) ∧
    (q.isBeacon = true → serialForm [0x55#8, 0x55#8] (frameLevels own q none))

/-- The end of a transmission (R113, R114, R191 to R193): FRAME_SENT takes the frame from the queue once its last stop bit has
left; MISMATCH, while a recessive bit is driven, fails the attempt, after which the frame stays at the head of the queue and
waits for its gap again, or is dropped at its limit. An ALERT's completion makes the next repeat due 2 s later while repeats
remain and its entry is ACTIVE. -/
def Obligations.TransmissionEnds : Prop :=
  ∀ (s : State) (q : QFrame) (rest : List QFrame) (e : Nat) (stamp : Option ArrayTime) (left : Line), s.awake = true →
    s.line.queue = q :: rest → s.line.access = .transmitting e stamp →
    left = { s.line with queue := rest, access := (if rest = [] then .idle else .waiting), driven := none } →
    ∀ due : Nat → List EventEntry, (due = fun serial => s.events.entries.map (fun e =>
      if e.serial = serial ∧ e.active = true ∧ 0 < e.repeatsLeft
      then { e with repeatDue := some (addUs s.tb.clock 2000000) } else e)) →
    (e < frameUs q → exec .frameSent s = .next s) ∧
    (frameUs q ≤ e → ∀ sent, sent = { left with sent := min (s.line.sent + 1) 65535 } →
      ((∀ a, q.frame ≠ .alert a) → exec .frameSent s = .next { s with line := sent }) ∧
      ∀ a, q.frame = .alert a → exec .frameSent s = .next { s with
        line := sent, events := { s.events with entries := due a.serial } }) ∧
    (s.pins.line ≠ some true → exec .mismatch s = .next s) ∧
    (s.pins.line = some true → ∀ limit, limit = (if q.frame.priority = 2 then 16 else 12) →
      (q.attempts + 1 < limit → exec .mismatch s = .next { s with line := { s.line with
        collisions := min (s.line.collisions + 1) 65535, access := .waiting, driven := none
        queue := { q with attempts := q.attempts + 1 } :: rest } }) ∧
      (limit ≤ q.attempts + 1 → ∀ dropped, dropped = { left with
          collisions := min (s.line.collisions + 1) 65535, dropped := min (s.line.dropped + 1) 65535 } →
        ((∀ a, q.frame ≠ .alert a) → exec .mismatch s = .next { s with line := dropped }) ∧
        ∀ a, q.frame = .alert a → exec .mismatch s = .next { s with
          line := dropped
          events := { s.events with
            entries := due a.serial, sendFailed := min (s.events.sendFailed + 1) 65535 } }))

/-- SECTION_RESET (R24, R40, R100, R196): 300 s after the last valid frame the quiet mark is set, the Peer Table is
emptied, the Pick List keeps the own entries, and a FOLLOWING or CONSENSUS station enters HOLDOVER. While the quiet mark
stands, or where there is no last valid frame, there is no reset. That a row of its own tests the silence at present local time,
outside a tick, and changes nothing before, is log entry 2. -/
def Obligations.SectionResets : Prop :=
  (∀ s : State, (s.line.quiet = true ∨ s.line.lastValid = none) → exec .sectionReset s = .next s) ∧
  ∀ (s u : State) (v : Int), s.awake = true → s.line.quiet = false → s.line.lastValid = some v →
    u = { s with
      line := { s.line with quiet := true, sectionResets := min (s.line.sectionResets + 1) 65535 }
      peers := { s.peers with entries := [] }
      picks := { s.picks with entries := s.picks.entries.filter (fun e => decide (s.ownId = some e.origin)) }
      tb := { s.tb with seed := s.tb.seed.filter (fun x => s.peers.entries.all (fun e => e.id != x.sender)) } } →
    (usOf s.tb.clock - v < 300000000 → exec .sectionReset s = .next s) ∧
    (300000000 ≤ usOf s.tb.clock - v →
      ((s.tb.state = .following ∨ s.tb.state = .consensus) →
        exec .sectionReset s = .next (withoutP (enterHoldover u s.tb.grade))) ∧
      (¬(s.tb.state = .following ∨ s.tb.state = .consensus) → exec .sectionReset s = .next u))

/-! ### Sampling and detection -/

/-- SAMPLE_TICK (R22, R41 to R52, R55): the tick due is issued; the sweeps and tests of a tick are made, each as its own row
or statement gives it (PICK_AGED, EVENT_END and ALERT_REPEAT_DUE in SweepsAct, the schedule test in SnapshotsFallDue,
SECTION_RESET in SectionResets); the channels are powered by the shed level; the slot's input is converted; outside level 3 and
listen-only a set is formed, the displacement of the oldest set of a full ring is announced (R52, R138; CapturesStartAndClose),
the set enters the ring, the capture takes what it can (R134; CaptureTakesSets) and the Detector gets the set (R62;
DetectorTakesSet); and the result is handed to the input's readers (HousekeepingResultsAct). The clip and bad-code counters
follow (R55). The order of the sweeps (R88, R114, R115, R164, R196), which come first, is log entry 11, that their rows act on
what is due now log entry 2, that the capture takes a set before the Detector log entry 56, and the engine's choice at the end
of each part log entry 13. -/
def Obligations.SampleTickConverts : Prop :=
  ∀ (s : State) (inp : TickInput) (n next : ArrayTime) (wanted : Channel → Bool) (count : Channel → Nat)
    (bad : Bool) (r : Option Int), s.awake = true →
    s.tb.nextTick = some n → 0 ≤ diffUs s.tb.clock n →
    next = addUs n (if s.bat.shed = 3 then 1000000
      else if s.profile.rateCode = 0 then 20000 else if s.profile.rateCode = 1 then 10000 else 5000) →
    (∀ c, wanted c = true ↔ s.listenOnly = false ∧ (s.bat.shed ≤ 1 ∨ (s.bat.shed = 2 ∧ c = .z))) →
    (∀ c, count c = if wanted c = true then (if s.sampler.powered.get c = true then s.sampler.settling.get c else 64)
      else if s.sampler.powered.get c = true then 0 else s.sampler.settling.get c) →
    (bad = true ↔ (s.sampler.slot = .batTemp ∨ s.sampler.slot = .encTemp) ∧ (inp.hk = 0 ∨ inp.hk = 4095)) →
    r = (if bad = true then none else some (scaled s.sampler.slot (inp.hk.toNat : Int))) →
    ∃ t aged ended repeated tested swept : State, exec (.sampleTick inp) s = .next t ∧
      exec .pickAged { s with tb := { s.tb with lastTick := some n, nextTick := some next } } = .next aged ∧
      exec .eventEnd aged = .next ended ∧ exec .alertRepeatDue ended = .next repeated ∧
      exec .sectionReset (scheduleTest repeated) = .next tested ∧ swept = engineKick tested ∧
      t.tb.lastTick = some n ∧ ((t.bat.shed = 3 ↔ s.bat.shed = 3) → t.tb.nextTick = some next) ∧
      (∀ c, t.sampler.powered.get c = wanted c) ∧
      (s.sampler.slot, t.sampler.slot) ∈ [(HkInput.batVolt, HkInput.batCurr), (.batCurr, .batTemp), (.batTemp, .encTemp),
        (.encTemp, .heatCurr), (.heatCurr, .srcVolt), (.srcVolt, .batVolt)] ∧
      (∀ i, i ≠ s.sampler.slot → latestOf t.sampler.latest i = latestOf s.sampler.latest i) ∧
      latestOf t.sampler.latest s.sampler.slot = (if bad = true then latestOf s.sampler.latest s.sampler.slot else r) ∧
      t.sampler.batterySensor = (if s.sampler.slot = .batTemp then bad else s.sampler.batterySensor) ∧
      t.sampler.enclosureSensor = (if s.sampler.slot = .encTemp then bad else s.sampler.enclosureSensor) ∧
      t.sampler.badBattery = (if s.sampler.slot = .batTemp ∧ bad = true then min (s.sampler.badBattery + 1) 65535
        else s.sampler.badBattery) ∧
      t.sampler.badEnclosure = (if s.sampler.slot = .encTemp ∧ bad = true then min (s.sampler.badEnclosure + 1) 65535
        else s.sampler.badEnclosure) ∧
      (¬detectorIsOn s → t.sampler.ring = s.sampler.ring ∧ t.sampler.nextSet = s.sampler.nextSet ∧
        (∀ c, t.sampler.clips.get c = s.sampler.clips.get c) ∧
        (∀ c, t.sampler.settling.get c = count c) ∧
        t = engineKick (hkReaders { swept with sampler := t.sampler } s.sampler.slot n r)) ∧
      (detectorIsOn s → ∃ x, t.sampler.ring = x :: s.sampler.ring.take 4095 ∧
        t.sampler.nextSet = (s.sampler.nextSet + 1) % 4294967296 ∧ x.stamp = n ∧
        (∀ c, t.sampler.settling.get c = count c - 1 ∧
          t.sampler.clips.get c = (if (x.words.get c).clipped = true then min (s.sampler.clips.get c + 1) 65535
            else s.sampler.clips.get c) ∧
          wordFits (rawOf inp c) (wanted c) (decide (0 < count c)) (x.words.get c) ∧
          (x.words.get c).stepped = s.tb.stepped ∧
          ((x.words.get c).guard = true ↔
            ∃ g, s.det.guard = some g ∧ 0 ≤ diffUs n g.opens ∧ diffUs n g.ends < 0)) ∧
        ∀ formed announced : State, formed = { swept with sampler := { t.sampler with
            ring := s.sampler.ring, nextSet := s.sampler.nextSet } } →
          announced = (if s.sampler.ring.length < 4096 then formed
            else announceDisplaced formed ((s.sampler.nextSet + 4294967296 - 4096) % 4294967296)) →
          t = engineKick (hkReaders (engineKick (detectSet (captureTake { announced with sampler := t.sampler }) x))
            s.sampler.slot n r))

/-- A housekeeping result at its readers (R50): the anchors, the charge counter, the shed level and write permission (R153 to
R160), the charge permit before the heater's evaluation (R161), tc and the HOLDOVER grade (R4, R6), and the heater-current
checks with the heater draw (R162, R179). That the full anchor acts before the empty one is log entry 45, that the residual
becomes 0 at a later lowering too log entry 53, and that permission follows the shed evaluation log entry 12. -/
def Obligations.HousekeepingResultsAct : Prop :=
  ∀ (s : State) (t : ArrayTime),
    (∀ r f e u, delayAt s.bat.full (fullHolds s) s.tb.clock 600000000 f →
      delayAt s.bat.empty (emptyHolds s) s.tb.clock 60000000 e → u = evaluateShed (emptyActed (fullActed s f) e) →
      ∃ w, permissionIs u u.bat.shed w ∧
        hkReaders s .batVolt t r = { u with bat := { u.bat with permission := w } }) ∧
    (∀ i b f, chargeCounted s t i b → delayAt b.full (fullHolds s) s.tb.clock 600000000 f →
      hkReaders s .batCurr t (some i) = evaluateShed (fullActed { s with bat := b } f)) ∧
    (∀ level w bat, s.bat.shed < level → entryHolds s level → (∀ k, level < k → ¬entryHolds s k) →
      permissionIs s level w →
      bat = { s.bat with
        shed := level, exit := ⟨none, false⟩, permission := w, shedRaises := min (s.bat.shedRaises + 1) 65535 } →
      (level ≠ 3 → evaluateShed s = dueSnapshot { s with bat := bat } .shed) ∧
      (level = 3 → ∃ next, evaluateShed s = dueSnapshot (closeAtOnce (detectorOff
          { s with bat := bat, tb := { s.tb with nextTick := next } }) .power) .shed ∧
        (s.tb.lastTick = none → next = s.tb.nextTick) ∧
        ∀ last n : Int, s.tb.lastTick.map usOf = some last → 1000000 ∣ n → last < n → n ≤ last + 1000000 →
          next = some (ofUs n))) ∧
    ((∀ k, s.bat.shed < k → ¬entryHolds s k) →
      (s.bat.shed = 0 → evaluateShed s = s) ∧
      ∀ d, 1 ≤ s.bat.shed → s.bat.shed ≤ 3 → delayAt s.bat.exit (exitHolds s s.bat.shed) s.tb.clock 300000000 d →
        (d.isMet = false → evaluateShed s = { s with bat := { s.bat with exit := d } }) ∧
        (d.isMet = true → ∀ w, permissionIs s (s.bat.shed - 1) w → shedLowered s w (evaluateShed s))) ∧
    (∀ r permit, permitAfter s r permit → hkReaders s .batTemp t r = heaterEvaluate { s with bat := { s.bat with
      permit := permit
      permitDrops := if s.bat.permit = true ∧ permit = false then min (s.bat.permitDrops + 1) 65535
        else s.bat.permitDrops } } t r) ∧
    hkReaders s .encTemp t none = reformGrade s ∧
    (∀ x y, offsetAt s.profile x y →
      hkReaders s .encTemp t (some x) = reformGrade { s with tb := { s.tb with tc := max (-50000) (min 50000 (-y)) } }) ∧
    (∀ (i : Nat) (b : Battery) (u : State) (due : Prop), drawCounted s t i b → u = { timesHeld s t with bat := b } →
      (due ↔ 1000000 ≤ diffUs t (heldAt t s.heat.since)) →
      (s.heat.on = true → s.heat.openCheck = true → due →
        (i < s.profile.heaterMinMa → hkReaders s .heatCurr t (some (i : Int)) = heatFoundOpen u t) ∧
        (s.profile.heaterMinMa ≤ i →
          hkReaders s .heatCurr t (some (i : Int)) = { u with heat := { u.heat with openCheck := false } })) ∧
      (s.heat.on = true → ¬(s.heat.openCheck = true ∧ due) → hkReaders s .heatCurr t (some (i : Int)) = u) ∧
      (s.heat.on = false →
        (due → s.profile.heaterMinMa / 4 < i →
          hkReaders s .heatCurr t (some (i : Int)) = { u with heat := { u.heat with stuck := true } }) ∧
        (¬(due ∧ s.profile.heaterMinMa / 4 < i) → hkReaders s .heatCurr t (some (i : Int)) = u))) ∧
    ∀ r, hkReaders s .srcVolt t r = s

/-- The Heater Controller's evaluation at a battery-temperature conversion (R171 to R178, R181, R182): the held times, the
stopwatch, the exposure-reset on-delay and an old HEATER OPEN first; then the forced-off tests; then the demand, the wanted
state, the least-time rule and the deferral rule. That an on-delay already met stays met when its start is moved is log
entry 44. -/
def Obligations.HeaterIsEvaluated : Prop :=
  ∀ (s u : State) (t : ArrayTime) (r : Option Int) (want : Bool), s.bat.shed ≤ 3 → heaterPrepared s u t r →
    (∀ x, r = some x → wantedIs u x want) → (r = none → want = false) →
    (∀ cause, u.heat.on = true → forcedBy u t r cause → heaterEvaluate s t r = heatForcedOff u t cause) ∧
    ((u.heat.on = true → ∀ cause, ¬forcedBy u t r cause) →
      (want = u.heat.on → heaterEvaluate s t r = { u with heat := { u.heat with deferral := none } }) ∧
      (want ≠ u.heat.on → ¬leastTimeOver u t → heaterEvaluate s t r = u) ∧
      (want ≠ u.heat.on → leastTimeOver u t →
        (¬heldByQuiet u r → heaterEvaluate s t r = heatSwitched u t want) ∧
        (heldByQuiet u r →
          (u.heat.deferral = none → heaterEvaluate s t r = { u with heat := { u.heat with
            deferral := some t, deferred := min (u.heat.deferred + 1) 65535 } }) ∧
          ∀ d, u.heat.deferral = some d →
            (diffUs t d < (s.profile.deferMax : Int) * 1000000 → heaterEvaluate s t r = u) ∧
            ((s.profile.deferMax : Int) * 1000000 ≤ diffUs t d →
              heaterEvaluate s t r = { heatSwitched u t want with heat := { (heatSwitched u t want).heat with
                expired := min (u.heat.expired + 1) 65535 } }))))

/-- A sample set at the Detector (R62, R69, R72 to R78): the channels with the long-trigger counter, the effective vote,
the station trigger and the running flag; the vote first met forms a station pick, but for the guard interval and the
repick gap. The pick takes the earliest onset, of equal ones the first in the order Z, N, E, and is handed to the Record
Memory, to the Pick List and to the Line Controller, in that order. -/
def Obligations.DetectorTakesSet : Prop :=
  ∀ (s t : State) (x : SampleSet) (v : Nat) (chan : PerChan ChanDet) (runs : List RunMarks), t = detectSet s x →
    (∀ c, chan.get c = ((s.det.chan.get c).step s.profile s.tb.grade x.stamp (x.words.get c)).1) →
    v = min (min s.profile.chanVote (x.words.count (·.powered))) (if s.bat.shed = 2 then 1 else 3) →
    s.profile.chanVote ≤ 3 →
    runs = [chan.z, chan.n, chan.e].filterMap (fun c => if inTrigger c = true then c.run else none) →
    ∀ noPick : Prop, (noPick ↔ t.det.formed = s.det.formed ∧ t.det.pickSeq = s.det.pickSeq ∧
      t.det.prevPick = s.det.prevPick ∧ t = { s with det := t.det }) →
    t.det.chan = chan ∧ t.det.vote = some v ∧ t.det.lastSet = some x.stamp ∧
      t.det.longTrig = min (s.det.longTrig +
        [Channel.z, .n, .e].countP (fun c => ((s.det.chan.get c).step s.profile s.tb.grade x.stamp (x.words.get c)).2)) 65535 ∧
      (t.det.trigger = true ↔ detectorIsOn s ∧ v ≤ chan.count inTrigger) ∧
      (t.det.running = true ↔ detectorIsOn s ∧ v ≤ chan.count couldVote) ∧
      (s.det.trigger = t.det.trigger → noPick) ∧
      (s.det.trigger = true → t.det.trigger = false →
        t.det.formed = s.det.formed ∧ t = captureTriggerEnd { s with det := t.det } x.stamp) ∧
      (s.det.trigger = false → t.det.trigger = true →
        (x.words.z.guard = true → noPick ∧ t.det.guardSup = min (s.det.guardSup + 1) 65535) ∧
        (x.words.z.guard = false →
          (runs = [] → noPick) ∧
          ∀ a first b, runs = a ++ first :: b → (∀ r ∈ a, usOf first.onset < usOf r.onset) →
            (∀ r ∈ b, usOf first.onset ≤ usOf r.onset) →
            ((∃ p, s.det.prevPick = some p ∧ |diffUs first.onset p| < (s.profile.repickGap : Int) * 1000000) →
              noPick ∧ t.det.repickSup = min (s.det.repickSup + 1) 65535) ∧
            ((∀ p, s.det.prevPick = some p → (s.profile.repickGap : Int) * 1000000 ≤ |diffUs first.onset p|) →
              t.det.formed = min (s.det.formed + 1) 65535 ∧ t.det.pickSeq = (s.det.pickSeq + 1) % 256 ∧
                t.det.prevPick = some first.onset ∧
                ∃ k, t = offerFrame (pickLocal (capturePick { s with det := t.det } k.onset) k)
                    (.pick k s.profile.east s.profile.north) none ∧ k.seq = s.det.pickSeq ∧
                  k.onset = first.onset ∧ k.grade = first.grade ∧ (∀ c, k.mask.get c = inTrigger (chan.get c)) ∧
                  (∀ r ∈ runs, r.peak < 2 ^ (k.amp + 1)) ∧ ((∃ r ∈ runs, 2 ^ k.amp ≤ r.peak) ∨ k.amp = 0) ∧
                  (k.clipped = true ↔ ∃ r ∈ runs, r.clipped = true) ∧
                  (k.stepped = true ↔ s.tb.stepped = true ∨ ∃ r ∈ runs, r.stepped = true))))

/-- The events of a channel within a set (R44, R58 to R61, R64 to R71): the loading set, the end of WARMUP, the entry
into TRIGGERED, and the two ends of a trigger. That such a row changes its channel alone is log entry 2. -/
def Obligations.ChannelEventsAct : Prop :=
  ∀ (s : State) (c : Channel) (t : ArrayTime) (w : SetWord) (d : ChanDet) (a : Averages) (e : Int), s.awake = true →
    detectorIsOn s → d = s.det.chan.get c → w.powered = true → w.settling = false →
    averaged s.profile (d.avg.getD ⟨0, 0, 0⟩) a e w.sample (inTrigger d) →
    (d.state = .settling → exec (.settlingEnd c w) s = .next (withChannel s c
      { state := .warmup, avg := some ⟨256 * w.sample, 0, 0⟩, warmup := 2 ^ s.profile.ltaShift, onRun := 0, offRun := 0
        run := none, last := d.last })) ∧
    (d.state = .warmup → d.warmup ≤ 1 → exec (.warmupEnd c w) s = .next (withChannel s c
      { state := .quiet, avg := some a, warmup := 0, onRun := 0, offRun := 0, run := none, last := d.last })) ∧
    (d.state = .quiet → s.profile.onHold ≤ 1 → onSet s.profile a → exec (.channelTriggered c t w) s = .next (withChannel s c
      { d with state := .triggered, avg := some a, onRun := 1, offRun := 0
               run := some ⟨t, s.tb.grade, e, w.clipped, w.stepped⟩ })) ∧
    (∀ r, d.state = .pending → d.run = some r → s.profile.onHold ≤ d.onRun + 1 → onSet s.profile a →
      exec (.channelTriggered c t w) s = .next (withChannel s c
        { d with state := .triggered, avg := some a, onRun := d.onRun + 1
                 run := some { r with
                   peak := max r.peak e, clipped := r.clipped || w.clipped, stepped := r.stepped || w.stepped } })) ∧
    (∀ r, inTrigger d = true → d.run = some r → diffUs t r.onset < (s.profile.maxTrigger : Int) * 1000000 →
      offSet s.profile a → s.profile.offHold ≤ d.offRun + 1 → exec (.triggerEnd c t w) s = .next (withChannel s c
        { d with state := .quiet, avg := some a, onRun := 0, offRun := 0, run := none
                 last := some ⟨r.onset, (diffUs t r.onset / 1000).toNat, max r.peak e, .normal, r.clipped || w.clipped⟩ })) ∧
    ∀ r, inTrigger d = true → d.run = some r → (s.profile.maxTrigger : Int) * 1000000 ≤ diffUs t r.onset →
      exec (.maxTrigger c t w) s = .next { s with det := { s.det with
        chan := s.det.chan.set c
          { d with state := .quiet, avg := some a, onRun := 0, offRun := 0, run := none
                   last := some ⟨r.onset, (diffUs t r.onset / 1000).toNat, r.peak, .long, r.clipped⟩ }
        longTrig := min (s.det.longTrig + 1) 65535 } }

/-- One channel and one set, state by state (R62 to R71): OFF without power; SETTLING; the loading set and WARMUP; the on test in
QUIET and PENDING; the max_trigger, off and on tests in TRIGGERED and ENDING, with the run marks and the last-trigger record. And
the Detector's turning off at shed level 3, which ends a station trigger with the stamp of the last set processed, and its
turning on again, each of which keeps the previous pick, the sequence number, the guard interval and the counters (R73, R74,
R79). -/
def Obligations.ChannelsStepAndSwitch : Prop :=
  (∀ (p : Profile) (d : ChanDet) (grade : Nat) (t : ArrayTime) (w : SetWord) (a : Averages) (e : Int),
    averaged p (d.avg.getD ⟨0, 0, 0⟩) a e w.sample (inTrigger d) →
    (w.powered = false → ∃ after, d.step p grade t w = (after, false) ∧ wentOff d t after) ∧
    (w.powered = true → w.settling = true → d.step p grade t w =
      ({ state := .settling, avg := none, warmup := 0, onRun := 0, offRun := 0, run := none, last := d.last }, false)) ∧
    (w.powered = true → w.settling = false →
      ((d.state = .off ∨ d.state = .settling) → d.step p grade t w =
        ({ state := .warmup, avg := some ⟨256 * w.sample, 0, 0⟩, warmup := 2 ^ p.ltaShift, onRun := 0, offRun := 0
           run := none, last := d.last }, false)) ∧
      (d.state = .warmup →
        (1 < d.warmup → d.step p grade t w = ({ d with avg := some a, warmup := d.warmup - 1 }, false)) ∧
        (d.warmup ≤ 1 → d.step p grade t w =
          ({ d with state := .quiet, avg := some a, warmup := 0, onRun := 0, offRun := 0, run := none }, false))) ∧
      (d.state = .quiet →
        (¬onSet p a → d.step p grade t w = ({ d with avg := some a }, false)) ∧
        (onSet p a → d.step p grade t w =
          ({ d with
            state := if p.onHold ≤ 1 then .triggered else .pending
            avg := some a, onRun := 1, offRun := 0, run := some ⟨t, grade, e, w.clipped, w.stepped⟩ }, false))) ∧
      ∀ r renewed, d.run = some r → renewed = { r with
          peak := max r.peak e, clipped := r.clipped || w.clipped, stepped := r.stepped || w.stepped } →
        (d.state = .pending →
          (onSet p a → d.step p grade t w =
            ({ d with
              state := if p.onHold ≤ d.onRun + 1 then .triggered else .pending
              avg := some a, onRun := d.onRun + 1, run := some renewed }, false)) ∧
          (¬onSet p a → d.step p grade t w =
            ({ d with state := .quiet, avg := some a, onRun := 0, offRun := 0, run := none }, false))) ∧
        (inTrigger d = true →
          ((p.maxTrigger : Int) * 1000000 ≤ diffUs t r.onset → d.step p grade t w =
            ({ d with
              state := .quiet, avg := some a, onRun := 0, offRun := 0, run := none
              last := some ⟨r.onset, (diffUs t r.onset / 1000).toNat, r.peak, .long, r.clipped⟩ }, true)) ∧
          (diffUs t r.onset < (p.maxTrigger : Int) * 1000000 →
            (offSet p a → p.offHold ≤ d.offRun + 1 → d.step p grade t w =
              ({ d with
                state := .quiet, avg := some a, onRun := 0, offRun := 0, run := none
                last := some ⟨r.onset, (diffUs t r.onset / 1000).toNat, renewed.peak, .normal, renewed.clipped⟩ },
                false)) ∧
            (offSet p a → d.offRun + 1 < p.offHold → d.step p grade t w =
              ({ d with state := .ending, avg := some a, offRun := d.offRun + 1, run := some renewed }, false)) ∧
            (¬offSet p a → d.state = .ending → onSet p a → d.step p grade t w =
              ({ d with state := .triggered, avg := some a, offRun := 0, run := some renewed }, false)) ∧
            (¬offSet p a → ¬(d.state = .ending ∧ onSet p a) → d.step p grade t w =
              ({ d with avg := some a, offRun := 0, run := some renewed }, false)))))) ∧
  ∀ (s : State) (l : ArrayTime),
    ((s.det.lastSet = some l ∨ (s.det.trigger = false ∧ ∀ c, inTrigger (s.det.chan.get c) = false)) →
      ∃ (chan : PerChan ChanDet) (u : State), (∀ c, wentOff (s.det.chan.get c) l (chan.get c)) ∧
        u = { s with det := { s.det with chan := chan, trigger := false, running := false } } ∧
        (s.det.trigger = false → detectorOff s = u) ∧ (s.det.trigger = true → detectorOff s = captureTriggerEnd u l)) ∧
    ∃ running, detectorOnAgain s = { s with det := { s.det with running := running } } ∧
      (running = true ↔ detectorIsOn s ∧ ∃ v, s.det.vote = some v ∧ v ≤ s.det.chan.count couldVote)

/-! ### Recording -/

/-- The capture takes sets from the ring (R134 to R137, R140). CAPTURE_TAKE_SET stores the set at the read position,
RECORD_MAX_REACHED stores it as the record's last, and CAPTURE_END_TIME closes the record before a set that lies after the end
time (R137, R139): with its buffer as the final page, or, where it has taken no set, without one, its page given back (log entry
28). The capture's taking, wherever it comes about, is its moves one after another, those of these rows and of PAGE_ALLOCATION,
until none is left in the result: it rests, or it waits for the ERASE of a page, for which it looks (log entry 49). One move for
each row is log entry 2, and the engine's choice at the end log entry 13. -/
def Obligations.CaptureTakesSets : Prop :=
  (∀ (s : State) (id num : Nat) (x : SampleSet), captureAt s id num x →
    (storesNext s x →
      (s.rm.cap.taken + 1 < setLimit s → exec .captureTakeSet s = .next (engineKick (setTaken s id num x))) ∧
      (setLimit s ≤ s.rm.cap.taken + 1 →
        exec .recordMaxReached s = .next (engineKick (closedWith (setTaken s id num x) .normal)))) ∧
    (endsBefore s x → exec .captureEndTime s = .next (engineKick (endedRecord s id)))) ∧
  ∀ s : State, ∃ t, Relation.ReflTransGen captureMoves s t ∧ (captureWaits t → captureTake s = lookAhead t) ∧
    (¬captureWaits t → captureTake s = t) ∧ ∀ u, ¬captureMoves (captureTake s) u

/-- A station pick at the Record Memory, the end of a station trigger, and the close by displacement or by power (R54, R132,
R133, R136 to R139). A pick extends an open capture's record; else it is refused, or starts a record at the start set of the
ring's walk, after the reclaims that the directory and the pool need. A close makes what is in the buffer its final page, waits
for a PROGRAM in flight, or leaves no page; a record that took no set, and a waiting one, leaves the directory. The model's
inferences here: that the page allocated ahead is given back where a committed page's PROGRAM is requested and not started (log
entry 14), and that a record with an empty buffer gives its page back, and is CLOSED at once if it has taken sets (log entry 28);
R139's table has neither. That a look of the start or of a reclaim which finds another erase-ahead waiting is dropped is log
entry 49, and that the walk does not take the last set before a backward step where it is the oldest set held is log entry 61:
choices of the model. -/
def Obligations.CapturesStartAndClose : Prop :=
  ∀ s : State, directoryInv s →
    (∀ onset : ArrayTime,
      (captureOpen s →
        capturePick s onset = { s with rm := { s.rm with cap := { s.rm.cap with endTime := none, awaiting := true } } }) ∧
      (¬captureOpen s → s.rm.wiping = true ∨ s.rm.nextId = 4294967295 → capturePick s onset = captureTurnedAway s) ∧
      (¬captureOpen s → s.rm.wiping = false → s.rm.nextId ≠ 4294967295 →
        ((s.rm.dir.length = 64 ∨ ∀ p, ¬nextFreePage s p) → (∀ e ∈ s.rm.dir, ¬reclaimable e) →
          capturePick s onset = captureTurnedAway s) ∧
        (∀ e, s.rm.dir.length = 64 → firstReclaimed s e → capturePick s onset = capturePick (reclaimedOf s e) onset) ∧
        (∀ e, s.rm.dir.length < 64 → (∀ p, ¬nextFreePage s p) → firstReclaimed s e →
          ∃ u, captureBegun (reclaimedOf s e) onset u ∧ capturePick s onset = captureTake (lookAhead u)) ∧
        (∀ p, s.rm.dir.length < 64 → nextFreePage s p →
          ∃ u, captureBegun s onset u ∧ capturePick s onset = captureTake (lookAhead u)))) ∧
    (∀ stamp : ArrayTime,
      (s.rm.cap.awaiting = false → captureTriggerEnd s stamp = s) ∧
      (s.rm.cap.awaiting = true → captureTriggerEnd s stamp = { s with rm := { s.rm with cap := { s.rm.cap with
        endTime := some (addUs stamp ((s.profile.postS : Int) * 1000000)), awaiting := false } } })) ∧
    (∀ (num : Nat) (cause : EndCause), cause = (if s.bat.permission = .absent then .power else .overrun) →
      (¬(captureOpen s ∧ s.rm.cap.readPos = some num) → announceDisplaced s num = s) ∧
      (captureOpen s → s.rm.cap.readPos = some num → announceDisplaced s num = closeAtOnce s cause)) ∧
    ∀ (cause : EndCause) (u : State) (b : PageBuffer), (cause = .power ∨ cause = .overrun) → u = closeCounted s cause →
      b = s.rm.cap.buf →
      (¬captureOpen s → closeAtOnce s cause = s) ∧
      (∀ w, s.rm.cap.mode = .closing → s.rm.cap.waiting = some w → closeAtOnce s cause = { u with rm := { u.rm with
        dir := s.rm.dir.filter (fun e => e.id != w), refused := min (s.rm.refused + 1) 65535
        cap := { s.rm.cap with waiting := none, readPos := none, endTime := none, awaiting := false } } }) ∧
      ∀ id num, s.rm.cap.mode = .opened → s.rm.cap.recId = some id → s.rm.cap.readPos = some num →
        (b.busy = false → b.sets ≠ [] → closeAtOnce s cause = closedWith u cause) ∧
        (b.busy = false → b.sets = [] → ∀ v : State, v = givenBack u id b.page →
          (s.rm.cap.taken = 0 → closeAtOnce s cause = { v with rm := { v.rm with
            dir := v.rm.dir.filter (fun e => e.id != id), refused := min (s.rm.refused + 1) 65535
            cap := freedCapture s.rm.cap } }) ∧
          (0 < s.rm.cap.taken → closeAtOnce s cause = { v with rm := { v.rm with
            dir := v.rm.dir.map (fun e => if e.id = id then { e with closed := true, endCause := some cause } else e)
            cap := freedCapture s.rm.cap } })) ∧
        (b.busy = true → (∃ p bytes, s.rm.flight = some (.recordProgram p bytes)) →
          closeAtOnce s cause = closingWith u { b with tail := some ⟨num, cause⟩ }) ∧
        (b.busy = true → (∀ p bytes, s.rm.flight ≠ some (.recordProgram p bytes)) →
          closeAtOnce s cause = closingWith (givenBack u id b.next) { b with final := some cause, next := none })

/-- A hold request (R119, R141): the Record Memory makes each named LOOSE record HOLD-PENDING, asks for its MARK where its first
page is programmed, and gives each named record without an event the requesting event's key; the entry takes the record that
contains a carried pick time, or else the least one answered, unless it names one already. That a RELEASED record takes the
event's key is log entry 23, and that of several records that contain a carried pick time the least is taken log entry 52. -/
def Obligations.HoldRequestsAct : Prop :=
  ∀ (s : State) (e : EventEntry) (picks : List ArrayTime), eventsInv s → directoryInv s → e ∈ s.events.entries →
    ∃ rm answer, holdTaken s e.key picks rm answer ∧ requestHold s e.serial picks = { s with
      rm := rm
      events := { s.events with
        entries := s.events.entries.map (fun y =>
          if y.serial = e.serial then { e with recordId := e.recordId.or answer } else y) } }

/-- PAGE_ALLOCATION, and CAPTURE_TAKE_SET where the set needs a page (R134 to R137): an erased next free page is given
to the record, a dirty one is waited for, and with none the oldest reclaimable record is reclaimed, or the record closes
FULL; each look at the next free page asks for its erase. That a look which finds another erase-ahead waiting is dropped, and
that an allocation which waits looks again, are the model's choice, log entry 49. One look for each row is log entry 2, and the
engine's choice at the end log entry 13. -/
def Obligations.PagesAreAllocated : Prop :=
  (∀ (s : State), ∃ ahead, lookAhead s = { s with rm := { s.rm with eraseAhead := ahead } } ∧
    (s.rm.eraseAhead.isSome = true → ahead = s.rm.eraseAhead) ∧
    ((∀ p, ¬nextFreePage s p) → ahead = s.rm.eraseAhead) ∧
    ∀ p, nextFreePage s p → s.rm.eraseAhead = none → ahead =
      (if s.kindOf p = .freeDirty ∧ p ∉ s.rm.wipeList ∧ s.rm.flight ≠ some (.aheadErase p) ∧
        s.rm.flight ≠ some (.wipeErase p) then some p else none)) ∧
  ∀ (s : State) (id num : Nat) (x : SampleSet) (first : Bool) (c : Instr), captureAt s id num x → needsPage s x first →
    (c = .pageAllocation ∨ c = .captureTakeSet) →
    (∀ p, nextFreePage s p →
      (s.kindOf p = .freeErased → exec c s = .next (engineKick (pageAdded s id p first))) ∧
      (s.kindOf p = .freeDirty → exec c s = .next (engineKick (lookAhead s)))) ∧
    ((∀ p, ¬nextFreePage s p) →
      (∀ e, firstReclaimed s e →
        ((∃ p < 512, (s.kindOf p).isOwnedBy e.id = true) → exec c s = .next (engineKick (reclaimedOf s e))) ∧
        ((∀ p < 512, (s.kindOf p).isOwnedBy e.id = false) → exec c s = exec c (reclaimedOf s e))) ∧
      ((∀ e ∈ s.rm.dir, ¬reclaimable e) → exec c s = .next (engineKick (closedFull s id first))))

/-- ENGINE_OPERATION_START (R128 to R130, R160): an idle engine starts the first eligible request in the order of the
classes: a care snapshot, the oldest mark, the capture program, the erase-ahead, the lowest wipe erase; while permission
is absent none starts, and while it is care only a care snapshot alone. The engine's choice at the end of another command is the
same (log entry 13), and none is made while the part is stopped. -/
def Obligations.EngineStartsByClass : Prop :=
  (∀ s : State, (s.awake = true → exec .engineOperationStart s = .next (engineKick s)) ∧
    (s.awake = false → engineKick s = s)) ∧
  ∀ s : State, s.awake = true →
    (s.rm.flight ≠ none → exec .engineOperationStart s = .next s) ∧
    (s.rm.flight = none →
      (s.bat.permission = .absent → exec .engineOperationStart s = .next s) ∧
      (s.bat.permission = .careOnly → ¬careWaits s → exec .engineOperationStart s = .next s) ∧
      (∀ r, s.bat.permission ≠ .absent → s.bat.placed = some r →
        (r.stage = .needErase → exec .engineOperationStart s = .next
          { startedOp s (.careErase r.page) with bat := { s.bat with placed := some { r with stage := .erasing } } }) ∧
        (r.stage = .needProgram → exec .engineOperationStart s = .next
          { startedOp s (.careProgram r.page r.offset r.bytes) with
            bat := { s.bat with placed := some { r with stage := .programming } } })) ∧
      (s.bat.permission = .full → ¬careWaits s →
        (∀ m rest, s.rm.marks = m :: rest → exec .engineOperationStart s = .next
          { s with rm := { s.rm with flight := some (.mark m), marks := rest } }) ∧
        (s.rm.marks = [] →
          (∀ id p, s.rm.programReq = true → s.rm.cap.recId = some id → s.rm.cap.buf.page = some p →
            exec .engineOperationStart s = .next { s with rm := { s.rm with
              programReq := false
              flight := some (.recordProgram p
                (recordPageBytes id (s.ownId.getD 0) s.profile.rateCode s.rm.cap.buf)) } }) ∧
          (s.rm.programReq = false →
            (∀ p, s.rm.eraseAhead = some p → s.kindOf p = .freeDirty → exec .engineOperationStart s = .next
              { s with rm := { s.rm with eraseAhead := none, flight := some (.aheadErase p) } }) ∧
            ((∀ p, s.rm.eraseAhead = some p → s.kindOf p ≠ .freeDirty) →
              (∀ p rest, s.rm.wipeList = p :: rest → exec .engineOperationStart s = .next
                { s with rm := { s.rm with flight := some (.wipeErase p), wipeList := rest } }) ∧
              (s.rm.wipeList = [] → exec .engineOperationStart s = .next s))))))

/-- The completions of the engine's operations (R123, R127, R130, R139, R142, R143, R145, R165, R166): what each does to
the memory, and what its requester does with it. A close decided while a committed page's PROGRAM was in flight is the third
row of R139's table: its last set becomes a final page of one set, or the next page is returned. The engine's choice at the
end is log entry 13; that the capture looks at the next free page after an erase-ahead is log entry 49; that the
part stands in a phase of its own after the RESTART snapshot is log entry 38. -/
def Obligations.OperationsComplete : Prop :=
  ∀ (s : State) (p : Nat) (erased : List PageKind), p < 512 →
    erased = (if s.kindOf p = .freeDirty then s.rm.map.set p .freeErased else s.rm.map) →
    (s.rm.flight = some (.aheadErase p) →
      ∀ u : State, u = opDone s (memErase s.mem p) → exec .eraseComplete s = .next (engineKick (captureTake (lookAhead
        { u with rm := { u.rm with map := erased } })))) ∧
    (s.rm.flight = some (.wipeErase p) →
      ∀ u : State, u = opDone s (memErase s.mem p) → exec .eraseComplete s = .next (engineKick { u with rm := { u.rm with
        map := erased, wiping := s.rm.wiping && !s.rm.wipeList.isEmpty } })) ∧
    (∀ r, s.rm.flight = some (.careErase p) → s.bat.placed = some r → exec .eraseComplete s = .next (engineKick
      { opDone s (memErase s.mem p) with bat := { s.bat with placed := some { r with stage := .needProgram } } })) ∧
    (∀ m : MarkReq, s.rm.flight = some (.mark m) → m.page = p →
      ∀ u : State, u = opDone s (memProgram s.mem (p * 2048 + 20 + m.which) [0]) →
      exec .markComplete s = .next (engineKick { u with rm := { u.rm with dir := s.rm.dir.map (fun e =>
        if e.id = m.recId then { e with hold := if m.which = 0 then .held else .released } else e) } })) ∧
    (∀ off bytes r, s.rm.flight = some (.careProgram p off bytes) → s.bat.placed = some r →
      ∀ u : State, u = { opDone s (memProgram s.mem (p * 2048 + off) bytes) with bat := { s.bat with
        written := min (s.bat.written + 1) 65535, lastDone := some (r.seq, r.cause), placed := none } } →
      (r.cause = .restart → exec .careSnapshotComplete s = .next
        { u with phase := .restarting, bat := { u.bat with owed := none } }) ∧
      (r.cause ≠ .restart →
        (s.bat.owed = none → exec .careSnapshotComplete s = .next (engineKick u)) ∧
        ∀ cause, s.bat.owed = some cause → exec .careSnapshotComplete s = .next
          (engineKick (formedSnapshot { u with bat := { u.bat with owed := none } } cause)))) ∧
    ∀ bytes rid id idx done, s.rm.flight = some (.recordProgram p bytes) → s.kindOf p = .owned id idx done →
      s.rm.cap.recId = some rid →
      ∀ u v : State, u = opDone s (memProgram s.mem (p * 2048) bytes) → v = { u with rm := { u.rm with
        map := s.rm.map.set p (.owned id idx true)
        marks := s.rm.marks ++
          (if idx = 0 ∧ (s.rm.dir.find? (fun e => e.id == id)).any (fun e => e.hold == .pending) = true
            then [⟨id, p, 0⟩] else []) } } →
      (s.rm.cap.buf.final = none → s.rm.cap.buf.tail = none → exec .captureProgramComplete s = .next (engineKick
        (captureTake { v with rm := { v.rm with cap := { s.rm.cap with
          buf := { PageBuffer.empty with page := s.rm.cap.buf.next, idx := s.rm.cap.buf.idx + 1 } } } }))) ∧
      ∀ freed : Capture, freed = freedCapture s.rm.cap →
      (∀ cause, s.rm.cap.buf.final = some cause →
        exec .captureProgramComplete s = .next (engineKick (captureTake { v with rm := { v.rm with
          dir := s.rm.dir.map (fun e => if e.id = rid then { e with closed := true, endCause := some cause } else e)
          cap := freed } }))) ∧
      ∀ tail, s.rm.cap.buf.final = none → s.rm.cap.buf.tail = some tail →
        (∀ x, ringRead s.sampler tail.num = some x →
          exec .captureProgramComplete s = .next (engineKick { v with rm := { v.rm with
            dir := s.rm.dir.map (fun e => if e.id = rid then { e with lastSet := some x.stamp } else e)
            pendingStep := false, programReq := true
            cap := { s.rm.cap with buf := { PageBuffer.empty with
              page := s.rm.cap.buf.next, idx := s.rm.cap.buf.idx + 1, sets := [x], grade := s.tb.grade
              stepped := s.rm.pendingStep || x.words.z.stepped, final := some tail.cause, busy := true } } } })) ∧
        (ringRead s.sampler tail.num = none → ∀ p', s.rm.cap.buf.next = some p' →
          exec .captureProgramComplete s = .next (engineKick (captureTake { v with rm := { v.rm with
            map := v.rm.map.set p' .freeDirty
            dir := s.rm.dir.map (fun e => if e.id = rid
              then { e with pages := e.pages - 1, closed := true, endCause := some tail.cause } else e)
            cap := freed } })))

/-! ### Events -/

/-- The sweeps of the Pick List and the Event Table, and the uplink port (R88, R113 to R118): PICK_AGED, EVENT_END,
ALERT_REPEAT_DUE and UPLINK_REPORT_SENT. EVENT_END ends every entry whose time has run, and ALERT_REPEAT_DUE hands on every
repeat that is due; either changes nothing where there is none. That a row of its own acts on what is due now is log entry 2;
that several entries end, report and repeat in the order in which they were made log entry 46; that an idle port takes a report
at once, and that the one in transmission is not among the 16, log entry 20; that the port's bit times are counted in nominal
microseconds log entry 29. -/
def Obligations.SweepsAct : Prop :=
  ∀ s : State, s.awake = true → eventsInv s →
    exec .pickAged s = .next { s with picks := { s.picks with entries := keptPicks s } } ∧
    (∃ line, exec .eventEnd s = .next { s with events := (endedReports s).foldl portTakes { s.events with
        entries := s.events.entries.map (fun e =>
          if endsNow s e = true then { e with active := false, repeatsLeft := 0, repeatDue := none } else e)
        alertLine := line } } ∧
      (line = true ↔ ∃ e ∈ s.events.entries, e.active = true ∧ endsNow s e = false ∧
        s.profile.confirmCount ≤ e.declaredBy.length)) ∧
    ((∀ e ∈ s.events.entries, endsNow s e = false) → exec .eventEnd s = .next s) ∧
    (∃ t, exec .alertRepeatDue s = .next t ∧ repeatsMade (s.events.entries.filter (repeatIsDue s)) s t) ∧
    ((∀ e ∈ s.events.entries, repeatIsDue s e = false) → exec .alertRepeatDue s = .next s) ∧
    ((s.events.sending = none ∨ s.events.sentUs < 18750) → exec .uplinkReportSent s = .next s) ∧
    (s.events.sending.isSome = true → 18750 ≤ s.events.sentUs →
      exec .uplinkReportSent s = .next { s with events := { s.events with
        sending := s.events.uplink.head?, sentUs := 0, uplink := s.events.uplink.drop 1 } }) ∧
    (∀ (kind own : Nat) (e : EventEntry), fieldsStand
      (reportFields kind own e (crc16 (((reportBytes kind own e).drop 2).take 14))) (reportBytes kind own e)) ∧
    (s.events.sending = none → uplinkTick s = s ∧ s.pins.uplink = true) ∧
    ∀ r, s.events.sending = some r →
      uplinkTick s = { s with events := { s.events with sentUs := min (s.events.sentUs + 1) 18750 } } ∧
      ∃ levels, serialForm r levels ∧ s.pins.uplink = levels.getD (s.events.sentUs * 9600 / 1000000) true

/-! ### The battery and the heater -/

/-- SCHEDULE and OWED_SNAPSHOT (R163 to R165): a snapshot that falls due is formed at once, or owed while a request is
placed; an owed one is formed when none is. A snapshot formed sets the next due time to local time + 900 s, one that is owed
leaves it; and a tick's test first lowers a due time that lies further ahead to local time + 900 s. That such a row acts where
the time is reached is log entry 2, and the engine's choice at the end log entry 13. -/
def Obligations.SnapshotsFallDue : Prop :=
  ∀ s : State,
    (∀ cause, (s.bat.placed = none → (dueSnapshot s cause).bat.nextDue = some (addUs s.tb.clock 900000000)) ∧
      (s.bat.placed ≠ none → (dueSnapshot s cause).bat.nextDue = s.bat.nextDue)) ∧
    (∀ d near u, s.bat.nextDue = some d →
      near = (if 900000000 < diffUs d s.tb.clock then addUs s.tb.clock 900000000 else d) →
      u = { s with bat := { s.bat with nextDue := some near } } →
      (diffUs s.tb.clock near < 0 → scheduleTest s = u) ∧
      (0 ≤ diffUs s.tb.clock near → scheduleTest s = dueSnapshot u .schedule)) ∧
    (s.bat.nextDue = none → scheduleTest s = s) ∧
    (s.awake = true →
    ((s.bat.owed = none ∨ s.bat.placed ≠ none) → exec .owedSnapshot s = .next (engineKick s)) ∧
    (∀ d, s.bat.nextDue = some d →
      (diffUs s.tb.clock d < 0 → exec .schedule s = .next s) ∧
      (0 ≤ diffUs s.tb.clock d → exec .schedule s = .next (engineKick (dueSnapshot s .schedule)))) ∧
    ∀ cause, s.bat.owed = some cause → s.bat.placed = none → exec .owedSnapshot s =
      .next (engineKick (formedSnapshot { s with bat := { s.bat with owed := none } } cause)))

/-- SHED_EXIT, FULL_ANCHOR and EMPTY_ANCHOR (R155 to R160): the level falls by one after 300 s of its exit condition,
with write permission formed again and a snapshot due; Q becomes C after 600 s of the full condition, and is lowered to
floor(C / 20) after 60 s of the empty one. That the residual becomes 0 also where a later evaluation lowers Q again is the
model's choice, log entry 53; that such a row acts where it is due is log entry 2, that permission follows the shed evaluation
log entry 12, and the engine's choice at the end log entry 13. -/
def Obligations.ShedAndAnchorsAct : Prop :=
  ∀ s : State, s.awake = true →
    (∀ d, s.bat.shed ≤ 3 → delayAt s.bat.exit (exitHolds s s.bat.shed) s.tb.clock 300000000 d →
      (((∃ k, s.bat.shed < k ∧ entryHolds s k) ∨ d.isMet = false) → exec .shedExit s = .next s) ∧
      ((∀ k, s.bat.shed < k → ¬entryHolds s k) → d.isMet = true → ∀ w, permissionIs s (s.bat.shed - 1) w →
        ∃ t, shedLowered s w t ∧ exec .shedExit s = .next (engineKick t))) ∧
    (∀ d, delayAt s.bat.full (fullHolds s) s.tb.clock 600000000 d →
      (d.isMet = false → exec .fullAnchor s = .next s) ∧
      (d.isMet = true → exec .fullAnchor s = .next (fullActed s d))) ∧
    ∀ d, delayAt s.bat.empty (emptyHolds s) s.tb.clock 60000000 d →
      (d.isMet = false → exec .emptyAnchor s = .next s) ∧
      (d.isMet = true → exec .emptyAnchor s = .next (emptyActed s d))

/-- MAX_ON, DEFERRAL_EXPIRED, HEATER_OPEN_CLEAR, EXPOSURE_RESET and OPEN_CHECK (R172, R175 to R180, R182). MAX_ON acts where
max_on is the first forced-off test that holds; DEFERRAL_EXPIRED makes and counts the switch only while no such test holds and
the switch is still wanted, allowed and held by the quiet; OPEN_CHECK is a heater-current
conversion at local time that makes the check. That such a row acts where it is due is log entry 2. -/
def Obligations.HeaterEventsAct : Prop :=
  ∀ (s : State) (r : Option Int) (forced : ForcedCause → Prop), s.awake = true →
    r = (if s.sampler.batterySensor = true then none else s.sampler.latest.batTemp) →
    (∀ cause, forced cause ↔ s.heat.on = true ∧ forcedBy s s.tb.clock r cause) →
    (forced .maxOn → exec .maxOn s = .next (heatForcedOff s s.tb.clock .maxOn)) ∧
    (¬forced .maxOn → exec .maxOn s = .next s) ∧
    (∀ (want : Bool) (lapsed : Prop), s.bat.shed ≤ 3 →
      (∀ x, r = some x → wantedIs s x want) → (r = none → want = false) →
      (lapsed ↔ (∀ cause, ¬forced cause) ∧
        (∃ d, s.heat.deferral = some d ∧ (s.profile.deferMax : Int) * 1000000 ≤ diffUs s.tb.clock d) ∧
        want ≠ s.heat.on ∧ leastTimeOver s s.tb.clock ∧ heldByQuiet s r) →
      (lapsed → exec .deferralExpired s = .next { heatSwitched s s.tb.clock want with
        heat := { (heatSwitched s s.tb.clock want).heat with expired := min (s.heat.expired + 1) 65535 } }) ∧
      (¬lapsed → exec .deferralExpired s = .next s)) ∧
    (∀ u, s.heat.openSince = some u → exec .heaterOpenClear s = .next
      (if 3600000000 ≤ diffUs s.tb.clock u then { s with heat := { s.heat with openSince := none } } else s)) ∧
    (∀ start x, s.heat.resetDelay.isMet = false → delayRun s s.heat.resetDelay start 3600000000 →
      s.sampler.batterySensor = false → s.sampler.latest.batTemp = some x → s.profile.freezeLimit + 50 ≤ x →
      exec .exposureReset s = .next { s with heat := { s.heat with
        resetDelay := ⟨some start, true⟩, exposure := 0, rem := 0, resets := min (s.heat.resets + 1) 65535 } }) ∧
    ∀ (hk : BitVec 12) (i : Nat) (b : Battery) (u : State), i = 2 * hk.toNat → drawCounted s s.tb.clock i b →
      u = { timesHeld s s.tb.clock with bat := b } →
      (s.heat.on = true → s.heat.openCheck = true → 1000000 ≤ diffUs s.tb.clock s.heat.since →
        (i < s.profile.heaterMinMa → exec (.openCheck hk) s = .next (heatFoundOpen u s.tb.clock)) ∧
        (s.profile.heaterMinMa ≤ i →
          exec (.openCheck hk) s = .next { u with heat := { u.heat with openCheck := false } })) ∧
      (¬(s.heat.on = true ∧ s.heat.openCheck = true ∧ 1000000 ≤ diffUs s.tb.clock s.heat.since) →
        exec (.openCheck hk) s = .next s)

/-! ### Service queries -/

/-- The reading queries (R144, R200 to R203): STATUS in every mode, and outside listen-only the entries of PEER, EVENT
and RECORD by index, and the 64 bytes of a PAGE slice, each answered as the rules say and changing nothing else. An entry's
fields stand at the offsets that 2.1, 6.2, R126 and R216 give. Each of the nine STATUS sections holds the values of R201 in
their order and the widths of R216, all of them and nothing else, and fits 93 bytes, section 3 filling them. That
the answer is formed before the query is counted, and after the line-quiet timer is renewed, is log entry 19. What STATUS
sends where the rules leave it open is the model's choice: log entries 18, 59 and 60 (the layout), 33 and 58 (values beyond
their field), 62 (the flags of an absent last-trigger record), 40 (a care request in flight), 41 (the record being made), 42,
54 and 63 (the exit elapsed time), 64 and 65 (the time since the last valid frame) and 43 (the setpoint). The engine's choice at
the end is log entry 13. -/
def Obligations.ReadingQueriesAreAnswered : Prop :=
  (∀ (e : PeerEntry) (now : ArrayTime), peerInWidths e → peerLaidOut e now (peerBytes e now)) ∧
  (∀ (e : EventEntry) (now : ArrayTime), eventInWidths e → eventLaidOut e now (eventBytes e now)) ∧
  (∀ e : DirEntry, recordInWidths e → recordLaidOut e (recordBytes e)) ∧
  (∀ s : State, ∀ sect ≤ 8, fieldsStand (sectionFields s sect) (statusSection s sect)) ∧
  (∀ s : State, (statusSection s 3).length = 93 ∧ ∀ sect ≤ 8, (statusSection s sect).length ≤ 93) ∧
  ∀ (s : State) (q : QueryHeader), queryHeard s q →
    (∀ sect : Byte, sect.toNat ≤ 8 → exec (.status q sect) s =
      .next (answered (renewed s) q 1 0 (statusSection (renewed s) sect.toNat))) ∧
    (s.listenOnly = false →
      (∀ index : Byte,
        (s.peers.entries.length ≤ index.toNat → exec (.peer q index) s = .next (answered (renewed s) q 2 2 [])) ∧
        (∀ e, s.peers.entries[index.toNat]? = some e →
          exec (.peer q index) s = .next (answered (renewed s) q 2 0 (peerBytes e s.tb.clock))) ∧
        (s.events.entries.length ≤ index.toNat → exec (.event q index) s = .next (answered (renewed s) q 3 2 [])) ∧
        (∀ (order : List EventEntry) (e : EventEntry), order.Perm s.events.entries →
          order.Pairwise (fun a b => keyAhead a.key b.key) →
          order[index.toNat]? = some e →
          exec (.event q index) s = .next (answered (renewed s) q 3 0 (eventBytes e s.tb.clock))) ∧
        (s.rm.dir.length ≤ index.toNat → exec (.record q index) s = .next (answered (renewed s) q 4 2 [])) ∧
        ∀ e, s.rm.dir[index.toNat]? = some e →
          exec (.record q index) s = .next (answered (renewed s) q 4 0 (recordBytes e))) ∧
      ∀ (recId : BitVec 32) (idx : BitVec 16) (slice : Byte), slice.toNat ≤ 31 →
        ∀ reply : Nat → List Byte → Prop, (∀ r data, reply r data ↔
          exec (.page q recId idx slice) s = .next (answered (renewed s) q 5 r data)) →
        (s.rm.wiping = true → reply 1 []) ∧
        (s.rm.wiping = false →
          ((∀ p < 512, ∀ done, s.kindOf p ≠ .owned recId.toNat idx.toNat done) → reply 2 []) ∧
          ∀ p done, p < 512 → s.kindOf p = .owned recId.toNat idx.toNat done →
            (∀ p' < 512, ∀ d, s.kindOf p' = .owned recId.toNat idx.toNat d → p' = p) →
            ((∃ o, s.rm.flight = some o ∧ bankOf o.page = bankOf p) → reply 1 []) ∧
            ((∀ o, s.rm.flight = some o → bankOf o.page ≠ bankOf p) →
              ((done = true ∧ ∃ e ∈ s.rm.dir, e.id = recId.toNat) →
                reply 0 ((List.range 64).map (fun i => memRead s.mem (p * 2048 + slice.toNat * 64 + i)))) ∧
              (¬(done = true ∧ ∃ e ∈ s.rm.dir, e.id = recId.toNat) → reply 2 []))))

/-- RELEASE, WIPE, SET_SECONDS, LATCH_CLEAR and RESTART outside listen-only (R23, R143, R145, R164, R200, R204 to R208).
The engine's choice at the end is log entry 13. -/
def Obligations.ChangingQueriesAct : Prop :=
  ∀ (s : State) (q : QueryHeader), queryHeard s q → s.listenOnly = false →
    (∀ (recId : BitVec 32),
      ((∀ e ∈ s.rm.dir, e.id ≠ recId.toNat) → exec (.release q recId) s = .next (answered (renewed s) q 6 3 [])) ∧
      ∀ e, s.rm.dir.find? (fun e => e.id == recId.toNat) = some e → ∀ asked : Prop,
        (asked ↔ (∃ m ∈ s.rm.marks, m.recId = recId.toNat ∧ m.which = 1) ∨
          ∃ m, s.rm.flight = some (.mark m) ∧ m.recId = recId.toNat ∧ m.which = 1) →
        (e.hold ≠ .held → exec (.release q recId) s = .next (answered (renewed s) q 6 3 [])) ∧
        (e.hold = .held → asked → exec (.release q recId) s = .next (answered (renewed s) q 6 0 [])) ∧
        ∀ p, e.hold = .held → ¬asked → e.firstPage = some p → exec (.release q recId) s = .next (answered
          { renewed s with rm := { s.rm with marks := s.rm.marks ++ [⟨recId.toNat, p, 1⟩] } } q 6 0 [])) ∧
    (s.rm.wiping = true → exec (.wipe q) s = .next (answered (renewed s) q 7 1 [])) ∧
    (s.rm.wiping = false → s.rm.cap.mode ≠ .idle → exec (.wipe q) s = .next (answered (renewed s) q 7 3 [])) ∧
    (s.rm.wiping = false → s.rm.cap.mode = .idle → exec (.wipe q) s = .next (answered
      { renewed s with rm := { s.rm with
        dir := [], marks := [], eraseAhead := none, programReq := false, wiping := true
        map := s.rm.map.map (fun k => if k = .care then .care else .freeDirty)
        wipeList := (List.range 512).filter (fun p => !isCarePage p) } } q 7 0 [])) ∧
    (∀ (seconds : BitVec 32) (u : State),
      u = enterHoldover (stepClock (renewed s) (((seconds.toNat : Int) - s.tb.clock.sec) * 1000000)) 14 →
      (s.tb.state = .unset → exec (.setSeconds q seconds) s = .next (answered
        { u with tb := { u.tb with seed := none }, heat := s.heat.reportExit u.tb.clock } q 8 0 [])) ∧
      (s.tb.state = .holdover → s.tb.grade = 14 → exec (.setSeconds q seconds) s = .next (answered u q 8 0 [])) ∧
      (¬(s.tb.state = .unset ∨ (s.tb.state = .holdover ∧ s.tb.grade = 14)) →
        exec (.setSeconds q seconds) s = .next (answered (renewed s) q 8 3 []))) ∧
    exec (.latchClear q) s = .next (answered (latchesCleared (renewed s)) q 9 0 []) ∧
    (s.query.restartPending = true → exec (.restart q) s = .next (answered (renewed s) q 10 1 [])) ∧
    (s.query.restartPending = false → exec (.restart q) s = .next (answered
      (dueSnapshot { renewed s with query := { s.query with restartPending := true } } .restart) q 10 0 []))

/-- Queries that are not carried out (R200): BAD_REQUEST for a code or arguments that are not those of the table, and in
listen-only no answer to any query but STATUS, nor to a STATUS that would be BAD_REQUEST (log entry 34). With more than 8
argument bytes it is a bad frame (R194), and a code and arguments that are those of the table are no bad request (log entry 4).
The engine's choice at the end is log entry 13. -/
def Obligations.OtherQueriesAreTurnedAway : Prop :=
  ∀ (s : State) (q : QueryHeader), queryHeard s q →
    (s.listenOnly = false →
      (∀ (code : Byte) (args : List Byte), args.length ≤ 8 → queryMalformed code.toNat args →
        exec (.badRequest q code args) s = .next (answeredBad (renewed s) q code.toNat)) ∧
      (∀ sect : Byte, 8 < sect.toNat → exec (.status q sect) s = .next (answeredBad (renewed s) q 1)) ∧
      ∀ recId idx slice, 31 < slice.toNat →
        exec (.page q recId idx slice) s = .next (answeredBad (renewed s) q 5)) ∧
    (s.listenOnly = true → ∀ c : Instr,
      ((∃ index, c = .peer q index ∨ c = .event q index ∨ c = .record q index) ∨
        (∃ recId idx slice, c = .page q recId idx slice) ∨ (∃ recId, c = .release q recId) ∨ c = .wipe q ∨
        (∃ seconds, c = .setSeconds q seconds) ∨ c = .latchClear q ∨ c = .restart q ∨
        (∃ sect : Byte, c = .status q sect ∧ 8 < sect.toNat) ∨
        ∃ code args, c = .badRequest q code args ∧ args.length ≤ 8 ∧ queryMalformed code.toNat args) →
      exec c s = .next (ignored (renewed s))) ∧
    (∀ code args, args.length ≤ 8 → ¬queryMalformed code.toNat args → exec (.badRequest q code args) s = .next s) ∧
    ∀ code args, 8 < args.length → exec (.badRequest q code args) s = .next { s with line := { s.line with
      rx := .discarded, badFrame := min (s.line.badFrame + 1) 65535 } }

end Statements
end

