-- ==== Sys2Proof/Laws/FramesRecord.lean ====
section
/-! SUPPORT. The frames of the Timebase's and the Record Memory's operations: what of the state each leaves alone. -/

namespace Sys2Proof.Machine

@[simp] theorem reformGrade_frame (s : State) :
    (reformGrade s).phase = s.phase ∧ (reformGrade s).profile = s.profile ∧ (reformGrade s).ownId = s.ownId ∧
      (reformGrade s).listenOnly = s.listenOnly ∧ (reformGrade s).listenCause = s.listenCause ∧
      (reformGrade s).clamped = s.clamped ∧ (reformGrade s).mem = s.mem ∧ (reformGrade s).peers = s.peers ∧
      (reformGrade s).sampler = s.sampler ∧ (reformGrade s).det = s.det ∧ (reformGrade s).picks = s.picks ∧
      (reformGrade s).events = s.events ∧ (reformGrade s).rm = s.rm ∧ (reformGrade s).bat = s.bat ∧
      (reformGrade s).heat = s.heat ∧ (reformGrade s).line = s.line ∧ (reformGrade s).query = s.query ∧
      (reformGrade s).freeCount = s.freeCount ∧ (reformGrade s).pending = s.pending := by
  generalize h : reformGrade s = u
  unfold reformGrade at h
  (repeat' split at h) <;> (subst h; simp)

@[simp] theorem enterHoldover_frame (s : State) (grade : ℕ) :
    (enterHoldover s grade).phase = s.phase ∧ (enterHoldover s grade).profile = s.profile ∧
      (enterHoldover s grade).ownId = s.ownId ∧ (enterHoldover s grade).listenOnly = s.listenOnly ∧
      (enterHoldover s grade).listenCause = s.listenCause ∧ (enterHoldover s grade).clamped = s.clamped ∧
      (enterHoldover s grade).mem = s.mem ∧ (enterHoldover s grade).peers = s.peers ∧
      (enterHoldover s grade).sampler = s.sampler ∧ (enterHoldover s grade).det = s.det ∧
      (enterHoldover s grade).picks = s.picks ∧ (enterHoldover s grade).events = s.events ∧
      (enterHoldover s grade).rm = s.rm ∧ (enterHoldover s grade).bat = s.bat ∧
      (enterHoldover s grade).heat = s.heat ∧ (enterHoldover s grade).line = s.line ∧
      (enterHoldover s grade).query = s.query ∧ (enterHoldover s grade).freeCount = s.freeCount ∧
      (enterHoldover s grade).pending = s.pending := by
  unfold enterHoldover
  simp

@[simp] theorem stepClock_frame (s : State) (d : ℤ) :
    (stepClock s d).phase = s.phase ∧ (stepClock s d).profile = s.profile ∧ (stepClock s d).ownId = s.ownId ∧
      (stepClock s d).listenOnly = s.listenOnly ∧ (stepClock s d).listenCause = s.listenCause ∧
      (stepClock s d).clamped = s.clamped ∧ (stepClock s d).mem = s.mem ∧ (stepClock s d).peers = s.peers ∧
      (stepClock s d).sampler = s.sampler ∧ (stepClock s d).det = s.det ∧ (stepClock s d).picks = s.picks ∧
      (stepClock s d).events = s.events ∧ (stepClock s d).bat = s.bat ∧ (stepClock s d).heat = s.heat ∧
      (stepClock s d).query = s.query ∧ (stepClock s d).freeCount = s.freeCount ∧
      (stepClock s d).pending = s.pending := by
  unfold stepClock
  simp

@[simp] theorem rescheduleTick_frame (s : State) :
    (rescheduleTick s).phase = s.phase ∧ (rescheduleTick s).profile = s.profile ∧ (rescheduleTick s).ownId = s.ownId ∧
      (rescheduleTick s).listenOnly = s.listenOnly ∧ (rescheduleTick s).listenCause = s.listenCause ∧
      (rescheduleTick s).clamped = s.clamped ∧ (rescheduleTick s).mem = s.mem ∧ (rescheduleTick s).peers = s.peers ∧
      (rescheduleTick s).sampler = s.sampler ∧ (rescheduleTick s).det = s.det ∧ (rescheduleTick s).picks = s.picks ∧
      (rescheduleTick s).events = s.events ∧ (rescheduleTick s).rm = s.rm ∧ (rescheduleTick s).bat = s.bat ∧
      (rescheduleTick s).heat = s.heat ∧ (rescheduleTick s).line = s.line ∧ (rescheduleTick s).query = s.query ∧
      (rescheduleTick s).freeCount = s.freeCount ∧ (rescheduleTick s).pending = s.pending := by
  generalize h : rescheduleTick s = u
  unfold rescheduleTick at h
  (repeat' split at h) <;> (subst h; simp)

@[simp] theorem setKind_frame (s : State) (page : ℕ) (k : PageKind) :
    (setKind s page k).phase = s.phase ∧ (setKind s page k).profile = s.profile ∧ (setKind s page k).ownId = s.ownId ∧
      (setKind s page k).listenOnly = s.listenOnly ∧ (setKind s page k).listenCause = s.listenCause ∧
      (setKind s page k).clamped = s.clamped ∧ (setKind s page k).mem = s.mem ∧ (setKind s page k).tb = s.tb ∧
      (setKind s page k).peers = s.peers ∧ (setKind s page k).sampler = s.sampler ∧ (setKind s page k).det = s.det ∧
      (setKind s page k).picks = s.picks ∧ (setKind s page k).events = s.events ∧ (setKind s page k).bat = s.bat ∧
      (setKind s page k).heat = s.heat ∧ (setKind s page k).line = s.line ∧ (setKind s page k).query = s.query ∧
      (setKind s page k).freeCount = s.freeCount ∧ (setKind s page k).pending = s.pending := by
  unfold setKind
  simp

@[simp] theorem dirUpdate_frame (s : State) (id : ℕ) (f : DirEntry → DirEntry) :
    (dirUpdate s id f).phase = s.phase ∧ (dirUpdate s id f).profile = s.profile ∧ (dirUpdate s id f).ownId = s.ownId ∧
      (dirUpdate s id f).listenOnly = s.listenOnly ∧ (dirUpdate s id f).listenCause = s.listenCause ∧
      (dirUpdate s id f).clamped = s.clamped ∧ (dirUpdate s id f).mem = s.mem ∧ (dirUpdate s id f).tb = s.tb ∧
      (dirUpdate s id f).peers = s.peers ∧ (dirUpdate s id f).sampler = s.sampler ∧ (dirUpdate s id f).det = s.det ∧
      (dirUpdate s id f).picks = s.picks ∧ (dirUpdate s id f).events = s.events ∧ (dirUpdate s id f).bat = s.bat ∧
      (dirUpdate s id f).heat = s.heat ∧ (dirUpdate s id f).line = s.line ∧ (dirUpdate s id f).query = s.query ∧
      (dirUpdate s id f).freeCount = s.freeCount ∧ (dirUpdate s id f).pending = s.pending := by
  unfold dirUpdate
  simp

@[simp] theorem dirRemove_frame (s : State) (id : ℕ) :
    (dirRemove s id).phase = s.phase ∧ (dirRemove s id).profile = s.profile ∧ (dirRemove s id).ownId = s.ownId ∧
      (dirRemove s id).listenOnly = s.listenOnly ∧ (dirRemove s id).listenCause = s.listenCause ∧
      (dirRemove s id).clamped = s.clamped ∧ (dirRemove s id).mem = s.mem ∧ (dirRemove s id).tb = s.tb ∧
      (dirRemove s id).peers = s.peers ∧ (dirRemove s id).sampler = s.sampler ∧ (dirRemove s id).det = s.det ∧
      (dirRemove s id).picks = s.picks ∧ (dirRemove s id).events = s.events ∧ (dirRemove s id).bat = s.bat ∧
      (dirRemove s id).heat = s.heat ∧ (dirRemove s id).line = s.line ∧ (dirRemove s id).query = s.query ∧
      (dirRemove s id).freeCount = s.freeCount ∧ (dirRemove s id).pending = s.pending := by
  unfold dirRemove
  simp

@[simp] theorem freePages_frame (s : State) (id : ℕ) :
    (freePages s id).phase = s.phase ∧ (freePages s id).profile = s.profile ∧ (freePages s id).ownId = s.ownId ∧
      (freePages s id).listenOnly = s.listenOnly ∧ (freePages s id).listenCause = s.listenCause ∧
      (freePages s id).clamped = s.clamped ∧ (freePages s id).mem = s.mem ∧ (freePages s id).tb = s.tb ∧
      (freePages s id).peers = s.peers ∧ (freePages s id).sampler = s.sampler ∧ (freePages s id).det = s.det ∧
      (freePages s id).picks = s.picks ∧ (freePages s id).events = s.events ∧ (freePages s id).bat = s.bat ∧
      (freePages s id).heat = s.heat ∧ (freePages s id).line = s.line ∧ (freePages s id).query = s.query ∧
      (freePages s id).freeCount = s.freeCount ∧ (freePages s id).pending = s.pending := by
  unfold freePages
  simp

@[simp] theorem returnPage_frame (s : State) (id : ℕ) (page : ℕ) :
    (returnPage s id page).phase = s.phase ∧ (returnPage s id page).profile = s.profile ∧
      (returnPage s id page).ownId = s.ownId ∧ (returnPage s id page).listenOnly = s.listenOnly ∧
      (returnPage s id page).listenCause = s.listenCause ∧ (returnPage s id page).clamped = s.clamped ∧
      (returnPage s id page).mem = s.mem ∧ (returnPage s id page).tb = s.tb ∧ (returnPage s id page).peers = s.peers ∧
      (returnPage s id page).sampler = s.sampler ∧ (returnPage s id page).det = s.det ∧
      (returnPage s id page).picks = s.picks ∧ (returnPage s id page).events = s.events ∧
      (returnPage s id page).bat = s.bat ∧ (returnPage s id page).heat = s.heat ∧
      (returnPage s id page).line = s.line ∧ (returnPage s id page).query = s.query ∧
      (returnPage s id page).freeCount = s.freeCount ∧ (returnPage s id page).pending = s.pending := by
  unfold returnPage
  simp

@[simp] theorem lookAhead_frame (s : State) :
    (lookAhead s).phase = s.phase ∧ (lookAhead s).profile = s.profile ∧ (lookAhead s).ownId = s.ownId ∧
      (lookAhead s).listenOnly = s.listenOnly ∧ (lookAhead s).listenCause = s.listenCause ∧
      (lookAhead s).clamped = s.clamped ∧ (lookAhead s).mem = s.mem ∧ (lookAhead s).tb = s.tb ∧
      (lookAhead s).peers = s.peers ∧ (lookAhead s).sampler = s.sampler ∧ (lookAhead s).det = s.det ∧
      (lookAhead s).picks = s.picks ∧ (lookAhead s).events = s.events ∧ (lookAhead s).bat = s.bat ∧
      (lookAhead s).heat = s.heat ∧ (lookAhead s).line = s.line ∧ (lookAhead s).query = s.query ∧
      (lookAhead s).freeCount = s.freeCount ∧ (lookAhead s).pending = s.pending := by
  generalize h : lookAhead s = u
  unfold lookAhead at h
  (repeat' split at h) <;> (subst h; simp)

theorem reclaim_frame (s : State) (u : State) (h : reclaim s = some u) :
    u.phase = s.phase ∧ u.profile = s.profile ∧ u.ownId = s.ownId ∧ u.listenOnly = s.listenOnly ∧
      u.listenCause = s.listenCause ∧ u.clamped = s.clamped ∧ u.mem = s.mem ∧ u.tb = s.tb ∧ u.peers = s.peers ∧
      u.sampler = s.sampler ∧ u.det = s.det ∧ u.picks = s.picks ∧ u.events = s.events ∧ u.bat = s.bat ∧
      u.heat = s.heat ∧ u.line = s.line ∧ u.query = s.query ∧ u.freeCount = s.freeCount ∧ u.pending = s.pending := by
  unfold reclaim at h
  split at h
  · simp at h
  · simp only [Option.some.injEq] at h
    subst h
    simp

@[simp] theorem takePage_frame (s : State) (page : ℕ) (id : ℕ) (idx : ℕ) :
    (takePage s page id idx).phase = s.phase ∧ (takePage s page id idx).profile = s.profile ∧
      (takePage s page id idx).ownId = s.ownId ∧ (takePage s page id idx).listenOnly = s.listenOnly ∧
      (takePage s page id idx).listenCause = s.listenCause ∧ (takePage s page id idx).clamped = s.clamped ∧
      (takePage s page id idx).mem = s.mem ∧ (takePage s page id idx).tb = s.tb ∧
      (takePage s page id idx).peers = s.peers ∧ (takePage s page id idx).sampler = s.sampler ∧
      (takePage s page id idx).det = s.det ∧ (takePage s page id idx).picks = s.picks ∧
      (takePage s page id idx).events = s.events ∧ (takePage s page id idx).bat = s.bat ∧
      (takePage s page id idx).heat = s.heat ∧ (takePage s page id idx).line = s.line ∧
      (takePage s page id idx).query = s.query ∧ (takePage s page id idx).freeCount = s.freeCount ∧
      (takePage s page id idx).pending = s.pending := by
  unfold takePage
  simp

@[simp] theorem setCap_frame (s : State) (c : Capture) :
    (setCap s c).phase = s.phase ∧ (setCap s c).profile = s.profile ∧ (setCap s c).ownId = s.ownId ∧
      (setCap s c).listenOnly = s.listenOnly ∧ (setCap s c).listenCause = s.listenCause ∧
      (setCap s c).clamped = s.clamped ∧ (setCap s c).mem = s.mem ∧ (setCap s c).tb = s.tb ∧
      (setCap s c).peers = s.peers ∧ (setCap s c).sampler = s.sampler ∧ (setCap s c).det = s.det ∧
      (setCap s c).picks = s.picks ∧ (setCap s c).events = s.events ∧ (setCap s c).bat = s.bat ∧
      (setCap s c).heat = s.heat ∧ (setCap s c).line = s.line ∧ (setCap s c).query = s.query ∧
      (setCap s c).freeCount = s.freeCount ∧ (setCap s c).pending = s.pending := by
  unfold setCap
  simp

@[simp] theorem countClose_frame (s : State) (cause : EndCause) :
    (countClose s cause).phase = s.phase ∧ (countClose s cause).profile = s.profile ∧
      (countClose s cause).ownId = s.ownId ∧ (countClose s cause).listenOnly = s.listenOnly ∧
      (countClose s cause).listenCause = s.listenCause ∧ (countClose s cause).clamped = s.clamped ∧
      (countClose s cause).mem = s.mem ∧ (countClose s cause).tb = s.tb ∧ (countClose s cause).peers = s.peers ∧
      (countClose s cause).sampler = s.sampler ∧ (countClose s cause).det = s.det ∧
      (countClose s cause).picks = s.picks ∧ (countClose s cause).events = s.events ∧
      (countClose s cause).bat = s.bat ∧ (countClose s cause).heat = s.heat ∧ (countClose s cause).line = s.line ∧
      (countClose s cause).query = s.query ∧ (countClose s cause).freeCount = s.freeCount ∧
      (countClose s cause).pending = s.pending := by
  generalize h : countClose s cause = u
  unfold countClose at h
  (repeat' split at h) <;> (subst h; simp)

@[simp] theorem dropRecord_frame (s : State) (id : ℕ) :
    (dropRecord s id).phase = s.phase ∧ (dropRecord s id).profile = s.profile ∧ (dropRecord s id).ownId = s.ownId ∧
      (dropRecord s id).listenOnly = s.listenOnly ∧ (dropRecord s id).listenCause = s.listenCause ∧
      (dropRecord s id).clamped = s.clamped ∧ (dropRecord s id).mem = s.mem ∧ (dropRecord s id).tb = s.tb ∧
      (dropRecord s id).peers = s.peers ∧ (dropRecord s id).sampler = s.sampler ∧ (dropRecord s id).det = s.det ∧
      (dropRecord s id).picks = s.picks ∧ (dropRecord s id).events = s.events ∧ (dropRecord s id).bat = s.bat ∧
      (dropRecord s id).heat = s.heat ∧ (dropRecord s id).line = s.line ∧ (dropRecord s id).query = s.query ∧
      (dropRecord s id).freeCount = s.freeCount ∧ (dropRecord s id).pending = s.pending := by
  unfold dropRecord
  simp

@[simp] theorem markClosed_frame (s : State) (id : ℕ) (cause : EndCause) :
    (markClosed s id cause).phase = s.phase ∧ (markClosed s id cause).profile = s.profile ∧
      (markClosed s id cause).ownId = s.ownId ∧ (markClosed s id cause).listenOnly = s.listenOnly ∧
      (markClosed s id cause).listenCause = s.listenCause ∧ (markClosed s id cause).clamped = s.clamped ∧
      (markClosed s id cause).mem = s.mem ∧ (markClosed s id cause).tb = s.tb ∧
      (markClosed s id cause).peers = s.peers ∧ (markClosed s id cause).sampler = s.sampler ∧
      (markClosed s id cause).det = s.det ∧ (markClosed s id cause).picks = s.picks ∧
      (markClosed s id cause).events = s.events ∧ (markClosed s id cause).bat = s.bat ∧
      (markClosed s id cause).heat = s.heat ∧ (markClosed s id cause).line = s.line ∧
      (markClosed s id cause).query = s.query ∧ (markClosed s id cause).freeCount = s.freeCount ∧
      (markClosed s id cause).pending = s.pending := by
  unfold markClosed
  simp

@[simp] theorem captureFreed_frame (s : State) :
    (captureFreed s).phase = s.phase ∧ (captureFreed s).profile = s.profile ∧ (captureFreed s).ownId = s.ownId ∧
      (captureFreed s).listenOnly = s.listenOnly ∧ (captureFreed s).listenCause = s.listenCause ∧
      (captureFreed s).clamped = s.clamped ∧ (captureFreed s).mem = s.mem ∧ (captureFreed s).tb = s.tb ∧
      (captureFreed s).peers = s.peers ∧ (captureFreed s).sampler = s.sampler ∧ (captureFreed s).det = s.det ∧
      (captureFreed s).picks = s.picks ∧ (captureFreed s).events = s.events ∧ (captureFreed s).bat = s.bat ∧
      (captureFreed s).heat = s.heat ∧ (captureFreed s).line = s.line ∧ (captureFreed s).query = s.query ∧
      (captureFreed s).freeCount = s.freeCount ∧ (captureFreed s).pending = s.pending := by
  generalize h : captureFreed s = u
  unfold captureFreed at h
  dsimp only at h
  (repeat' split at h) <;> (subst h; simp)

@[simp] theorem captureClosing_frame (s : State) (b : PageBuffer) :
    (captureClosing s b).phase = s.phase ∧ (captureClosing s b).profile = s.profile ∧
      (captureClosing s b).ownId = s.ownId ∧ (captureClosing s b).listenOnly = s.listenOnly ∧
      (captureClosing s b).listenCause = s.listenCause ∧ (captureClosing s b).clamped = s.clamped ∧
      (captureClosing s b).mem = s.mem ∧ (captureClosing s b).tb = s.tb ∧ (captureClosing s b).peers = s.peers ∧
      (captureClosing s b).sampler = s.sampler ∧ (captureClosing s b).det = s.det ∧
      (captureClosing s b).picks = s.picks ∧ (captureClosing s b).events = s.events ∧
      (captureClosing s b).bat = s.bat ∧ (captureClosing s b).heat = s.heat ∧ (captureClosing s b).line = s.line ∧
      (captureClosing s b).query = s.query ∧ (captureClosing s b).freeCount = s.freeCount ∧
      (captureClosing s b).pending = s.pending := by
  unfold captureClosing
  simp

@[simp] theorem returnIf_frame (s : State) (id : ℕ) (page : Option ℕ) :
    (returnIf s id page).phase = s.phase ∧ (returnIf s id page).profile = s.profile ∧
      (returnIf s id page).ownId = s.ownId ∧ (returnIf s id page).listenOnly = s.listenOnly ∧
      (returnIf s id page).listenCause = s.listenCause ∧ (returnIf s id page).clamped = s.clamped ∧
      (returnIf s id page).mem = s.mem ∧ (returnIf s id page).tb = s.tb ∧ (returnIf s id page).peers = s.peers ∧
      (returnIf s id page).sampler = s.sampler ∧ (returnIf s id page).det = s.det ∧
      (returnIf s id page).picks = s.picks ∧ (returnIf s id page).events = s.events ∧
      (returnIf s id page).bat = s.bat ∧ (returnIf s id page).heat = s.heat ∧ (returnIf s id page).line = s.line ∧
      (returnIf s id page).query = s.query ∧ (returnIf s id page).freeCount = s.freeCount ∧
      (returnIf s id page).pending = s.pending := by
  generalize h : returnIf s id page = u
  unfold returnIf at h
  (repeat' split at h) <;> (subst h; simp)

@[simp] theorem closeRecord_frame (s : State) (cause : EndCause) :
    (closeRecord s cause).phase = s.phase ∧ (closeRecord s cause).profile = s.profile ∧
      (closeRecord s cause).ownId = s.ownId ∧ (closeRecord s cause).listenOnly = s.listenOnly ∧
      (closeRecord s cause).listenCause = s.listenCause ∧ (closeRecord s cause).clamped = s.clamped ∧
      (closeRecord s cause).mem = s.mem ∧ (closeRecord s cause).tb = s.tb ∧ (closeRecord s cause).peers = s.peers ∧
      (closeRecord s cause).sampler = s.sampler ∧ (closeRecord s cause).det = s.det ∧
      (closeRecord s cause).picks = s.picks ∧ (closeRecord s cause).events = s.events ∧
      (closeRecord s cause).bat = s.bat ∧ (closeRecord s cause).heat = s.heat ∧ (closeRecord s cause).line = s.line ∧
      (closeRecord s cause).query = s.query ∧ (closeRecord s cause).freeCount = s.freeCount ∧
      (closeRecord s cause).pending = s.pending := by
  generalize h : closeRecord s cause = u
  unfold closeRecord at h
  dsimp only at h
  (repeat' split at h) <;> (subst h; simp)

@[simp] theorem dropWaiting_frame (s : State) :
    (dropWaiting s).phase = s.phase ∧ (dropWaiting s).profile = s.profile ∧ (dropWaiting s).ownId = s.ownId ∧
      (dropWaiting s).listenOnly = s.listenOnly ∧ (dropWaiting s).listenCause = s.listenCause ∧
      (dropWaiting s).clamped = s.clamped ∧ (dropWaiting s).mem = s.mem ∧ (dropWaiting s).tb = s.tb ∧
      (dropWaiting s).peers = s.peers ∧ (dropWaiting s).sampler = s.sampler ∧ (dropWaiting s).det = s.det ∧
      (dropWaiting s).picks = s.picks ∧ (dropWaiting s).events = s.events ∧ (dropWaiting s).bat = s.bat ∧
      (dropWaiting s).heat = s.heat ∧ (dropWaiting s).line = s.line ∧ (dropWaiting s).query = s.query ∧
      (dropWaiting s).freeCount = s.freeCount ∧ (dropWaiting s).pending = s.pending := by
  generalize h : dropWaiting s = u
  unfold dropWaiting at h
  (repeat' split at h) <;> (subst h; simp)

@[simp] theorem closeAtOnce_frame (s : State) (cause : EndCause) :
    (closeAtOnce s cause).phase = s.phase ∧ (closeAtOnce s cause).profile = s.profile ∧
      (closeAtOnce s cause).ownId = s.ownId ∧ (closeAtOnce s cause).listenOnly = s.listenOnly ∧
      (closeAtOnce s cause).listenCause = s.listenCause ∧ (closeAtOnce s cause).clamped = s.clamped ∧
      (closeAtOnce s cause).mem = s.mem ∧ (closeAtOnce s cause).tb = s.tb ∧ (closeAtOnce s cause).peers = s.peers ∧
      (closeAtOnce s cause).sampler = s.sampler ∧ (closeAtOnce s cause).det = s.det ∧
      (closeAtOnce s cause).picks = s.picks ∧ (closeAtOnce s cause).events = s.events ∧
      (closeAtOnce s cause).bat = s.bat ∧ (closeAtOnce s cause).heat = s.heat ∧ (closeAtOnce s cause).line = s.line ∧
      (closeAtOnce s cause).query = s.query ∧ (closeAtOnce s cause).freeCount = s.freeCount ∧
      (closeAtOnce s cause).pending = s.pending := by
  generalize h : closeAtOnce s cause = u
  unfold closeAtOnce at h
  (repeat' split at h) <;> (subst h; simp)

@[simp] theorem announceDisplaced_frame (s : State) (num : ℕ) :
    (announceDisplaced s num).phase = s.phase ∧ (announceDisplaced s num).profile = s.profile ∧
      (announceDisplaced s num).ownId = s.ownId ∧ (announceDisplaced s num).listenOnly = s.listenOnly ∧
      (announceDisplaced s num).listenCause = s.listenCause ∧ (announceDisplaced s num).clamped = s.clamped ∧
      (announceDisplaced s num).mem = s.mem ∧ (announceDisplaced s num).tb = s.tb ∧
      (announceDisplaced s num).peers = s.peers ∧ (announceDisplaced s num).sampler = s.sampler ∧
      (announceDisplaced s num).det = s.det ∧ (announceDisplaced s num).picks = s.picks ∧
      (announceDisplaced s num).events = s.events ∧ (announceDisplaced s num).bat = s.bat ∧
      (announceDisplaced s num).heat = s.heat ∧ (announceDisplaced s num).line = s.line ∧
      (announceDisplaced s num).query = s.query ∧ (announceDisplaced s num).freeCount = s.freeCount ∧
      (announceDisplaced s num).pending = s.pending := by
  generalize h : announceDisplaced s num = u
  unfold announceDisplaced at h
  (repeat' split at h) <;> (subst h; simp)

@[simp] theorem bufferSet_frame (s : State) (id : ℕ) (x : SampleSet) :
    (bufferSet s id x).phase = s.phase ∧ (bufferSet s id x).profile = s.profile ∧ (bufferSet s id x).ownId = s.ownId ∧
      (bufferSet s id x).listenOnly = s.listenOnly ∧ (bufferSet s id x).listenCause = s.listenCause ∧
      (bufferSet s id x).clamped = s.clamped ∧ (bufferSet s id x).mem = s.mem ∧ (bufferSet s id x).tb = s.tb ∧
      (bufferSet s id x).peers = s.peers ∧ (bufferSet s id x).sampler = s.sampler ∧ (bufferSet s id x).det = s.det ∧
      (bufferSet s id x).picks = s.picks ∧ (bufferSet s id x).events = s.events ∧ (bufferSet s id x).bat = s.bat ∧
      (bufferSet s id x).heat = s.heat ∧ (bufferSet s id x).line = s.line ∧ (bufferSet s id x).query = s.query ∧
      (bufferSet s id x).freeCount = s.freeCount ∧ (bufferSet s id x).pending = s.pending := by
  unfold bufferSet
  simp

@[simp] theorem storeSet_frame (s : State) (id : ℕ) (x : SampleSet) :
    (storeSet s id x).phase = s.phase ∧ (storeSet s id x).profile = s.profile ∧ (storeSet s id x).ownId = s.ownId ∧
      (storeSet s id x).listenOnly = s.listenOnly ∧ (storeSet s id x).listenCause = s.listenCause ∧
      (storeSet s id x).clamped = s.clamped ∧ (storeSet s id x).mem = s.mem ∧ (storeSet s id x).tb = s.tb ∧
      (storeSet s id x).peers = s.peers ∧ (storeSet s id x).sampler = s.sampler ∧ (storeSet s id x).det = s.det ∧
      (storeSet s id x).picks = s.picks ∧ (storeSet s id x).events = s.events ∧ (storeSet s id x).bat = s.bat ∧
      (storeSet s id x).heat = s.heat ∧ (storeSet s id x).line = s.line ∧ (storeSet s id x).query = s.query ∧
      (storeSet s id x).freeCount = s.freeCount ∧ (storeSet s id x).pending = s.pending := by
  generalize h : storeSet s id x = u
  unfold storeSet at h
  dsimp only at h
  (repeat' split at h) <;> (subst h; simp)

/-- What an allocation leaves: the state it answers with. -/
def Alloc.state (a : Alloc) : State :=
  match a with
  | .got s _ => s
  | .wait s => s
  | .fail s => s

@[simp] theorem allocate_frame (fuel : ℕ) (s : State) (id idx : ℕ) :
    (allocate fuel s id idx).state.phase = s.phase ∧ (allocate fuel s id idx).state.profile = s.profile ∧
      (allocate fuel s id idx).state.ownId = s.ownId ∧ (allocate fuel s id idx).state.listenOnly = s.listenOnly ∧
      (allocate fuel s id idx).state.listenCause = s.listenCause ∧
      (allocate fuel s id idx).state.clamped = s.clamped ∧ (allocate fuel s id idx).state.mem = s.mem ∧
      (allocate fuel s id idx).state.tb = s.tb ∧ (allocate fuel s id idx).state.peers = s.peers ∧
      (allocate fuel s id idx).state.sampler = s.sampler ∧ (allocate fuel s id idx).state.det = s.det ∧
      (allocate fuel s id idx).state.picks = s.picks ∧ (allocate fuel s id idx).state.events = s.events ∧
      (allocate fuel s id idx).state.bat = s.bat ∧ (allocate fuel s id idx).state.heat = s.heat ∧
      (allocate fuel s id idx).state.line = s.line ∧ (allocate fuel s id idx).state.query = s.query ∧
      (allocate fuel s id idx).state.freeCount = s.freeCount ∧
      (allocate fuel s id idx).state.pending = s.pending := by
  induction fuel generalizing s with
  | zero =>
    unfold allocate allocateOr
    generalize h : nextFree s = o
    cases o with
    | none => simp [Alloc.state]
    | some p =>
      dsimp only
      split <;> simp [Alloc.state]
  | succ k ih =>
    unfold allocate allocateOr
    generalize h : nextFree s = o
    cases o with
    | none =>
      dsimp only
      split
      · simp [Alloc.state]
      · rename_i t ht
        have h1 := reclaim_frame _ _ ht
        have h2 := ih t
        simp only [h2, h1, and_self]
    | some p =>
      dsimp only
      split <;> simp [Alloc.state]

theorem allocate_got {fuel : ℕ} {s t : State} {id idx p : ℕ} (h : allocate fuel s id idx = .got t p) :
    t = (allocate fuel s id idx).state := by rw [h]; rfl

theorem allocate_wait {fuel : ℕ} {s t : State} {id idx : ℕ} (h : allocate fuel s id idx = .wait t) :
    t = (allocate fuel s id idx).state := by rw [h]; rfl

theorem allocate_fail {fuel : ℕ} {s t : State} {id idx : ℕ} (h : allocate fuel s id idx = .fail t) :
    t = (allocate fuel s id idx).state := by rw [h]; rfl

@[simp] theorem captureStep_frame (s : State) :
    (captureStep s).1.phase = s.phase ∧ (captureStep s).1.profile = s.profile ∧ (captureStep s).1.ownId = s.ownId ∧
      (captureStep s).1.listenOnly = s.listenOnly ∧ (captureStep s).1.listenCause = s.listenCause ∧
      (captureStep s).1.clamped = s.clamped ∧ (captureStep s).1.mem = s.mem ∧ (captureStep s).1.tb = s.tb ∧
      (captureStep s).1.peers = s.peers ∧ (captureStep s).1.sampler = s.sampler ∧ (captureStep s).1.det = s.det ∧
      (captureStep s).1.picks = s.picks ∧ (captureStep s).1.events = s.events ∧ (captureStep s).1.bat = s.bat ∧
      (captureStep s).1.heat = s.heat ∧ (captureStep s).1.line = s.line ∧ (captureStep s).1.query = s.query ∧
      (captureStep s).1.freeCount = s.freeCount ∧ (captureStep s).1.pending = s.pending := by
  unfold captureStep
  split
  · simp
  · dsimp only
    split
    · rename_i t p h
      simp [allocate_got h]
    · rename_i t h
      simp [allocate_wait h]
    · rename_i t h
      simp [allocate_fail h]
  · simp
  · dsimp only
    split
    · rename_i t p h
      simp [allocate_got h]
    · rename_i t h
      simp [allocate_wait h]
    · rename_i t h
      simp [allocate_fail h]
  · simp

@[simp] theorem captureRun_frame (fuel : ℕ) (s : State) :
    (captureRun fuel s).phase = s.phase ∧ (captureRun fuel s).profile = s.profile ∧
      (captureRun fuel s).ownId = s.ownId ∧ (captureRun fuel s).listenOnly = s.listenOnly ∧
      (captureRun fuel s).listenCause = s.listenCause ∧ (captureRun fuel s).clamped = s.clamped ∧
      (captureRun fuel s).mem = s.mem ∧ (captureRun fuel s).tb = s.tb ∧ (captureRun fuel s).peers = s.peers ∧
      (captureRun fuel s).sampler = s.sampler ∧ (captureRun fuel s).det = s.det ∧
      (captureRun fuel s).picks = s.picks ∧ (captureRun fuel s).events = s.events ∧ (captureRun fuel s).bat = s.bat ∧
      (captureRun fuel s).heat = s.heat ∧ (captureRun fuel s).line = s.line ∧ (captureRun fuel s).query = s.query ∧
      (captureRun fuel s).freeCount = s.freeCount ∧ (captureRun fuel s).pending = s.pending := by
  induction fuel generalizing s with
  | zero => simp [captureRun]
  | succ k ih =>
    unfold captureRun
    split <;> simp [ih]

@[simp] theorem captureTake_frame (s : State) :
    (captureTake s).phase = s.phase ∧ (captureTake s).profile = s.profile ∧ (captureTake s).ownId = s.ownId ∧
      (captureTake s).listenOnly = s.listenOnly ∧ (captureTake s).listenCause = s.listenCause ∧
      (captureTake s).clamped = s.clamped ∧ (captureTake s).mem = s.mem ∧ (captureTake s).tb = s.tb ∧
      (captureTake s).peers = s.peers ∧ (captureTake s).sampler = s.sampler ∧ (captureTake s).det = s.det ∧
      (captureTake s).picks = s.picks ∧ (captureTake s).events = s.events ∧ (captureTake s).bat = s.bat ∧
      (captureTake s).heat = s.heat ∧ (captureTake s).line = s.line ∧ (captureTake s).query = s.query ∧
      (captureTake s).freeCount = s.freeCount ∧ (captureTake s).pending = s.pending := by
  unfold captureTake
  simp

theorem pageRoom_frame (s : State) (u : State) (h : pageRoom s = some u) :
    u.phase = s.phase ∧ u.profile = s.profile ∧ u.ownId = s.ownId ∧ u.listenOnly = s.listenOnly ∧
      u.listenCause = s.listenCause ∧ u.clamped = s.clamped ∧ u.mem = s.mem ∧ u.tb = s.tb ∧ u.peers = s.peers ∧
      u.sampler = s.sampler ∧ u.det = s.det ∧ u.picks = s.picks ∧ u.events = s.events ∧ u.bat = s.bat ∧
      u.heat = s.heat ∧ u.line = s.line ∧ u.query = s.query ∧ u.freeCount = s.freeCount ∧ u.pending = s.pending := by
  unfold pageRoom at h
  split at h
  · cases h
    simp
  · simpa using reclaim_frame s u h

theorem directoryRoom_frame (s : State) (u : State) (h : directoryRoom s = some u) :
    u.phase = s.phase ∧ u.profile = s.profile ∧ u.ownId = s.ownId ∧ u.listenOnly = s.listenOnly ∧
      u.listenCause = s.listenCause ∧ u.clamped = s.clamped ∧ u.mem = s.mem ∧ u.tb = s.tb ∧ u.peers = s.peers ∧
      u.sampler = s.sampler ∧ u.det = s.det ∧ u.picks = s.picks ∧ u.events = s.events ∧ u.bat = s.bat ∧
      u.heat = s.heat ∧ u.line = s.line ∧ u.query = s.query ∧ u.freeCount = s.freeCount ∧ u.pending = s.pending := by
  unfold directoryRoom at h
  split at h
  · cases h
    simp
  · simpa using reclaim_frame s u h

@[simp] theorem captureRefused_frame (s : State) :
    (captureRefused s).phase = s.phase ∧ (captureRefused s).profile = s.profile ∧ (captureRefused s).ownId = s.ownId ∧
      (captureRefused s).listenOnly = s.listenOnly ∧ (captureRefused s).listenCause = s.listenCause ∧
      (captureRefused s).clamped = s.clamped ∧ (captureRefused s).mem = s.mem ∧ (captureRefused s).tb = s.tb ∧
      (captureRefused s).peers = s.peers ∧ (captureRefused s).sampler = s.sampler ∧ (captureRefused s).det = s.det ∧
      (captureRefused s).picks = s.picks ∧ (captureRefused s).events = s.events ∧ (captureRefused s).bat = s.bat ∧
      (captureRefused s).heat = s.heat ∧ (captureRefused s).line = s.line ∧ (captureRefused s).query = s.query ∧
      (captureRefused s).freeCount = s.freeCount ∧ (captureRefused s).pending = s.pending := by
  unfold captureRefused
  simp

@[simp] theorem captureBegin_frame (s : State) (onset : ArrayTime) :
    (captureBegin s onset).phase = s.phase ∧ (captureBegin s onset).profile = s.profile ∧
      (captureBegin s onset).ownId = s.ownId ∧ (captureBegin s onset).listenOnly = s.listenOnly ∧
      (captureBegin s onset).listenCause = s.listenCause ∧ (captureBegin s onset).clamped = s.clamped ∧
      (captureBegin s onset).mem = s.mem ∧ (captureBegin s onset).tb = s.tb ∧ (captureBegin s onset).peers = s.peers ∧
      (captureBegin s onset).sampler = s.sampler ∧ (captureBegin s onset).det = s.det ∧
      (captureBegin s onset).picks = s.picks ∧ (captureBegin s onset).events = s.events ∧
      (captureBegin s onset).bat = s.bat ∧ (captureBegin s onset).heat = s.heat ∧
      (captureBegin s onset).line = s.line ∧ (captureBegin s onset).query = s.query ∧
      (captureBegin s onset).freeCount = s.freeCount ∧ (captureBegin s onset).pending = s.pending := by
  unfold captureBegin
  simp

@[simp] theorem capturePick_frame (s : State) (onset : ArrayTime) :
    (capturePick s onset).phase = s.phase ∧ (capturePick s onset).profile = s.profile ∧
      (capturePick s onset).ownId = s.ownId ∧ (capturePick s onset).listenOnly = s.listenOnly ∧
      (capturePick s onset).listenCause = s.listenCause ∧ (capturePick s onset).clamped = s.clamped ∧
      (capturePick s onset).mem = s.mem ∧ (capturePick s onset).tb = s.tb ∧ (capturePick s onset).peers = s.peers ∧
      (capturePick s onset).sampler = s.sampler ∧ (capturePick s onset).det = s.det ∧
      (capturePick s onset).picks = s.picks ∧ (capturePick s onset).events = s.events ∧
      (capturePick s onset).bat = s.bat ∧ (capturePick s onset).heat = s.heat ∧ (capturePick s onset).line = s.line ∧
      (capturePick s onset).query = s.query ∧ (capturePick s onset).freeCount = s.freeCount ∧
      (capturePick s onset).pending = s.pending := by
  unfold capturePick
  split
  · simp
  · split
    · simp
    · split
      · simp
      · rename_i t ht
        have h1 := directoryRoom_frame _ _ ht
        split
        · simp [h1]
        · rename_i v hv
          simp [pageRoom_frame _ _ hv, h1]

@[simp] theorem captureTriggerEnd_frame (s : State) (stamp : ArrayTime) :
    (captureTriggerEnd s stamp).phase = s.phase ∧ (captureTriggerEnd s stamp).profile = s.profile ∧
      (captureTriggerEnd s stamp).ownId = s.ownId ∧ (captureTriggerEnd s stamp).listenOnly = s.listenOnly ∧
      (captureTriggerEnd s stamp).listenCause = s.listenCause ∧ (captureTriggerEnd s stamp).clamped = s.clamped ∧
      (captureTriggerEnd s stamp).mem = s.mem ∧ (captureTriggerEnd s stamp).tb = s.tb ∧
      (captureTriggerEnd s stamp).peers = s.peers ∧ (captureTriggerEnd s stamp).sampler = s.sampler ∧
      (captureTriggerEnd s stamp).det = s.det ∧ (captureTriggerEnd s stamp).picks = s.picks ∧
      (captureTriggerEnd s stamp).events = s.events ∧ (captureTriggerEnd s stamp).bat = s.bat ∧
      (captureTriggerEnd s stamp).heat = s.heat ∧ (captureTriggerEnd s stamp).line = s.line ∧
      (captureTriggerEnd s stamp).query = s.query ∧ (captureTriggerEnd s stamp).freeCount = s.freeCount ∧
      (captureTriggerEnd s stamp).pending = s.pending := by
  generalize h : captureTriggerEnd s stamp = u
  unfold captureTriggerEnd at h
  (repeat' split at h) <;> (subst h; simp)

@[simp] theorem holdApply_frame (s : State) (r : HoldReq) :
    (holdApply s r).phase = s.phase ∧ (holdApply s r).profile = s.profile ∧ (holdApply s r).ownId = s.ownId ∧
      (holdApply s r).listenOnly = s.listenOnly ∧ (holdApply s r).listenCause = s.listenCause ∧
      (holdApply s r).clamped = s.clamped ∧ (holdApply s r).mem = s.mem ∧ (holdApply s r).tb = s.tb ∧
      (holdApply s r).peers = s.peers ∧ (holdApply s r).sampler = s.sampler ∧ (holdApply s r).det = s.det ∧
      (holdApply s r).picks = s.picks ∧ (holdApply s r).events = s.events ∧ (holdApply s r).bat = s.bat ∧
      (holdApply s r).heat = s.heat ∧ (holdApply s r).line = s.line ∧ (holdApply s r).query = s.query ∧
      (holdApply s r).freeCount = s.freeCount ∧ (holdApply s r).pending = s.pending := by
  unfold holdApply
  simp

theorem startCare_frame (s : State) (u : State) (h : startCare s = some u) :
    u.phase = s.phase ∧ u.profile = s.profile ∧ u.ownId = s.ownId ∧ u.listenOnly = s.listenOnly ∧
      u.listenCause = s.listenCause ∧ u.clamped = s.clamped ∧ u.mem = s.mem ∧ u.tb = s.tb ∧ u.peers = s.peers ∧
      u.sampler = s.sampler ∧ u.det = s.det ∧ u.picks = s.picks ∧ u.events = s.events ∧ u.heat = s.heat ∧
      u.line = s.line ∧ u.query = s.query ∧ u.freeCount = s.freeCount ∧ u.pending = s.pending := by
  unfold startCare at h
  (try dsimp only at h)
  (repeat' split at h) <;> first
    | (cases h; done)
    | (simp only [Option.some.injEq] at h; subst h; simp; done)

theorem startMark_frame (s : State) (u : State) (h : startMark s = some u) :
    u.phase = s.phase ∧ u.profile = s.profile ∧ u.ownId = s.ownId ∧ u.listenOnly = s.listenOnly ∧
      u.listenCause = s.listenCause ∧ u.clamped = s.clamped ∧ u.mem = s.mem ∧ u.tb = s.tb ∧ u.peers = s.peers ∧
      u.sampler = s.sampler ∧ u.det = s.det ∧ u.picks = s.picks ∧ u.events = s.events ∧ u.bat = s.bat ∧
      u.heat = s.heat ∧ u.line = s.line ∧ u.query = s.query ∧ u.freeCount = s.freeCount ∧ u.pending = s.pending := by
  unfold startMark at h
  (try dsimp only at h)
  (repeat' split at h) <;> first
    | (cases h; done)
    | (simp only [Option.some.injEq] at h; subst h; simp; done)

theorem startProgram_frame (s : State) (u : State) (h : startProgram s = some u) :
    u.phase = s.phase ∧ u.profile = s.profile ∧ u.ownId = s.ownId ∧ u.listenOnly = s.listenOnly ∧
      u.listenCause = s.listenCause ∧ u.clamped = s.clamped ∧ u.mem = s.mem ∧ u.tb = s.tb ∧ u.peers = s.peers ∧
      u.sampler = s.sampler ∧ u.det = s.det ∧ u.picks = s.picks ∧ u.events = s.events ∧ u.bat = s.bat ∧
      u.heat = s.heat ∧ u.line = s.line ∧ u.query = s.query ∧ u.freeCount = s.freeCount ∧ u.pending = s.pending := by
  unfold startProgram at h
  (try dsimp only at h)
  (repeat' split at h) <;> first
    | (cases h; done)
    | (simp only [Option.some.injEq] at h; subst h; simp; done)

theorem startAhead_frame (s : State) (u : State) (h : startAhead s = some u) :
    u.phase = s.phase ∧ u.profile = s.profile ∧ u.ownId = s.ownId ∧ u.listenOnly = s.listenOnly ∧
      u.listenCause = s.listenCause ∧ u.clamped = s.clamped ∧ u.mem = s.mem ∧ u.tb = s.tb ∧ u.peers = s.peers ∧
      u.sampler = s.sampler ∧ u.det = s.det ∧ u.picks = s.picks ∧ u.events = s.events ∧ u.bat = s.bat ∧
      u.heat = s.heat ∧ u.line = s.line ∧ u.query = s.query ∧ u.freeCount = s.freeCount ∧ u.pending = s.pending := by
  unfold startAhead at h
  (try dsimp only at h)
  (repeat' split at h) <;> first
    | (cases h; done)
    | (simp only [Option.some.injEq] at h; subst h; simp; done)

theorem startWipe_frame (s : State) (u : State) (h : startWipe s = some u) :
    u.phase = s.phase ∧ u.profile = s.profile ∧ u.ownId = s.ownId ∧ u.listenOnly = s.listenOnly ∧
      u.listenCause = s.listenCause ∧ u.clamped = s.clamped ∧ u.mem = s.mem ∧ u.tb = s.tb ∧ u.peers = s.peers ∧
      u.sampler = s.sampler ∧ u.det = s.det ∧ u.picks = s.picks ∧ u.events = s.events ∧ u.bat = s.bat ∧
      u.heat = s.heat ∧ u.line = s.line ∧ u.query = s.query ∧ u.freeCount = s.freeCount ∧ u.pending = s.pending := by
  unfold startWipe at h
  (try dsimp only at h)
  (repeat' split at h) <;> first
    | (cases h; done)
    | (simp only [Option.some.injEq] at h; subst h; simp; done)

theorem startFirst_frame (s : State) (u : State) (h : startFirst s = some u) :
    u.phase = s.phase ∧ u.profile = s.profile ∧ u.ownId = s.ownId ∧ u.listenOnly = s.listenOnly ∧
      u.listenCause = s.listenCause ∧ u.clamped = s.clamped ∧ u.mem = s.mem ∧ u.tb = s.tb ∧ u.peers = s.peers ∧
      u.sampler = s.sampler ∧ u.det = s.det ∧ u.picks = s.picks ∧ u.events = s.events ∧ u.heat = s.heat ∧
      u.line = s.line ∧ u.query = s.query ∧ u.freeCount = s.freeCount ∧ u.pending = s.pending := by
  unfold startFirst at h
  split at h
  · rename_i t ht
    cases h
    split at ht
    · simp [startCare_frame _ _ ht]
    · cases ht
  · split at h
    · simp only [Option.or_eq_some_iff] at h
      rcases h with h | ⟨-, h⟩
      · simp [startMark_frame _ _ h]
      rcases h with h | ⟨-, h⟩
      · simp [startProgram_frame _ _ h]
      rcases h with h | ⟨-, h⟩
      · simp [startAhead_frame _ _ h]
      · simp [startWipe_frame _ _ h]
    · cases h

@[simp] theorem engineKick_frame (s : State) :
    (engineKick s).phase = s.phase ∧ (engineKick s).profile = s.profile ∧ (engineKick s).ownId = s.ownId ∧
      (engineKick s).listenOnly = s.listenOnly ∧ (engineKick s).listenCause = s.listenCause ∧
      (engineKick s).clamped = s.clamped ∧ (engineKick s).mem = s.mem ∧ (engineKick s).tb = s.tb ∧
      (engineKick s).peers = s.peers ∧ (engineKick s).sampler = s.sampler ∧ (engineKick s).det = s.det ∧
      (engineKick s).picks = s.picks ∧ (engineKick s).events = s.events ∧ (engineKick s).heat = s.heat ∧
      (engineKick s).line = s.line ∧ (engineKick s).query = s.query ∧ (engineKick s).freeCount = s.freeCount ∧
      (engineKick s).pending = s.pending := by
  unfold engineKick
  split
  · simp
  · cases h : startFirst s with
    | none => simp
    | some t => simpa [h] using startFirst_frame _ _ h

@[simp] theorem clearFlight_frame (s : State) :
    (clearFlight s).phase = s.phase ∧ (clearFlight s).profile = s.profile ∧ (clearFlight s).ownId = s.ownId ∧
      (clearFlight s).listenOnly = s.listenOnly ∧ (clearFlight s).listenCause = s.listenCause ∧
      (clearFlight s).clamped = s.clamped ∧ (clearFlight s).mem = s.mem ∧ (clearFlight s).tb = s.tb ∧
      (clearFlight s).peers = s.peers ∧ (clearFlight s).sampler = s.sampler ∧ (clearFlight s).det = s.det ∧
      (clearFlight s).picks = s.picks ∧ (clearFlight s).events = s.events ∧ (clearFlight s).bat = s.bat ∧
      (clearFlight s).heat = s.heat ∧ (clearFlight s).line = s.line ∧ (clearFlight s).query = s.query ∧
      (clearFlight s).freeCount = s.freeCount ∧ (clearFlight s).pending = s.pending := by
  unfold clearFlight
  simp

@[simp] theorem markIfPending_frame (s : State) (id : ℕ) (page : ℕ) :
    (markIfPending s id page).phase = s.phase ∧ (markIfPending s id page).profile = s.profile ∧
      (markIfPending s id page).ownId = s.ownId ∧ (markIfPending s id page).listenOnly = s.listenOnly ∧
      (markIfPending s id page).listenCause = s.listenCause ∧ (markIfPending s id page).clamped = s.clamped ∧
      (markIfPending s id page).mem = s.mem ∧ (markIfPending s id page).tb = s.tb ∧
      (markIfPending s id page).peers = s.peers ∧ (markIfPending s id page).sampler = s.sampler ∧
      (markIfPending s id page).det = s.det ∧ (markIfPending s id page).picks = s.picks ∧
      (markIfPending s id page).events = s.events ∧ (markIfPending s id page).bat = s.bat ∧
      (markIfPending s id page).heat = s.heat ∧ (markIfPending s id page).line = s.line ∧
      (markIfPending s id page).query = s.query ∧ (markIfPending s id page).freeCount = s.freeCount ∧
      (markIfPending s id page).pending = s.pending := by
  generalize h : markIfPending s id page = u
  unfold markIfPending at h
  (repeat' split at h) <;> (subst h; simp)

@[simp] theorem setProgrammed_frame (s : State) (page : ℕ) :
    (setProgrammed s page).phase = s.phase ∧ (setProgrammed s page).profile = s.profile ∧
      (setProgrammed s page).ownId = s.ownId ∧ (setProgrammed s page).listenOnly = s.listenOnly ∧
      (setProgrammed s page).listenCause = s.listenCause ∧ (setProgrammed s page).clamped = s.clamped ∧
      (setProgrammed s page).mem = s.mem ∧ (setProgrammed s page).tb = s.tb ∧ (setProgrammed s page).peers = s.peers ∧
      (setProgrammed s page).sampler = s.sampler ∧ (setProgrammed s page).det = s.det ∧
      (setProgrammed s page).picks = s.picks ∧ (setProgrammed s page).events = s.events ∧
      (setProgrammed s page).bat = s.bat ∧ (setProgrammed s page).heat = s.heat ∧
      (setProgrammed s page).line = s.line ∧ (setProgrammed s page).query = s.query ∧
      (setProgrammed s page).freeCount = s.freeCount ∧ (setProgrammed s page).pending = s.pending := by
  generalize h : setProgrammed s page = u
  unfold setProgrammed at h
  (repeat' split at h) <;> (subst h; simp)

@[simp] theorem tailPage_frame (s : State) (id : ℕ) (b : PageBuffer) (x : SampleSet) (cause : EndCause) :
    (tailPage s id b x cause).phase = s.phase ∧ (tailPage s id b x cause).profile = s.profile ∧
      (tailPage s id b x cause).ownId = s.ownId ∧ (tailPage s id b x cause).listenOnly = s.listenOnly ∧
      (tailPage s id b x cause).listenCause = s.listenCause ∧ (tailPage s id b x cause).clamped = s.clamped ∧
      (tailPage s id b x cause).mem = s.mem ∧ (tailPage s id b x cause).tb = s.tb ∧
      (tailPage s id b x cause).peers = s.peers ∧ (tailPage s id b x cause).sampler = s.sampler ∧
      (tailPage s id b x cause).det = s.det ∧ (tailPage s id b x cause).picks = s.picks ∧
      (tailPage s id b x cause).events = s.events ∧ (tailPage s id b x cause).bat = s.bat ∧
      (tailPage s id b x cause).heat = s.heat ∧ (tailPage s id b x cause).line = s.line ∧
      (tailPage s id b x cause).query = s.query ∧ (tailPage s id b x cause).freeCount = s.freeCount ∧
      (tailPage s id b x cause).pending = s.pending := by
  unfold tailPage
  simp

@[simp] theorem capturePageDone_frame (s : State) :
    (capturePageDone s).phase = s.phase ∧ (capturePageDone s).profile = s.profile ∧
      (capturePageDone s).ownId = s.ownId ∧ (capturePageDone s).listenOnly = s.listenOnly ∧
      (capturePageDone s).listenCause = s.listenCause ∧ (capturePageDone s).clamped = s.clamped ∧
      (capturePageDone s).mem = s.mem ∧ (capturePageDone s).tb = s.tb ∧ (capturePageDone s).peers = s.peers ∧
      (capturePageDone s).sampler = s.sampler ∧ (capturePageDone s).det = s.det ∧
      (capturePageDone s).picks = s.picks ∧ (capturePageDone s).events = s.events ∧ (capturePageDone s).bat = s.bat ∧
      (capturePageDone s).heat = s.heat ∧ (capturePageDone s).line = s.line ∧ (capturePageDone s).query = s.query ∧
      (capturePageDone s).freeCount = s.freeCount ∧ (capturePageDone s).pending = s.pending := by
  generalize h : capturePageDone s = u
  unfold capturePageDone at h
  dsimp only at h
  (repeat' split at h) <;> (subst h; simp)

@[simp] theorem recordProgramDone_frame (s : State) (page : ℕ) (bytes : List Byte) :
    (recordProgramDone s page bytes).phase = s.phase ∧ (recordProgramDone s page bytes).profile = s.profile ∧
      (recordProgramDone s page bytes).ownId = s.ownId ∧ (recordProgramDone s page bytes).listenOnly = s.listenOnly ∧
      (recordProgramDone s page bytes).listenCause = s.listenCause ∧
      (recordProgramDone s page bytes).clamped = s.clamped ∧ (recordProgramDone s page bytes).tb = s.tb ∧
      (recordProgramDone s page bytes).peers = s.peers ∧ (recordProgramDone s page bytes).sampler = s.sampler ∧
      (recordProgramDone s page bytes).det = s.det ∧ (recordProgramDone s page bytes).picks = s.picks ∧
      (recordProgramDone s page bytes).events = s.events ∧ (recordProgramDone s page bytes).bat = s.bat ∧
      (recordProgramDone s page bytes).heat = s.heat ∧ (recordProgramDone s page bytes).line = s.line ∧
      (recordProgramDone s page bytes).query = s.query ∧ (recordProgramDone s page bytes).freeCount = s.freeCount ∧
      (recordProgramDone s page bytes).pending = s.pending := by
  unfold recordProgramDone
  simp

@[simp] theorem poolErased_frame (s : State) (page : ℕ) :
    (poolErased s page).phase = s.phase ∧ (poolErased s page).profile = s.profile ∧
      (poolErased s page).ownId = s.ownId ∧ (poolErased s page).listenOnly = s.listenOnly ∧
      (poolErased s page).listenCause = s.listenCause ∧ (poolErased s page).clamped = s.clamped ∧
      (poolErased s page).tb = s.tb ∧ (poolErased s page).peers = s.peers ∧ (poolErased s page).sampler = s.sampler ∧
      (poolErased s page).det = s.det ∧ (poolErased s page).picks = s.picks ∧ (poolErased s page).events = s.events ∧
      (poolErased s page).bat = s.bat ∧ (poolErased s page).heat = s.heat ∧ (poolErased s page).line = s.line ∧
      (poolErased s page).query = s.query ∧ (poolErased s page).freeCount = s.freeCount ∧
      (poolErased s page).pending = s.pending := by
  generalize h : poolErased s page = u
  unfold poolErased at h
  dsimp only at h
  (repeat' split at h) <;> (subst h; simp)

@[simp] theorem wipeErased_frame (s : State) (page : ℕ) :
    (wipeErased s page).phase = s.phase ∧ (wipeErased s page).profile = s.profile ∧
      (wipeErased s page).ownId = s.ownId ∧ (wipeErased s page).listenOnly = s.listenOnly ∧
      (wipeErased s page).listenCause = s.listenCause ∧ (wipeErased s page).clamped = s.clamped ∧
      (wipeErased s page).tb = s.tb ∧ (wipeErased s page).peers = s.peers ∧ (wipeErased s page).sampler = s.sampler ∧
      (wipeErased s page).det = s.det ∧ (wipeErased s page).picks = s.picks ∧ (wipeErased s page).events = s.events ∧
      (wipeErased s page).bat = s.bat ∧ (wipeErased s page).heat = s.heat ∧ (wipeErased s page).line = s.line ∧
      (wipeErased s page).query = s.query ∧ (wipeErased s page).freeCount = s.freeCount ∧
      (wipeErased s page).pending = s.pending := by
  generalize h : wipeErased s page = u
  unfold wipeErased at h
  dsimp only at h
  (repeat' split at h) <;> (subst h; simp)

@[simp] theorem careErased_frame (s : State) (page : ℕ) :
    (careErased s page).phase = s.phase ∧ (careErased s page).profile = s.profile ∧
      (careErased s page).ownId = s.ownId ∧ (careErased s page).listenOnly = s.listenOnly ∧
      (careErased s page).listenCause = s.listenCause ∧ (careErased s page).clamped = s.clamped ∧
      (careErased s page).tb = s.tb ∧ (careErased s page).peers = s.peers ∧ (careErased s page).sampler = s.sampler ∧
      (careErased s page).det = s.det ∧ (careErased s page).picks = s.picks ∧ (careErased s page).events = s.events ∧
      (careErased s page).heat = s.heat ∧ (careErased s page).line = s.line ∧ (careErased s page).query = s.query ∧
      (careErased s page).freeCount = s.freeCount ∧ (careErased s page).pending = s.pending := by
  generalize h : careErased s page = u
  unfold careErased at h
  dsimp only at h
  (repeat' split at h) <;> (subst h; simp)

@[simp] theorem markDone_frame (s : State) (m : MarkReq) :
    (markDone s m).phase = s.phase ∧ (markDone s m).profile = s.profile ∧ (markDone s m).ownId = s.ownId ∧
      (markDone s m).listenOnly = s.listenOnly ∧ (markDone s m).listenCause = s.listenCause ∧
      (markDone s m).clamped = s.clamped ∧ (markDone s m).tb = s.tb ∧ (markDone s m).peers = s.peers ∧
      (markDone s m).sampler = s.sampler ∧ (markDone s m).det = s.det ∧ (markDone s m).picks = s.picks ∧
      (markDone s m).events = s.events ∧ (markDone s m).bat = s.bat ∧ (markDone s m).heat = s.heat ∧
      (markDone s m).line = s.line ∧ (markDone s m).query = s.query ∧ (markDone s m).freeCount = s.freeCount ∧
      (markDone s m).pending = s.pending := by
  unfold markDone
  simp

@[simp] theorem scanMemory_frame (s : State) :
    (scanMemory s).phase = s.phase ∧ (scanMemory s).profile = s.profile ∧ (scanMemory s).ownId = s.ownId ∧
      (scanMemory s).listenOnly = s.listenOnly ∧ (scanMemory s).listenCause = s.listenCause ∧
      (scanMemory s).clamped = s.clamped ∧ (scanMemory s).mem = s.mem ∧ (scanMemory s).tb = s.tb ∧
      (scanMemory s).peers = s.peers ∧ (scanMemory s).sampler = s.sampler ∧ (scanMemory s).det = s.det ∧
      (scanMemory s).picks = s.picks ∧ (scanMemory s).events = s.events ∧ (scanMemory s).bat = s.bat ∧
      (scanMemory s).heat = s.heat ∧ (scanMemory s).line = s.line ∧ (scanMemory s).query = s.query ∧
      (scanMemory s).freeCount = s.freeCount ∧ (scanMemory s).pending = s.pending := by
  unfold scanMemory
  simp

end Sys2Proof.Machine
end

