-- ==== Sys2Proof/Laws/Capture.lean ====
section
/-! SUPPORT. What the capture's taking of sets can do (R134): it is the capture's moves, one after another, until it rests. -/

namespace Sys2Proof.Machine

/-! ### The capture under the operations of its moves -/

@[simp] theorem lookAhead_cap (s : State) : (lookAhead s).rm.cap = s.rm.cap := by
  unfold lookAhead; split
  · rfl
  · split <;> rfl

@[simp] theorem takePage_cap (s : State) (page id idx : Nat) : (takePage s page id idx).rm.cap = s.rm.cap := by
  simp [takePage, dirUpdate, setKind]

theorem reclaim_cap {s t : State} (h : reclaim s = some t) : t.rm.cap = s.rm.cap := by
  unfold reclaim at h
  split at h
  · cases h
  · simp only [Option.some.injEq] at h
    subst h
    rw [lookAhead_cap]; rfl

/-- An allocation leaves the capture to its caller. -/
theorem allocate_cap (fuel : Nat) (s : State) (id idx : Nat) : (allocate fuel s id idx).state.rm.cap = s.rm.cap := by
  induction fuel generalizing s with
  | zero =>
    unfold allocate allocateOr
    split
    · split <;> simp [Alloc.state]
    · rfl
  | succ k ih =>
    unfold allocate allocateOr
    split
    · split <;> simp [Alloc.state]
    · dsimp only
      split
      · rfl
      · rename_i t h
        rw [ih, reclaim_cap h]

/-! ### The moves that are left -/

/-- At most how many moves the page in a buffer needs: its allocation, its 168 sets, and its commit or close. -/
def PageBuffer.movesLeft (b : PageBuffer) : Nat :=
  if b.sets = [] then (if b.page.isNone then 170 else 169) else max 1 (169 - b.sets.length)

/-- At most how many moves a capture has left before it rests: those of its page, and those of a first page of a record that
waits. -/
def Capture.movesLeft (c : Capture) : Nat :=
  if c.mode = .opened ∧ c.buf.busy = false then c.buf.movesLeft + (if c.waiting.isSome then 171 else 0) else 0

theorem PageBuffer.movesLeft_pos (b : PageBuffer) : 1 ≤ b.movesLeft := by
  unfold PageBuffer.movesLeft; split_ifs <;> omega

theorem Capture.movesLeft_lt (c : Capture) : c.movesLeft < captureFuel := by
  unfold Capture.movesLeft PageBuffer.movesLeft captureFuel; split_ifs <;> omega

/-- A capture that has a move is OPEN with its buffer free. -/
theorem captureMove_opened {s : State} (h : captureMove s ≠ .rest) :
    s.rm.cap.mode = .opened ∧ s.rm.cap.buf.busy = false ∧ s.rm.cap.recId.isSome = true := by
  unfold captureMove at h
  dsimp only at h
  split at h
  · exact absurd rfl h
  · rename_i hm
    simp only [Bool.or_eq_true, bne_iff_ne, ne_eq, not_or, not_not, Bool.not_eq_true] at hm
    refine ⟨hm.1, hm.2, ?_⟩
    split at h
    · rename_i hr _; simp [hr]
    · exact absurd rfl h

/-- The close of a record that is OPEN with its buffer free: fewer moves are left. -/
theorem closeRecord_movesLeft (s : State) (cause : EndCause) (hm : s.rm.cap.mode = .opened)
    (hb : s.rm.cap.buf.busy = false) (hr : s.rm.cap.recId.isSome = true) :
    (closeRecord s cause).rm.cap.movesLeft < s.rm.cap.movesLeft := by
  obtain ⟨id, hid⟩ := Option.isSome_iff_exists.mp hr
  have hc : (countClose s cause).rm.cap = s.rm.cap := by unfold countClose; split <;> rfl
  have hret : ∀ (t : State) p, (returnIf t id p).rm.cap = t.rm.cap := by intro t p; cases p <;> rfl
  have hfreed : ∀ t : State, t.rm.cap = s.rm.cap → (captureFreed t).rm.cap.movesLeft < s.rm.cap.movesLeft := by
    intro t ht
    have hp := s.rm.cap.buf.movesLeft_pos
    unfold captureFreed
    dsimp only
    cases hw : t.rm.cap.waiting with
    | none => simp [setCap, Capture.reset, Capture.movesLeft, hm, hb]; omega
    | some w =>
      rw [ht] at hw
      simp [setCap, Capture.movesLeft, PageBuffer.empty, PageBuffer.movesLeft, hm, hb, hw] at hp ⊢
  have hpos : 0 < s.rm.cap.movesLeft := by
    have hp := s.rm.cap.buf.movesLeft_pos
    simp only [Capture.movesLeft, hm, hb, and_self, if_true]; omega
  unfold closeRecord
  simp only [hc, hid, hb, Bool.false_eq_true, if_false]
  split
  · split
    · exact hfreed _ (by simp [dropRecord, dirRemove, hret, hc])
    · exact hfreed _ (by simp [markClosed, dirUpdate, hret, hc])
  · simpa [captureClosing, setCap, Capture.movesLeft] using hpos

/-- What each kind of move says of the capture's buffer (R134). -/
theorem captureMove_buffer (s : State) :
    match captureMove s with
    | .rest | .finish => True
    | .firstPage _ => s.rm.cap.buf.sets = [] ∧ s.rm.cap.buf.page = none
    | .commit _ => s.rm.cap.buf.sets ≠ []
    | .take id _ => s.rm.cap.recId = some id ∧ (s.rm.cap.buf.sets = [] → s.rm.cap.buf.page.isSome = true) ∧
        (s.rm.cap.buf.sets ≠ [] → s.rm.cap.buf.sets.length < 168) := by
  unfold captureMove
  dsimp only
  by_cases hm : (s.rm.cap.mode != .opened || s.rm.cap.buf.busy) = true
  · simp [hm]
  rw [if_neg hm]
  cases hr : s.rm.cap.recId with
  | none => simp
  | some id =>
    cases hx : s.rm.cap.readPos.bind (ringRead s.sampler) with
    | none => simp
    | some x =>
      dsimp only
      by_cases he : s.rm.cap.buf.sets = []
      · cases hp : s.rm.cap.buf.page with
        | none => simp [he]
        | some p => by_cases hz : (s.rm.cap.taken == 0 && pastEnd s x) = true <;> simp [he, hz]
      · by_cases hz : pastEnd s x = true
        · simp [he, hz]
        · by_cases hd : commitDue s x = true
          · simp [he, hz, hd]
          · have hl : s.rm.cap.buf.sets.length < 168 := by
              simp only [commitDue, Bool.or_eq_true, decide_eq_true_eq, not_or, not_le] at hd
              exact hd.1
            simp [he, hz, hd, hl]

/-- A set taken: fewer moves are left. -/
theorem storeSet_movesLeft (s : State) (id : Nat) (x : SampleSet) (hm : s.rm.cap.mode = .opened)
    (hb : s.rm.cap.buf.busy = false) (hr : s.rm.cap.recId.isSome = true)
    (hp : s.rm.cap.buf.sets = [] → s.rm.cap.buf.page.isSome = true)
    (hl : s.rm.cap.buf.sets ≠ [] → s.rm.cap.buf.sets.length < 168) :
    (storeSet s id x).rm.cap.movesLeft < s.rm.cap.movesLeft := by
  have hlt : (bufferSet s id x).rm.cap.movesLeft < s.rm.cap.movesLeft := by
    simp only [bufferSet, dirUpdate, Capture.movesLeft, PageBuffer.movesLeft, hm, hb, and_self, if_true,
      List.append_eq_nil_iff, List.cons_ne_nil, and_false, if_false, List.length_append, List.length_singleton]
    by_cases he : s.rm.cap.buf.sets = []
    · have := hp he
      simp [he, Option.isNone_iff_eq_none, Option.isSome_iff_ne_none.mp this]
    · have := hl he
      have h0 : s.rm.cap.buf.sets.length ≠ 0 := by simpa using he
      simp only [he, if_false]
      omega
  unfold storeSet
  dsimp only
  split
  · exact (closeRecord_movesLeft _ .normal (by simpa [bufferSet, dirUpdate] using hm)
      (by simpa [bufferSet, dirUpdate] using hb) (by simpa [bufferSet, dirUpdate] using hr)).trans hlt
  · exact hlt

/-- Every move after which the capture may go on leaves fewer moves. -/
theorem captureStep_movesLeft {s : State} (h : (captureStep s).2 = true) :
    (captureStep s).1.rm.cap.movesLeft < s.rm.cap.movesLeft := by
  have hbuf := captureMove_buffer s
  cases hmove : captureMove s with
  | rest => simp [captureStep, hmove] at h
  | finish =>
    obtain ⟨hm, hb, hr⟩ := captureMove_opened (s := s) (by simp [hmove])
    simpa [captureStep, hmove] using closeRecord_movesLeft s .normal hm hb hr
  | take id x =>
    obtain ⟨hm, hb, hr⟩ := captureMove_opened (s := s) (by simp [hmove])
    rw [hmove] at hbuf
    simpa [captureStep, hmove] using storeSet_movesLeft s id x hm hb hr hbuf.2.1 hbuf.2.2
  | firstPage id =>
    obtain ⟨hm, hb, hr⟩ := captureMove_opened (s := s) (by simp [hmove])
    rw [hmove] at hbuf
    simp only [captureStep, hmove, allocatePage] at h ⊢
    have hc := allocate_cap s.rm.dir.length s id s.rm.cap.buf.idx
    split at h
    · rename_i t p ha
      rw [ha] at hc
      change t.rm.cap = s.rm.cap at hc
      simp [setCap, hc, Capture.movesLeft, PageBuffer.movesLeft, hm, hb, hbuf]
    · cases h
    · rename_i t ha
      rw [ha] at hc
      change t.rm.cap = s.rm.cap at hc
      rw [← hc] at hm hb hr ⊢
      exact closeRecord_movesLeft t .full hm hb hr
  | commit id =>
    obtain ⟨hm, hb, hr⟩ := captureMove_opened (s := s) (by simp [hmove])
    simp only [captureStep, hmove, allocatePage] at h ⊢
    have hc := allocate_cap s.rm.dir.length s id (s.rm.cap.buf.idx + 1)
    split at h
    · rename_i t p ha
      have hp := s.rm.cap.buf.movesLeft_pos
      simp [setCap, Capture.movesLeft, hm, hb]
      omega
    · cases h
    · rename_i t ha
      rw [ha] at hc
      change t.rm.cap = s.rm.cap at hc
      rw [← hc] at hm hb hr ⊢
      exact closeRecord_movesLeft t .full hm hb hr

/-! ### The taking as a whole -/

/-- Beyond the moves that are left, fuel makes no difference. -/
theorem captureRun_fuel {j k : Nat} {s : State} (hj : s.rm.cap.movesLeft < j) (hk : s.rm.cap.movesLeft < k) :
    captureRun j s = captureRun k s := by
  induction j generalizing s k with
  | zero => omega
  | succ i ih =>
    obtain _ | k := k
    · omega
    · unfold captureRun
      split
      · rename_i h
        have := captureStep_movesLeft h
        exact ih (by omega) (by omega)
      · rfl

/-- A move after which the capture may go on is the first of its taking (R134). -/
theorem captureTake_goesOn {s : State} (h : (captureStep s).2 = true) :
    captureTake s = captureTake (captureStep s).1 := by
  have hl := s.rm.cap.movesLeft_lt
  have hs := captureStep_movesLeft h
  rw [captureTake, show captureFuel = 399 + 1 from rfl, captureRun, if_pos h]
  exact captureRun_fuel (by unfold captureFuel at hl; omega) (by unfold captureFuel at hl ⊢; omega)

/-- The taking ends with the move after which the capture rests (R134). -/
theorem captureTake_rests {s : State} (h : (captureStep s).2 = false) : captureTake s = (captureStep s).1 := by
  rw [captureTake, show captureFuel = 399 + 1 from rfl, captureRun, if_neg (by simp [h])]

end Sys2Proof.Machine
end

