-- ==== Sys2Proof/Laws/FramesPower.lean ====
section
/-! SUPPORT. The frames of the Detector's, the Heater Controller's and the Battery Monitor's operations. -/

namespace Sys2Proof.Machine

@[simp] theorem detectorOff_frame (s : State) :
    (detectorOff s).phase = s.phase ∧ (detectorOff s).profile = s.profile ∧ (detectorOff s).ownId = s.ownId ∧
      (detectorOff s).listenOnly = s.listenOnly ∧ (detectorOff s).listenCause = s.listenCause ∧
      (detectorOff s).clamped = s.clamped ∧ (detectorOff s).mem = s.mem ∧ (detectorOff s).tb = s.tb ∧
      (detectorOff s).peers = s.peers ∧ (detectorOff s).sampler = s.sampler ∧ (detectorOff s).picks = s.picks ∧
      (detectorOff s).events = s.events ∧ (detectorOff s).bat = s.bat ∧ (detectorOff s).heat = s.heat ∧
      (detectorOff s).line = s.line ∧ (detectorOff s).query = s.query ∧ (detectorOff s).freeCount = s.freeCount ∧
      (detectorOff s).pending = s.pending := by
  generalize h : detectorOff s = u
  unfold detectorOff at h
  dsimp only at h
  (repeat' split at h) <;> (subst h; simp)

@[simp] theorem detectorOnAgain_frame (s : State) :
    (detectorOnAgain s).phase = s.phase ∧ (detectorOnAgain s).profile = s.profile ∧
      (detectorOnAgain s).ownId = s.ownId ∧ (detectorOnAgain s).listenOnly = s.listenOnly ∧
      (detectorOnAgain s).listenCause = s.listenCause ∧ (detectorOnAgain s).clamped = s.clamped ∧
      (detectorOnAgain s).mem = s.mem ∧ (detectorOnAgain s).tb = s.tb ∧ (detectorOnAgain s).peers = s.peers ∧
      (detectorOnAgain s).sampler = s.sampler ∧ (detectorOnAgain s).picks = s.picks ∧
      (detectorOnAgain s).events = s.events ∧ (detectorOnAgain s).rm = s.rm ∧ (detectorOnAgain s).bat = s.bat ∧
      (detectorOnAgain s).heat = s.heat ∧ (detectorOnAgain s).line = s.line ∧ (detectorOnAgain s).query = s.query ∧
      (detectorOnAgain s).freeCount = s.freeCount ∧ (detectorOnAgain s).pending = s.pending := by
  unfold detectorOnAgain
  simp

@[simp] theorem switchHeat_frame (s : State) (t : ArrayTime) (on : Bool) :
    (switchHeat s t on).phase = s.phase ∧ (switchHeat s t on).profile = s.profile ∧
      (switchHeat s t on).ownId = s.ownId ∧ (switchHeat s t on).listenOnly = s.listenOnly ∧
      (switchHeat s t on).listenCause = s.listenCause ∧ (switchHeat s t on).clamped = s.clamped ∧
      (switchHeat s t on).mem = s.mem ∧ (switchHeat s t on).tb = s.tb ∧ (switchHeat s t on).peers = s.peers ∧
      (switchHeat s t on).sampler = s.sampler ∧ (switchHeat s t on).picks = s.picks ∧
      (switchHeat s t on).events = s.events ∧ (switchHeat s t on).rm = s.rm ∧ (switchHeat s t on).bat = s.bat ∧
      (switchHeat s t on).line = s.line ∧ (switchHeat s t on).query = s.query ∧
      (switchHeat s t on).freeCount = s.freeCount ∧ (switchHeat s t on).pending = s.pending := by
  unfold switchHeat
  simp

@[simp] theorem forceOff_frame (s : State) (t : ArrayTime) (cause : ForcedCause) :
    (forceOff s t cause).phase = s.phase ∧ (forceOff s t cause).profile = s.profile ∧
      (forceOff s t cause).ownId = s.ownId ∧ (forceOff s t cause).listenOnly = s.listenOnly ∧
      (forceOff s t cause).listenCause = s.listenCause ∧ (forceOff s t cause).clamped = s.clamped ∧
      (forceOff s t cause).mem = s.mem ∧ (forceOff s t cause).tb = s.tb ∧ (forceOff s t cause).peers = s.peers ∧
      (forceOff s t cause).sampler = s.sampler ∧ (forceOff s t cause).picks = s.picks ∧
      (forceOff s t cause).events = s.events ∧ (forceOff s t cause).rm = s.rm ∧ (forceOff s t cause).bat = s.bat ∧
      (forceOff s t cause).line = s.line ∧ (forceOff s t cause).query = s.query ∧
      (forceOff s t cause).freeCount = s.freeCount ∧ (forceOff s t cause).pending = s.pending := by
  unfold forceOff
  simp

@[simp] theorem makeSwitch_frame (s : State) (t : ArrayTime) :
    (makeSwitch s t).phase = s.phase ∧ (makeSwitch s t).profile = s.profile ∧ (makeSwitch s t).ownId = s.ownId ∧
      (makeSwitch s t).listenOnly = s.listenOnly ∧ (makeSwitch s t).listenCause = s.listenCause ∧
      (makeSwitch s t).clamped = s.clamped ∧ (makeSwitch s t).mem = s.mem ∧ (makeSwitch s t).tb = s.tb ∧
      (makeSwitch s t).peers = s.peers ∧ (makeSwitch s t).sampler = s.sampler ∧ (makeSwitch s t).picks = s.picks ∧
      (makeSwitch s t).events = s.events ∧ (makeSwitch s t).rm = s.rm ∧ (makeSwitch s t).bat = s.bat ∧
      (makeSwitch s t).line = s.line ∧ (makeSwitch s t).query = s.query ∧ (makeSwitch s t).freeCount = s.freeCount ∧
      (makeSwitch s t).pending = s.pending := by
  unfold makeSwitch
  simp

@[simp] theorem heaterDecide_frame (s : State) (t : ArrayTime) (temp : Option ℤ) :
    (heaterDecide s t temp).phase = s.phase ∧ (heaterDecide s t temp).profile = s.profile ∧
      (heaterDecide s t temp).ownId = s.ownId ∧ (heaterDecide s t temp).listenOnly = s.listenOnly ∧
      (heaterDecide s t temp).listenCause = s.listenCause ∧ (heaterDecide s t temp).clamped = s.clamped ∧
      (heaterDecide s t temp).mem = s.mem ∧ (heaterDecide s t temp).tb = s.tb ∧
      (heaterDecide s t temp).peers = s.peers ∧ (heaterDecide s t temp).sampler = s.sampler ∧
      (heaterDecide s t temp).picks = s.picks ∧ (heaterDecide s t temp).events = s.events ∧
      (heaterDecide s t temp).rm = s.rm ∧ (heaterDecide s t temp).bat = s.bat ∧
      (heaterDecide s t temp).line = s.line ∧ (heaterDecide s t temp).query = s.query ∧
      (heaterDecide s t temp).freeCount = s.freeCount ∧ (heaterDecide s t temp).pending = s.pending := by
  generalize h : heaterDecide s t temp = u
  unfold heaterDecide at h
  (repeat' split at h) <;> (subst h; simp)

@[simp] theorem heaterEvaluate_frame (s : State) (t : ArrayTime) (temp : Option ℤ) :
    (heaterEvaluate s t temp).phase = s.phase ∧ (heaterEvaluate s t temp).profile = s.profile ∧
      (heaterEvaluate s t temp).ownId = s.ownId ∧ (heaterEvaluate s t temp).listenOnly = s.listenOnly ∧
      (heaterEvaluate s t temp).listenCause = s.listenCause ∧ (heaterEvaluate s t temp).clamped = s.clamped ∧
      (heaterEvaluate s t temp).mem = s.mem ∧ (heaterEvaluate s t temp).tb = s.tb ∧
      (heaterEvaluate s t temp).peers = s.peers ∧ (heaterEvaluate s t temp).sampler = s.sampler ∧
      (heaterEvaluate s t temp).picks = s.picks ∧ (heaterEvaluate s t temp).events = s.events ∧
      (heaterEvaluate s t temp).rm = s.rm ∧ (heaterEvaluate s t temp).bat = s.bat ∧
      (heaterEvaluate s t temp).line = s.line ∧ (heaterEvaluate s t temp).query = s.query ∧
      (heaterEvaluate s t temp).freeCount = s.freeCount ∧ (heaterEvaluate s t temp).pending = s.pending := by
  generalize h : heaterEvaluate s t temp = u
  unfold heaterEvaluate at h
  dsimp only at h
  (repeat' split at h) <;> (subst h; simp)

@[simp] theorem openCheckMade_frame (s : State) (t : ArrayTime) (current : ℤ) :
    (openCheckMade s t current).phase = s.phase ∧ (openCheckMade s t current).profile = s.profile ∧
      (openCheckMade s t current).ownId = s.ownId ∧ (openCheckMade s t current).listenOnly = s.listenOnly ∧
      (openCheckMade s t current).listenCause = s.listenCause ∧ (openCheckMade s t current).clamped = s.clamped ∧
      (openCheckMade s t current).mem = s.mem ∧ (openCheckMade s t current).tb = s.tb ∧
      (openCheckMade s t current).peers = s.peers ∧ (openCheckMade s t current).sampler = s.sampler ∧
      (openCheckMade s t current).picks = s.picks ∧ (openCheckMade s t current).events = s.events ∧
      (openCheckMade s t current).rm = s.rm ∧ (openCheckMade s t current).bat = s.bat ∧
      (openCheckMade s t current).line = s.line ∧ (openCheckMade s t current).query = s.query ∧
      (openCheckMade s t current).freeCount = s.freeCount ∧ (openCheckMade s t current).pending = s.pending := by
  generalize h : openCheckMade s t current = u
  unfold openCheckMade at h
  dsimp only at h
  (repeat' split at h) <;> (subst h; simp)

@[simp] theorem stuckCheck_frame (s : State) (t : ArrayTime) (current : ℤ) :
    (stuckCheck s t current).phase = s.phase ∧ (stuckCheck s t current).profile = s.profile ∧
      (stuckCheck s t current).ownId = s.ownId ∧ (stuckCheck s t current).listenOnly = s.listenOnly ∧
      (stuckCheck s t current).listenCause = s.listenCause ∧ (stuckCheck s t current).clamped = s.clamped ∧
      (stuckCheck s t current).mem = s.mem ∧ (stuckCheck s t current).tb = s.tb ∧
      (stuckCheck s t current).peers = s.peers ∧ (stuckCheck s t current).sampler = s.sampler ∧
      (stuckCheck s t current).det = s.det ∧ (stuckCheck s t current).picks = s.picks ∧
      (stuckCheck s t current).events = s.events ∧ (stuckCheck s t current).rm = s.rm ∧
      (stuckCheck s t current).bat = s.bat ∧ (stuckCheck s t current).line = s.line ∧
      (stuckCheck s t current).query = s.query ∧ (stuckCheck s t current).freeCount = s.freeCount ∧
      (stuckCheck s t current).pending = s.pending := by
  generalize h : stuckCheck s t current = u
  unfold stuckCheck at h
  (repeat' split at h) <;> (subst h; simp)

@[simp] theorem heaterCurrentChecks_frame (s : State) (t : ArrayTime) (current : ℤ) :
    (heaterCurrentChecks s t current).phase = s.phase ∧ (heaterCurrentChecks s t current).profile = s.profile ∧
      (heaterCurrentChecks s t current).ownId = s.ownId ∧
      (heaterCurrentChecks s t current).listenOnly = s.listenOnly ∧
      (heaterCurrentChecks s t current).listenCause = s.listenCause ∧
      (heaterCurrentChecks s t current).clamped = s.clamped ∧ (heaterCurrentChecks s t current).mem = s.mem ∧
      (heaterCurrentChecks s t current).tb = s.tb ∧ (heaterCurrentChecks s t current).peers = s.peers ∧
      (heaterCurrentChecks s t current).sampler = s.sampler ∧ (heaterCurrentChecks s t current).picks = s.picks ∧
      (heaterCurrentChecks s t current).events = s.events ∧ (heaterCurrentChecks s t current).rm = s.rm ∧
      (heaterCurrentChecks s t current).bat = s.bat ∧ (heaterCurrentChecks s t current).line = s.line ∧
      (heaterCurrentChecks s t current).query = s.query ∧ (heaterCurrentChecks s t current).freeCount = s.freeCount ∧
      (heaterCurrentChecks s t current).pending = s.pending := by
  generalize h : heaterCurrentChecks s t current = u
  unfold heaterCurrentChecks at h
  dsimp only at h
  (repeat' split at h) <;> (subst h; simp)

@[simp] theorem formSnapshot_frame (s : State) (cause : SnapCause) :
    (formSnapshot s cause).phase = s.phase ∧ (formSnapshot s cause).profile = s.profile ∧
      (formSnapshot s cause).ownId = s.ownId ∧ (formSnapshot s cause).listenOnly = s.listenOnly ∧
      (formSnapshot s cause).listenCause = s.listenCause ∧ (formSnapshot s cause).clamped = s.clamped ∧
      (formSnapshot s cause).mem = s.mem ∧ (formSnapshot s cause).tb = s.tb ∧ (formSnapshot s cause).peers = s.peers ∧
      (formSnapshot s cause).sampler = s.sampler ∧ (formSnapshot s cause).det = s.det ∧
      (formSnapshot s cause).picks = s.picks ∧ (formSnapshot s cause).events = s.events ∧
      (formSnapshot s cause).rm = s.rm ∧ (formSnapshot s cause).heat = s.heat ∧ (formSnapshot s cause).line = s.line ∧
      (formSnapshot s cause).query = s.query ∧ (formSnapshot s cause).freeCount = s.freeCount ∧
      (formSnapshot s cause).pending = s.pending := by
  unfold formSnapshot
  simp

@[simp] theorem snapshotDue_frame (s : State) (cause : SnapCause) :
    (snapshotDue s cause).phase = s.phase ∧ (snapshotDue s cause).profile = s.profile ∧
      (snapshotDue s cause).ownId = s.ownId ∧ (snapshotDue s cause).listenOnly = s.listenOnly ∧
      (snapshotDue s cause).listenCause = s.listenCause ∧ (snapshotDue s cause).clamped = s.clamped ∧
      (snapshotDue s cause).mem = s.mem ∧ (snapshotDue s cause).tb = s.tb ∧ (snapshotDue s cause).peers = s.peers ∧
      (snapshotDue s cause).sampler = s.sampler ∧ (snapshotDue s cause).det = s.det ∧
      (snapshotDue s cause).picks = s.picks ∧ (snapshotDue s cause).events = s.events ∧
      (snapshotDue s cause).rm = s.rm ∧ (snapshotDue s cause).heat = s.heat ∧ (snapshotDue s cause).line = s.line ∧
      (snapshotDue s cause).query = s.query ∧ (snapshotDue s cause).freeCount = s.freeCount ∧
      (snapshotDue s cause).pending = s.pending := by
  generalize h : snapshotDue s cause = u
  unfold snapshotDue at h
  (repeat' split at h) <;> (subst h; simp)

@[simp] theorem lowerDue_frame (s : State) :
    (lowerDue s).phase = s.phase ∧ (lowerDue s).profile = s.profile ∧ (lowerDue s).ownId = s.ownId ∧
      (lowerDue s).listenOnly = s.listenOnly ∧ (lowerDue s).listenCause = s.listenCause ∧
      (lowerDue s).clamped = s.clamped ∧ (lowerDue s).mem = s.mem ∧ (lowerDue s).tb = s.tb ∧
      (lowerDue s).peers = s.peers ∧ (lowerDue s).sampler = s.sampler ∧ (lowerDue s).det = s.det ∧
      (lowerDue s).picks = s.picks ∧ (lowerDue s).events = s.events ∧ (lowerDue s).rm = s.rm ∧
      (lowerDue s).heat = s.heat ∧ (lowerDue s).line = s.line ∧ (lowerDue s).query = s.query ∧
      (lowerDue s).freeCount = s.freeCount ∧ (lowerDue s).pending = s.pending := by
  unfold lowerDue
  simp

@[simp] theorem scheduleTest_frame (s : State) :
    (scheduleTest s).phase = s.phase ∧ (scheduleTest s).profile = s.profile ∧ (scheduleTest s).ownId = s.ownId ∧
      (scheduleTest s).listenOnly = s.listenOnly ∧ (scheduleTest s).listenCause = s.listenCause ∧
      (scheduleTest s).clamped = s.clamped ∧ (scheduleTest s).mem = s.mem ∧ (scheduleTest s).tb = s.tb ∧
      (scheduleTest s).peers = s.peers ∧ (scheduleTest s).sampler = s.sampler ∧ (scheduleTest s).det = s.det ∧
      (scheduleTest s).picks = s.picks ∧ (scheduleTest s).events = s.events ∧ (scheduleTest s).rm = s.rm ∧
      (scheduleTest s).heat = s.heat ∧ (scheduleTest s).line = s.line ∧ (scheduleTest s).query = s.query ∧
      (scheduleTest s).freeCount = s.freeCount ∧ (scheduleTest s).pending = s.pending := by
  generalize h : scheduleTest s = u
  unfold scheduleTest at h
  dsimp only at h
  (repeat' split at h) <;> (subst h; simp)

@[simp] theorem formOwed_frame (s : State) :
    (formOwed s).phase = s.phase ∧ (formOwed s).profile = s.profile ∧ (formOwed s).ownId = s.ownId ∧
      (formOwed s).listenOnly = s.listenOnly ∧ (formOwed s).listenCause = s.listenCause ∧
      (formOwed s).clamped = s.clamped ∧ (formOwed s).mem = s.mem ∧ (formOwed s).tb = s.tb ∧
      (formOwed s).peers = s.peers ∧ (formOwed s).sampler = s.sampler ∧ (formOwed s).det = s.det ∧
      (formOwed s).picks = s.picks ∧ (formOwed s).events = s.events ∧ (formOwed s).rm = s.rm ∧
      (formOwed s).heat = s.heat ∧ (formOwed s).line = s.line ∧ (formOwed s).query = s.query ∧
      (formOwed s).freeCount = s.freeCount ∧ (formOwed s).pending = s.pending := by
  generalize h : formOwed s = u
  unfold formOwed at h
  (repeat' split at h) <;> (subst h; simp)

@[simp] theorem careDone_frame (s : State) :
    (careDone s).profile = s.profile ∧ (careDone s).ownId = s.ownId ∧ (careDone s).listenOnly = s.listenOnly ∧
      (careDone s).listenCause = s.listenCause ∧ (careDone s).clamped = s.clamped ∧ (careDone s).mem = s.mem ∧
      (careDone s).tb = s.tb ∧ (careDone s).peers = s.peers ∧ (careDone s).sampler = s.sampler ∧
      (careDone s).det = s.det ∧ (careDone s).picks = s.picks ∧ (careDone s).events = s.events ∧
      (careDone s).rm = s.rm ∧ (careDone s).heat = s.heat ∧ (careDone s).line = s.line ∧
      (careDone s).query = s.query ∧ (careDone s).freeCount = s.freeCount ∧ (careDone s).pending = s.pending := by
  generalize h : careDone s = u
  unfold careDone at h
  (repeat' split at h) <;> (subst h; simp)

@[simp] theorem careProgramDone_frame (s : State) (page : ℕ) (offset : ℕ) (bytes : List Byte) :
    (careProgramDone s page offset bytes).profile = s.profile ∧
      (careProgramDone s page offset bytes).ownId = s.ownId ∧
      (careProgramDone s page offset bytes).listenOnly = s.listenOnly ∧
      (careProgramDone s page offset bytes).listenCause = s.listenCause ∧
      (careProgramDone s page offset bytes).clamped = s.clamped ∧ (careProgramDone s page offset bytes).tb = s.tb ∧
      (careProgramDone s page offset bytes).peers = s.peers ∧
      (careProgramDone s page offset bytes).sampler = s.sampler ∧ (careProgramDone s page offset bytes).det = s.det ∧
      (careProgramDone s page offset bytes).picks = s.picks ∧
      (careProgramDone s page offset bytes).events = s.events ∧ (careProgramDone s page offset bytes).heat = s.heat ∧
      (careProgramDone s page offset bytes).line = s.line ∧ (careProgramDone s page offset bytes).query = s.query ∧
      (careProgramDone s page offset bytes).freeCount = s.freeCount ∧
      (careProgramDone s page offset bytes).pending = s.pending := by
  unfold careProgramDone
  simp

@[simp] theorem countCharge_frame (s : State) (t : ArrayTime) (current : ℤ) :
    (countCharge s t current).phase = s.phase ∧ (countCharge s t current).profile = s.profile ∧
      (countCharge s t current).ownId = s.ownId ∧ (countCharge s t current).listenOnly = s.listenOnly ∧
      (countCharge s t current).listenCause = s.listenCause ∧ (countCharge s t current).clamped = s.clamped ∧
      (countCharge s t current).mem = s.mem ∧ (countCharge s t current).tb = s.tb ∧
      (countCharge s t current).peers = s.peers ∧ (countCharge s t current).sampler = s.sampler ∧
      (countCharge s t current).det = s.det ∧ (countCharge s t current).picks = s.picks ∧
      (countCharge s t current).events = s.events ∧ (countCharge s t current).rm = s.rm ∧
      (countCharge s t current).heat = s.heat ∧ (countCharge s t current).line = s.line ∧
      (countCharge s t current).query = s.query ∧ (countCharge s t current).freeCount = s.freeCount ∧
      (countCharge s t current).pending = s.pending := by
  generalize h : countCharge s t current = u
  unfold countCharge at h
  (repeat' split at h) <;> (subst h; simp)

@[simp] theorem fullAnchor_frame (s : State) :
    (fullAnchor s).phase = s.phase ∧ (fullAnchor s).profile = s.profile ∧ (fullAnchor s).ownId = s.ownId ∧
      (fullAnchor s).listenOnly = s.listenOnly ∧ (fullAnchor s).listenCause = s.listenCause ∧
      (fullAnchor s).clamped = s.clamped ∧ (fullAnchor s).mem = s.mem ∧ (fullAnchor s).tb = s.tb ∧
      (fullAnchor s).peers = s.peers ∧ (fullAnchor s).sampler = s.sampler ∧ (fullAnchor s).det = s.det ∧
      (fullAnchor s).picks = s.picks ∧ (fullAnchor s).events = s.events ∧ (fullAnchor s).rm = s.rm ∧
      (fullAnchor s).heat = s.heat ∧ (fullAnchor s).line = s.line ∧ (fullAnchor s).query = s.query ∧
      (fullAnchor s).freeCount = s.freeCount ∧ (fullAnchor s).pending = s.pending := by
  unfold fullAnchor
  simp

@[simp] theorem emptyAnchor_frame (s : State) :
    (emptyAnchor s).phase = s.phase ∧ (emptyAnchor s).profile = s.profile ∧ (emptyAnchor s).ownId = s.ownId ∧
      (emptyAnchor s).listenOnly = s.listenOnly ∧ (emptyAnchor s).listenCause = s.listenCause ∧
      (emptyAnchor s).clamped = s.clamped ∧ (emptyAnchor s).mem = s.mem ∧ (emptyAnchor s).tb = s.tb ∧
      (emptyAnchor s).peers = s.peers ∧ (emptyAnchor s).sampler = s.sampler ∧ (emptyAnchor s).det = s.det ∧
      (emptyAnchor s).picks = s.picks ∧ (emptyAnchor s).events = s.events ∧ (emptyAnchor s).rm = s.rm ∧
      (emptyAnchor s).heat = s.heat ∧ (emptyAnchor s).line = s.line ∧ (emptyAnchor s).query = s.query ∧
      (emptyAnchor s).freeCount = s.freeCount ∧ (emptyAnchor s).pending = s.pending := by
  unfold emptyAnchor
  simp

@[simp] theorem formPermission_frame (s : State) :
    (formPermission s).phase = s.phase ∧ (formPermission s).profile = s.profile ∧ (formPermission s).ownId = s.ownId ∧
      (formPermission s).listenOnly = s.listenOnly ∧ (formPermission s).listenCause = s.listenCause ∧
      (formPermission s).clamped = s.clamped ∧ (formPermission s).mem = s.mem ∧ (formPermission s).tb = s.tb ∧
      (formPermission s).peers = s.peers ∧ (formPermission s).sampler = s.sampler ∧ (formPermission s).det = s.det ∧
      (formPermission s).picks = s.picks ∧ (formPermission s).events = s.events ∧ (formPermission s).rm = s.rm ∧
      (formPermission s).heat = s.heat ∧ (formPermission s).line = s.line ∧ (formPermission s).query = s.query ∧
      (formPermission s).freeCount = s.freeCount ∧ (formPermission s).pending = s.pending := by
  unfold formPermission
  simp

@[simp] theorem announceShed_frame (s : State) (old : ℕ) :
    (announceShed s old).phase = s.phase ∧ (announceShed s old).profile = s.profile ∧
      (announceShed s old).ownId = s.ownId ∧ (announceShed s old).listenOnly = s.listenOnly ∧
      (announceShed s old).listenCause = s.listenCause ∧ (announceShed s old).clamped = s.clamped ∧
      (announceShed s old).mem = s.mem ∧ (announceShed s old).peers = s.peers ∧
      (announceShed s old).sampler = s.sampler ∧ (announceShed s old).picks = s.picks ∧
      (announceShed s old).events = s.events ∧ (announceShed s old).bat = s.bat ∧ (announceShed s old).heat = s.heat ∧
      (announceShed s old).line = s.line ∧ (announceShed s old).query = s.query ∧
      (announceShed s old).freeCount = s.freeCount ∧ (announceShed s old).pending = s.pending := by
  generalize h : announceShed s old = u
  unfold announceShed at h
  (repeat' split at h) <;> (subst h; simp)

@[simp] theorem setShed_frame (s : State) (level : ℕ) :
    (setShed s level).phase = s.phase ∧ (setShed s level).profile = s.profile ∧ (setShed s level).ownId = s.ownId ∧
      (setShed s level).listenOnly = s.listenOnly ∧ (setShed s level).listenCause = s.listenCause ∧
      (setShed s level).clamped = s.clamped ∧ (setShed s level).mem = s.mem ∧ (setShed s level).peers = s.peers ∧
      (setShed s level).sampler = s.sampler ∧ (setShed s level).picks = s.picks ∧
      (setShed s level).events = s.events ∧ (setShed s level).heat = s.heat ∧ (setShed s level).line = s.line ∧
      (setShed s level).query = s.query ∧ (setShed s level).freeCount = s.freeCount ∧
      (setShed s level).pending = s.pending := by
  unfold setShed
  simp

@[simp] theorem exitRule_frame (s : State) :
    (exitRule s).phase = s.phase ∧ (exitRule s).profile = s.profile ∧ (exitRule s).ownId = s.ownId ∧
      (exitRule s).listenOnly = s.listenOnly ∧ (exitRule s).listenCause = s.listenCause ∧
      (exitRule s).clamped = s.clamped ∧ (exitRule s).mem = s.mem ∧ (exitRule s).peers = s.peers ∧
      (exitRule s).sampler = s.sampler ∧ (exitRule s).picks = s.picks ∧ (exitRule s).events = s.events ∧
      (exitRule s).heat = s.heat ∧ (exitRule s).line = s.line ∧ (exitRule s).query = s.query ∧
      (exitRule s).freeCount = s.freeCount ∧ (exitRule s).pending = s.pending := by
  generalize h : exitRule s = u
  unfold exitRule at h
  dsimp only at h
  (repeat' split at h) <;> (subst h; simp)

@[simp] theorem evaluateShed_frame (s : State) :
    (evaluateShed s).phase = s.phase ∧ (evaluateShed s).profile = s.profile ∧ (evaluateShed s).ownId = s.ownId ∧
      (evaluateShed s).listenOnly = s.listenOnly ∧ (evaluateShed s).listenCause = s.listenCause ∧
      (evaluateShed s).clamped = s.clamped ∧ (evaluateShed s).mem = s.mem ∧ (evaluateShed s).peers = s.peers ∧
      (evaluateShed s).sampler = s.sampler ∧ (evaluateShed s).picks = s.picks ∧ (evaluateShed s).events = s.events ∧
      (evaluateShed s).heat = s.heat ∧ (evaluateShed s).line = s.line ∧ (evaluateShed s).query = s.query ∧
      (evaluateShed s).freeCount = s.freeCount ∧ (evaluateShed s).pending = s.pending := by
  generalize h : evaluateShed s = u
  unfold evaluateShed at h
  (repeat' split at h) <;> (subst h; simp)

@[simp] theorem dropPermit_frame (s : State) :
    (dropPermit s).phase = s.phase ∧ (dropPermit s).profile = s.profile ∧ (dropPermit s).ownId = s.ownId ∧
      (dropPermit s).listenOnly = s.listenOnly ∧ (dropPermit s).listenCause = s.listenCause ∧
      (dropPermit s).clamped = s.clamped ∧ (dropPermit s).mem = s.mem ∧ (dropPermit s).tb = s.tb ∧
      (dropPermit s).peers = s.peers ∧ (dropPermit s).sampler = s.sampler ∧ (dropPermit s).det = s.det ∧
      (dropPermit s).picks = s.picks ∧ (dropPermit s).events = s.events ∧ (dropPermit s).rm = s.rm ∧
      (dropPermit s).heat = s.heat ∧ (dropPermit s).line = s.line ∧ (dropPermit s).query = s.query ∧
      (dropPermit s).freeCount = s.freeCount ∧ (dropPermit s).pending = s.pending := by
  unfold dropPermit
  simp

@[simp] theorem chargePermit_frame (s : State) (temp : Option ℤ) :
    (chargePermit s temp).phase = s.phase ∧ (chargePermit s temp).profile = s.profile ∧
      (chargePermit s temp).ownId = s.ownId ∧ (chargePermit s temp).listenOnly = s.listenOnly ∧
      (chargePermit s temp).listenCause = s.listenCause ∧ (chargePermit s temp).clamped = s.clamped ∧
      (chargePermit s temp).mem = s.mem ∧ (chargePermit s temp).tb = s.tb ∧ (chargePermit s temp).peers = s.peers ∧
      (chargePermit s temp).sampler = s.sampler ∧ (chargePermit s temp).det = s.det ∧
      (chargePermit s temp).picks = s.picks ∧ (chargePermit s temp).events = s.events ∧
      (chargePermit s temp).rm = s.rm ∧ (chargePermit s temp).heat = s.heat ∧ (chargePermit s temp).line = s.line ∧
      (chargePermit s temp).query = s.query ∧ (chargePermit s temp).freeCount = s.freeCount ∧
      (chargePermit s temp).pending = s.pending := by
  generalize h : chargePermit s temp = u
  unfold chargePermit at h
  (repeat' split at h) <;> (subst h; simp)

@[simp] theorem heaterDraw_frame (s : State) (t : ArrayTime) (current : ℤ) :
    (heaterDraw s t current).phase = s.phase ∧ (heaterDraw s t current).profile = s.profile ∧
      (heaterDraw s t current).ownId = s.ownId ∧ (heaterDraw s t current).listenOnly = s.listenOnly ∧
      (heaterDraw s t current).listenCause = s.listenCause ∧ (heaterDraw s t current).clamped = s.clamped ∧
      (heaterDraw s t current).mem = s.mem ∧ (heaterDraw s t current).tb = s.tb ∧
      (heaterDraw s t current).peers = s.peers ∧ (heaterDraw s t current).sampler = s.sampler ∧
      (heaterDraw s t current).det = s.det ∧ (heaterDraw s t current).picks = s.picks ∧
      (heaterDraw s t current).events = s.events ∧ (heaterDraw s t current).rm = s.rm ∧
      (heaterDraw s t current).heat = s.heat ∧ (heaterDraw s t current).line = s.line ∧
      (heaterDraw s t current).query = s.query ∧ (heaterDraw s t current).freeCount = s.freeCount ∧
      (heaterDraw s t current).pending = s.pending := by
  unfold heaterDraw
  simp

@[simp] theorem batteryVoltage_frame (s : State) :
    (batteryVoltage s).phase = s.phase ∧ (batteryVoltage s).profile = s.profile ∧ (batteryVoltage s).ownId = s.ownId ∧
      (batteryVoltage s).listenOnly = s.listenOnly ∧ (batteryVoltage s).listenCause = s.listenCause ∧
      (batteryVoltage s).clamped = s.clamped ∧ (batteryVoltage s).mem = s.mem ∧ (batteryVoltage s).peers = s.peers ∧
      (batteryVoltage s).sampler = s.sampler ∧ (batteryVoltage s).picks = s.picks ∧
      (batteryVoltage s).events = s.events ∧ (batteryVoltage s).heat = s.heat ∧ (batteryVoltage s).line = s.line ∧
      (batteryVoltage s).query = s.query ∧ (batteryVoltage s).freeCount = s.freeCount ∧
      (batteryVoltage s).pending = s.pending := by
  unfold batteryVoltage
  simp

@[simp] theorem batteryCurrent_frame (s : State) (t : ArrayTime) (current : ℤ) :
    (batteryCurrent s t current).phase = s.phase ∧ (batteryCurrent s t current).profile = s.profile ∧
      (batteryCurrent s t current).ownId = s.ownId ∧ (batteryCurrent s t current).listenOnly = s.listenOnly ∧
      (batteryCurrent s t current).listenCause = s.listenCause ∧ (batteryCurrent s t current).clamped = s.clamped ∧
      (batteryCurrent s t current).mem = s.mem ∧ (batteryCurrent s t current).peers = s.peers ∧
      (batteryCurrent s t current).sampler = s.sampler ∧ (batteryCurrent s t current).picks = s.picks ∧
      (batteryCurrent s t current).events = s.events ∧ (batteryCurrent s t current).heat = s.heat ∧
      (batteryCurrent s t current).line = s.line ∧ (batteryCurrent s t current).query = s.query ∧
      (batteryCurrent s t current).freeCount = s.freeCount ∧ (batteryCurrent s t current).pending = s.pending := by
  unfold batteryCurrent
  simp

@[simp] theorem heaterCurrent_frame (s : State) (t : ArrayTime) (current : ℤ) :
    (heaterCurrent s t current).phase = s.phase ∧ (heaterCurrent s t current).profile = s.profile ∧
      (heaterCurrent s t current).ownId = s.ownId ∧ (heaterCurrent s t current).listenOnly = s.listenOnly ∧
      (heaterCurrent s t current).listenCause = s.listenCause ∧ (heaterCurrent s t current).clamped = s.clamped ∧
      (heaterCurrent s t current).mem = s.mem ∧ (heaterCurrent s t current).tb = s.tb ∧
      (heaterCurrent s t current).peers = s.peers ∧ (heaterCurrent s t current).sampler = s.sampler ∧
      (heaterCurrent s t current).picks = s.picks ∧ (heaterCurrent s t current).events = s.events ∧
      (heaterCurrent s t current).rm = s.rm ∧ (heaterCurrent s t current).line = s.line ∧
      (heaterCurrent s t current).query = s.query ∧ (heaterCurrent s t current).freeCount = s.freeCount ∧
      (heaterCurrent s t current).pending = s.pending := by
  unfold heaterCurrent
  simp

@[simp] theorem restoreCare_frame (s : State) :
    (restoreCare s).phase = s.phase ∧ (restoreCare s).profile = s.profile ∧ (restoreCare s).ownId = s.ownId ∧
      (restoreCare s).listenOnly = s.listenOnly ∧ (restoreCare s).listenCause = s.listenCause ∧
      (restoreCare s).clamped = s.clamped ∧ (restoreCare s).mem = s.mem ∧ (restoreCare s).tb = s.tb ∧
      (restoreCare s).peers = s.peers ∧ (restoreCare s).sampler = s.sampler ∧ (restoreCare s).det = s.det ∧
      (restoreCare s).picks = s.picks ∧ (restoreCare s).events = s.events ∧ (restoreCare s).rm = s.rm ∧
      (restoreCare s).line = s.line ∧ (restoreCare s).query = s.query ∧ (restoreCare s).freeCount = s.freeCount ∧
      (restoreCare s).pending = s.pending := by
  generalize h : restoreCare s = u
  unfold restoreCare at h
  (repeat' split at h) <;> (subst h; simp)

end Sys2Proof.Machine
end

