-- ==== Sys2Proof/Laws/FramesTime.lean ====
section
/-! SUPPORT. The frames of the Peer Table's, the transmit queue's, the steering instant's and the Profile Loader's operations. -/

namespace Sys2Proof.Machine

@[simp] theorem removePeers_frame (s : State) (gone : PeerEntry → Bool) :
    (removePeers s gone).phase = s.phase ∧ (removePeers s gone).profile = s.profile ∧
      (removePeers s gone).ownId = s.ownId ∧ (removePeers s gone).listenOnly = s.listenOnly ∧
      (removePeers s gone).listenCause = s.listenCause ∧ (removePeers s gone).clamped = s.clamped ∧
      (removePeers s gone).mem = s.mem ∧ (removePeers s gone).sampler = s.sampler ∧ (removePeers s gone).det = s.det ∧
      (removePeers s gone).picks = s.picks ∧ (removePeers s gone).events = s.events ∧ (removePeers s gone).rm = s.rm ∧
      (removePeers s gone).bat = s.bat ∧ (removePeers s gone).heat = s.heat ∧ (removePeers s gone).line = s.line ∧
      (removePeers s gone).query = s.query ∧ (removePeers s gone).freeCount = s.freeCount ∧
      (removePeers s gone).pending = s.pending := by
  unfold removePeers
  simp

@[simp] theorem createPeer_frame (s : State) (sender : ℕ) (b : BeaconPayload) (r : ArrayTime) :
    (createPeer s sender b r).phase = s.phase ∧ (createPeer s sender b r).profile = s.profile ∧
      (createPeer s sender b r).ownId = s.ownId ∧ (createPeer s sender b r).listenOnly = s.listenOnly ∧
      (createPeer s sender b r).listenCause = s.listenCause ∧ (createPeer s sender b r).clamped = s.clamped ∧
      (createPeer s sender b r).mem = s.mem ∧ (createPeer s sender b r).sampler = s.sampler ∧
      (createPeer s sender b r).det = s.det ∧ (createPeer s sender b r).picks = s.picks ∧
      (createPeer s sender b r).events = s.events ∧ (createPeer s sender b r).rm = s.rm ∧
      (createPeer s sender b r).bat = s.bat ∧ (createPeer s sender b r).heat = s.heat ∧
      (createPeer s sender b r).line = s.line ∧ (createPeer s sender b r).query = s.query ∧
      (createPeer s sender b r).freeCount = s.freeCount ∧ (createPeer s sender b r).pending = s.pending := by
  unfold createPeer
  simp

@[simp] theorem peerBeacon_frame (s : State) (sender : ℕ) (b : BeaconPayload) (r : ArrayTime) :
    (peerBeacon s sender b r).phase = s.phase ∧ (peerBeacon s sender b r).profile = s.profile ∧
      (peerBeacon s sender b r).ownId = s.ownId ∧ (peerBeacon s sender b r).listenOnly = s.listenOnly ∧
      (peerBeacon s sender b r).listenCause = s.listenCause ∧ (peerBeacon s sender b r).clamped = s.clamped ∧
      (peerBeacon s sender b r).mem = s.mem ∧ (peerBeacon s sender b r).sampler = s.sampler ∧
      (peerBeacon s sender b r).det = s.det ∧ (peerBeacon s sender b r).picks = s.picks ∧
      (peerBeacon s sender b r).events = s.events ∧ (peerBeacon s sender b r).rm = s.rm ∧
      (peerBeacon s sender b r).bat = s.bat ∧ (peerBeacon s sender b r).heat = s.heat ∧
      (peerBeacon s sender b r).line = s.line ∧ (peerBeacon s sender b r).query = s.query ∧
      (peerBeacon s sender b r).freeCount = s.freeCount ∧ (peerBeacon s sender b r).pending = s.pending := by
  generalize h : peerBeacon s sender b r = u
  unfold peerBeacon at h
  (repeat' split at h) <;> (subst h; simp)

@[simp] theorem shiftHeard_frame (s : State) :
    (shiftHeard s).phase = s.phase ∧ (shiftHeard s).profile = s.profile ∧ (shiftHeard s).ownId = s.ownId ∧
      (shiftHeard s).listenOnly = s.listenOnly ∧ (shiftHeard s).listenCause = s.listenCause ∧
      (shiftHeard s).clamped = s.clamped ∧ (shiftHeard s).mem = s.mem ∧ (shiftHeard s).tb = s.tb ∧
      (shiftHeard s).sampler = s.sampler ∧ (shiftHeard s).det = s.det ∧ (shiftHeard s).picks = s.picks ∧
      (shiftHeard s).events = s.events ∧ (shiftHeard s).rm = s.rm ∧ (shiftHeard s).bat = s.bat ∧
      (shiftHeard s).heat = s.heat ∧ (shiftHeard s).line = s.line ∧ (shiftHeard s).query = s.query ∧
      (shiftHeard s).freeCount = s.freeCount ∧ (shiftHeard s).pending = s.pending := by
  unfold shiftHeard
  simp

@[simp] theorem expirePeers_frame (s : State) :
    (expirePeers s).phase = s.phase ∧ (expirePeers s).profile = s.profile ∧ (expirePeers s).ownId = s.ownId ∧
      (expirePeers s).listenOnly = s.listenOnly ∧ (expirePeers s).listenCause = s.listenCause ∧
      (expirePeers s).clamped = s.clamped ∧ (expirePeers s).mem = s.mem ∧ (expirePeers s).sampler = s.sampler ∧
      (expirePeers s).det = s.det ∧ (expirePeers s).picks = s.picks ∧ (expirePeers s).events = s.events ∧
      (expirePeers s).rm = s.rm ∧ (expirePeers s).bat = s.bat ∧ (expirePeers s).heat = s.heat ∧
      (expirePeers s).line = s.line ∧ (expirePeers s).query = s.query ∧ (expirePeers s).freeCount = s.freeCount ∧
      (expirePeers s).pending = s.pending := by
  unfold expirePeers
  simp

@[simp] theorem offerFrame_frame (s : State) (f : Frame) (querySeq : Option ℕ) :
    (offerFrame s f querySeq).phase = s.phase ∧ (offerFrame s f querySeq).profile = s.profile ∧
      (offerFrame s f querySeq).ownId = s.ownId ∧ (offerFrame s f querySeq).listenOnly = s.listenOnly ∧
      (offerFrame s f querySeq).listenCause = s.listenCause ∧ (offerFrame s f querySeq).clamped = s.clamped ∧
      (offerFrame s f querySeq).mem = s.mem ∧ (offerFrame s f querySeq).tb = s.tb ∧
      (offerFrame s f querySeq).peers = s.peers ∧ (offerFrame s f querySeq).sampler = s.sampler ∧
      (offerFrame s f querySeq).det = s.det ∧ (offerFrame s f querySeq).picks = s.picks ∧
      (offerFrame s f querySeq).events = s.events ∧ (offerFrame s f querySeq).rm = s.rm ∧
      (offerFrame s f querySeq).bat = s.bat ∧ (offerFrame s f querySeq).heat = s.heat ∧
      (offerFrame s f querySeq).query = s.query ∧ (offerFrame s f querySeq).freeCount = s.freeCount ∧
      (offerFrame s f querySeq).pending = s.pending := by
  unfold offerFrame
  simp

@[simp] theorem correctBy_frame (s : State) (e : ℤ) (t : ℤ) :
    (correctBy s e t).phase = s.phase ∧ (correctBy s e t).profile = s.profile ∧ (correctBy s e t).ownId = s.ownId ∧
      (correctBy s e t).listenOnly = s.listenOnly ∧ (correctBy s e t).listenCause = s.listenCause ∧
      (correctBy s e t).clamped = s.clamped ∧ (correctBy s e t).mem = s.mem ∧ (correctBy s e t).peers = s.peers ∧
      (correctBy s e t).sampler = s.sampler ∧ (correctBy s e t).det = s.det ∧ (correctBy s e t).picks = s.picks ∧
      (correctBy s e t).events = s.events ∧ (correctBy s e t).bat = s.bat ∧ (correctBy s e t).heat = s.heat ∧
      (correctBy s e t).query = s.query ∧ (correctBy s e t).freeCount = s.freeCount ∧
      (correctBy s e t).pending = s.pending := by
  generalize h : correctBy s e t = u
  unfold correctBy at h
  (repeat' split at h) <;> (subst h; simp)

@[simp] theorem clearP_frame (s : State) :
    (clearP s).phase = s.phase ∧ (clearP s).profile = s.profile ∧ (clearP s).ownId = s.ownId ∧
      (clearP s).listenOnly = s.listenOnly ∧ (clearP s).listenCause = s.listenCause ∧ (clearP s).clamped = s.clamped ∧
      (clearP s).mem = s.mem ∧ (clearP s).peers = s.peers ∧ (clearP s).sampler = s.sampler ∧ (clearP s).det = s.det ∧
      (clearP s).picks = s.picks ∧ (clearP s).events = s.events ∧ (clearP s).rm = s.rm ∧ (clearP s).bat = s.bat ∧
      (clearP s).heat = s.heat ∧ (clearP s).line = s.line ∧ (clearP s).query = s.query ∧
      (clearP s).freeCount = s.freeCount ∧ (clearP s).pending = s.pending := by
  unfold clearP
  simp

@[simp] theorem enterState_frame (s : State) (state : TimeState) (grade : ℕ) :
    (enterState s state grade).phase = s.phase ∧ (enterState s state grade).profile = s.profile ∧
      (enterState s state grade).ownId = s.ownId ∧ (enterState s state grade).listenOnly = s.listenOnly ∧
      (enterState s state grade).listenCause = s.listenCause ∧ (enterState s state grade).clamped = s.clamped ∧
      (enterState s state grade).mem = s.mem ∧ (enterState s state grade).peers = s.peers ∧
      (enterState s state grade).sampler = s.sampler ∧ (enterState s state grade).det = s.det ∧
      (enterState s state grade).picks = s.picks ∧ (enterState s state grade).events = s.events ∧
      (enterState s state grade).rm = s.rm ∧ (enterState s state grade).bat = s.bat ∧
      (enterState s state grade).heat = s.heat ∧ (enterState s state grade).line = s.line ∧
      (enterState s state grade).query = s.query ∧ (enterState s state grade).freeCount = s.freeCount ∧
      (enterState s state grade).pending = s.pending := by
  unfold enterState
  simp

@[simp] theorem leaveUnset_frame (s : State) :
    (leaveUnset s).phase = s.phase ∧ (leaveUnset s).profile = s.profile ∧ (leaveUnset s).ownId = s.ownId ∧
      (leaveUnset s).listenOnly = s.listenOnly ∧ (leaveUnset s).listenCause = s.listenCause ∧
      (leaveUnset s).clamped = s.clamped ∧ (leaveUnset s).mem = s.mem ∧ (leaveUnset s).peers = s.peers ∧
      (leaveUnset s).sampler = s.sampler ∧ (leaveUnset s).det = s.det ∧ (leaveUnset s).picks = s.picks ∧
      (leaveUnset s).events = s.events ∧ (leaveUnset s).rm = s.rm ∧ (leaveUnset s).bat = s.bat ∧
      (leaveUnset s).line = s.line ∧ (leaveUnset s).query = s.query ∧ (leaveUnset s).freeCount = s.freeCount ∧
      (leaveUnset s).pending = s.pending := by
  unfold leaveUnset
  simp

@[simp] theorem seedStep_frame (s : State) (seed : Seed) (g : ℕ) :
    (seedStep s seed g).phase = s.phase ∧ (seedStep s seed g).profile = s.profile ∧
      (seedStep s seed g).ownId = s.ownId ∧ (seedStep s seed g).listenOnly = s.listenOnly ∧
      (seedStep s seed g).listenCause = s.listenCause ∧ (seedStep s seed g).clamped = s.clamped ∧
      (seedStep s seed g).mem = s.mem ∧ (seedStep s seed g).peers = s.peers ∧
      (seedStep s seed g).sampler = s.sampler ∧ (seedStep s seed g).det = s.det ∧
      (seedStep s seed g).picks = s.picks ∧ (seedStep s seed g).events = s.events ∧ (seedStep s seed g).bat = s.bat ∧
      (seedStep s seed g).query = s.query ∧ (seedStep s seed g).freeCount = s.freeCount ∧
      (seedStep s seed g).pending = s.pending := by
  unfold seedStep
  simp

@[simp] theorem unsetPath_frame (s : State) :
    (unsetPath s).phase = s.phase ∧ (unsetPath s).profile = s.profile ∧ (unsetPath s).ownId = s.ownId ∧
      (unsetPath s).listenOnly = s.listenOnly ∧ (unsetPath s).listenCause = s.listenCause ∧
      (unsetPath s).clamped = s.clamped ∧ (unsetPath s).mem = s.mem ∧ (unsetPath s).peers = s.peers ∧
      (unsetPath s).sampler = s.sampler ∧ (unsetPath s).det = s.det ∧ (unsetPath s).picks = s.picks ∧
      (unsetPath s).events = s.events ∧ (unsetPath s).bat = s.bat ∧ (unsetPath s).query = s.query ∧
      (unsetPath s).freeCount = s.freeCount ∧ (unsetPath s).pending = s.pending := by
  generalize h : unsetPath s = u
  unfold unsetPath at h
  (repeat' split at h) <;> (subst h; simp)

@[simp] theorem holdoverPath_frame (s : State) (grade : ℕ) :
    (holdoverPath s grade).phase = s.phase ∧ (holdoverPath s grade).profile = s.profile ∧
      (holdoverPath s grade).ownId = s.ownId ∧ (holdoverPath s grade).listenOnly = s.listenOnly ∧
      (holdoverPath s grade).listenCause = s.listenCause ∧ (holdoverPath s grade).clamped = s.clamped ∧
      (holdoverPath s grade).mem = s.mem ∧ (holdoverPath s grade).peers = s.peers ∧
      (holdoverPath s grade).sampler = s.sampler ∧ (holdoverPath s grade).det = s.det ∧
      (holdoverPath s grade).picks = s.picks ∧ (holdoverPath s grade).events = s.events ∧
      (holdoverPath s grade).rm = s.rm ∧ (holdoverPath s grade).bat = s.bat ∧ (holdoverPath s grade).heat = s.heat ∧
      (holdoverPath s grade).line = s.line ∧ (holdoverPath s grade).query = s.query ∧
      (holdoverPath s grade).freeCount = s.freeCount ∧ (holdoverPath s grade).pending = s.pending := by
  generalize h : holdoverPath s grade = u
  unfold holdoverPath at h
  (repeat' split at h) <;> (subst h; simp)

@[simp] theorem peerPath_frame (s : State) (own : ℕ) :
    (peerPath s own).phase = s.phase ∧ (peerPath s own).profile = s.profile ∧ (peerPath s own).ownId = s.ownId ∧
      (peerPath s own).listenOnly = s.listenOnly ∧ (peerPath s own).listenCause = s.listenCause ∧
      (peerPath s own).clamped = s.clamped ∧ (peerPath s own).mem = s.mem ∧ (peerPath s own).peers = s.peers ∧
      (peerPath s own).sampler = s.sampler ∧ (peerPath s own).det = s.det ∧ (peerPath s own).picks = s.picks ∧
      (peerPath s own).events = s.events ∧ (peerPath s own).bat = s.bat ∧ (peerPath s own).heat = s.heat ∧
      (peerPath s own).query = s.query ∧ (peerPath s own).freeCount = s.freeCount ∧
      (peerPath s own).pending = s.pending := by
  generalize h : peerPath s own = u
  unfold peerPath at h
  (repeat' split at h) <;> (subst h; simp)

@[simp] theorem steerPath_frame (s : State) :
    (steerPath s).phase = s.phase ∧ (steerPath s).profile = s.profile ∧ (steerPath s).ownId = s.ownId ∧
      (steerPath s).listenOnly = s.listenOnly ∧ (steerPath s).listenCause = s.listenCause ∧
      (steerPath s).clamped = s.clamped ∧ (steerPath s).mem = s.mem ∧ (steerPath s).peers = s.peers ∧
      (steerPath s).sampler = s.sampler ∧ (steerPath s).det = s.det ∧ (steerPath s).picks = s.picks ∧
      (steerPath s).events = s.events ∧ (steerPath s).bat = s.bat ∧ (steerPath s).query = s.query ∧
      (steerPath s).freeCount = s.freeCount ∧ (steerPath s).pending = s.pending := by
  generalize h : steerPath s = u
  unfold steerPath at h
  (repeat' split at h) <;> (subst h; simp)

@[simp] theorem scheduleInstant_frame (s : State) :
    (scheduleInstant s).phase = s.phase ∧ (scheduleInstant s).profile = s.profile ∧
      (scheduleInstant s).ownId = s.ownId ∧ (scheduleInstant s).listenOnly = s.listenOnly ∧
      (scheduleInstant s).listenCause = s.listenCause ∧ (scheduleInstant s).clamped = s.clamped ∧
      (scheduleInstant s).mem = s.mem ∧ (scheduleInstant s).peers = s.peers ∧
      (scheduleInstant s).sampler = s.sampler ∧ (scheduleInstant s).det = s.det ∧
      (scheduleInstant s).picks = s.picks ∧ (scheduleInstant s).events = s.events ∧ (scheduleInstant s).rm = s.rm ∧
      (scheduleInstant s).bat = s.bat ∧ (scheduleInstant s).heat = s.heat ∧ (scheduleInstant s).line = s.line ∧
      (scheduleInstant s).query = s.query ∧ (scheduleInstant s).freeCount = s.freeCount ∧
      (scheduleInstant s).pending = s.pending := by
  unfold scheduleInstant
  simp

@[simp] theorem askBeacon_frame (s : State) :
    (askBeacon s).phase = s.phase ∧ (askBeacon s).profile = s.profile ∧ (askBeacon s).ownId = s.ownId ∧
      (askBeacon s).listenOnly = s.listenOnly ∧ (askBeacon s).listenCause = s.listenCause ∧
      (askBeacon s).clamped = s.clamped ∧ (askBeacon s).mem = s.mem ∧ (askBeacon s).tb = s.tb ∧
      (askBeacon s).peers = s.peers ∧ (askBeacon s).sampler = s.sampler ∧ (askBeacon s).det = s.det ∧
      (askBeacon s).picks = s.picks ∧ (askBeacon s).events = s.events ∧ (askBeacon s).rm = s.rm ∧
      (askBeacon s).bat = s.bat ∧ (askBeacon s).heat = s.heat ∧ (askBeacon s).query = s.query ∧
      (askBeacon s).freeCount = s.freeCount ∧ (askBeacon s).pending = s.pending := by
  generalize h : askBeacon s = u
  unfold askBeacon at h
  (repeat' split at h) <;> (subst h; simp)

@[simp] theorem emptySeed_frame (s : State) :
    (emptySeed s).phase = s.phase ∧ (emptySeed s).profile = s.profile ∧ (emptySeed s).ownId = s.ownId ∧
      (emptySeed s).listenOnly = s.listenOnly ∧ (emptySeed s).listenCause = s.listenCause ∧
      (emptySeed s).clamped = s.clamped ∧ (emptySeed s).mem = s.mem ∧ (emptySeed s).peers = s.peers ∧
      (emptySeed s).sampler = s.sampler ∧ (emptySeed s).det = s.det ∧ (emptySeed s).picks = s.picks ∧
      (emptySeed s).events = s.events ∧ (emptySeed s).rm = s.rm ∧ (emptySeed s).bat = s.bat ∧
      (emptySeed s).heat = s.heat ∧ (emptySeed s).line = s.line ∧ (emptySeed s).query = s.query ∧
      (emptySeed s).freeCount = s.freeCount ∧ (emptySeed s).pending = s.pending := by
  unfold emptySeed
  simp

@[simp] theorem clearStepped_frame (s : State) :
    (clearStepped s).phase = s.phase ∧ (clearStepped s).profile = s.profile ∧ (clearStepped s).ownId = s.ownId ∧
      (clearStepped s).listenOnly = s.listenOnly ∧ (clearStepped s).listenCause = s.listenCause ∧
      (clearStepped s).clamped = s.clamped ∧ (clearStepped s).mem = s.mem ∧ (clearStepped s).peers = s.peers ∧
      (clearStepped s).sampler = s.sampler ∧ (clearStepped s).det = s.det ∧ (clearStepped s).picks = s.picks ∧
      (clearStepped s).events = s.events ∧ (clearStepped s).rm = s.rm ∧ (clearStepped s).bat = s.bat ∧
      (clearStepped s).heat = s.heat ∧ (clearStepped s).line = s.line ∧ (clearStepped s).query = s.query ∧
      (clearStepped s).freeCount = s.freeCount ∧ (clearStepped s).pending = s.pending := by
  unfold clearStepped
  simp

@[simp] theorem shiftedInstant_frame (s : State) :
    (shiftedInstant s).phase = s.phase ∧ (shiftedInstant s).profile = s.profile ∧ (shiftedInstant s).ownId = s.ownId ∧
      (shiftedInstant s).listenOnly = s.listenOnly ∧ (shiftedInstant s).listenCause = s.listenCause ∧
      (shiftedInstant s).clamped = s.clamped ∧ (shiftedInstant s).mem = s.mem ∧ (shiftedInstant s).sampler = s.sampler ∧
      (shiftedInstant s).det = s.det ∧ (shiftedInstant s).picks = s.picks ∧ (shiftedInstant s).events = s.events ∧
      (shiftedInstant s).bat = s.bat ∧ (shiftedInstant s).query = s.query ∧ (shiftedInstant s).freeCount = s.freeCount ∧
      (shiftedInstant s).pending = s.pending := by
  unfold shiftedInstant
  simp

@[simp] theorem steeringWork_frame (s : State) :
    (steeringWork s).phase = s.phase ∧ (steeringWork s).profile = s.profile ∧ (steeringWork s).ownId = s.ownId ∧
      (steeringWork s).listenOnly = s.listenOnly ∧ (steeringWork s).listenCause = s.listenCause ∧
      (steeringWork s).clamped = s.clamped ∧ (steeringWork s).mem = s.mem ∧ (steeringWork s).sampler = s.sampler ∧
      (steeringWork s).det = s.det ∧ (steeringWork s).picks = s.picks ∧ (steeringWork s).events = s.events ∧
      (steeringWork s).bat = s.bat ∧ (steeringWork s).query = s.query ∧ (steeringWork s).freeCount = s.freeCount ∧
      (steeringWork s).pending = s.pending := by
  unfold steeringWork
  simp

@[simp] theorem ppsTaken_frame (s : State) :
    (ppsTaken s).phase = s.phase ∧ (ppsTaken s).profile = s.profile ∧ (ppsTaken s).ownId = s.ownId ∧
      (ppsTaken s).listenOnly = s.listenOnly ∧ (ppsTaken s).listenCause = s.listenCause ∧
      (ppsTaken s).clamped = s.clamped ∧ (ppsTaken s).mem = s.mem ∧ (ppsTaken s).peers = s.peers ∧
      (ppsTaken s).sampler = s.sampler ∧ (ppsTaken s).det = s.det ∧ (ppsTaken s).picks = s.picks ∧
      (ppsTaken s).events = s.events ∧ (ppsTaken s).rm = s.rm ∧ (ppsTaken s).bat = s.bat ∧
      (ppsTaken s).heat = s.heat ∧ (ppsTaken s).line = s.line ∧ (ppsTaken s).query = s.query ∧
      (ppsTaken s).freeCount = s.freeCount ∧ (ppsTaken s).pending = s.pending := by
  unfold ppsTaken
  simp

@[simp] theorem ppsRejected_frame (s : State) :
    (ppsRejected s).phase = s.phase ∧ (ppsRejected s).profile = s.profile ∧ (ppsRejected s).ownId = s.ownId ∧
      (ppsRejected s).listenOnly = s.listenOnly ∧ (ppsRejected s).listenCause = s.listenCause ∧
      (ppsRejected s).clamped = s.clamped ∧ (ppsRejected s).mem = s.mem ∧ (ppsRejected s).peers = s.peers ∧
      (ppsRejected s).sampler = s.sampler ∧ (ppsRejected s).det = s.det ∧ (ppsRejected s).picks = s.picks ∧
      (ppsRejected s).events = s.events ∧ (ppsRejected s).rm = s.rm ∧ (ppsRejected s).bat = s.bat ∧
      (ppsRejected s).heat = s.heat ∧ (ppsRejected s).line = s.line ∧ (ppsRejected s).query = s.query ∧
      (ppsRejected s).freeCount = s.freeCount ∧ (ppsRejected s).pending = s.pending := by
  unfold ppsRejected
  simp

@[simp] theorem markAligned_frame (s : State) :
    (markAligned s).phase = s.phase ∧ (markAligned s).profile = s.profile ∧ (markAligned s).ownId = s.ownId ∧
      (markAligned s).listenOnly = s.listenOnly ∧ (markAligned s).listenCause = s.listenCause ∧
      (markAligned s).clamped = s.clamped ∧ (markAligned s).mem = s.mem ∧ (markAligned s).peers = s.peers ∧
      (markAligned s).sampler = s.sampler ∧ (markAligned s).det = s.det ∧ (markAligned s).picks = s.picks ∧
      (markAligned s).events = s.events ∧ (markAligned s).rm = s.rm ∧ (markAligned s).bat = s.bat ∧
      (markAligned s).heat = s.heat ∧ (markAligned s).line = s.line ∧ (markAligned s).query = s.query ∧
      (markAligned s).freeCount = s.freeCount ∧ (markAligned s).pending = s.pending := by
  unfold markAligned
  simp

@[simp] theorem ppsReacquire_frame (s : State) (e : ℤ) :
    (ppsReacquire s e).phase = s.phase ∧ (ppsReacquire s e).profile = s.profile ∧ (ppsReacquire s e).ownId = s.ownId ∧
      (ppsReacquire s e).listenOnly = s.listenOnly ∧ (ppsReacquire s e).listenCause = s.listenCause ∧
      (ppsReacquire s e).clamped = s.clamped ∧ (ppsReacquire s e).mem = s.mem ∧ (ppsReacquire s e).peers = s.peers ∧
      (ppsReacquire s e).sampler = s.sampler ∧ (ppsReacquire s e).det = s.det ∧ (ppsReacquire s e).picks = s.picks ∧
      (ppsReacquire s e).events = s.events ∧ (ppsReacquire s e).bat = s.bat ∧ (ppsReacquire s e).heat = s.heat ∧
      (ppsReacquire s e).query = s.query ∧ (ppsReacquire s e).freeCount = s.freeCount ∧
      (ppsReacquire s e).pending = s.pending := by
  generalize h : ppsReacquire s e = u
  unfold ppsReacquire at h
  dsimp only at h
  (repeat' split at h) <;> (subst h; simp)

@[simp] theorem ppsAlign_frame (s : State) (e : ℤ) :
    (ppsAlign s e).phase = s.phase ∧ (ppsAlign s e).profile = s.profile ∧ (ppsAlign s e).ownId = s.ownId ∧
      (ppsAlign s e).listenOnly = s.listenOnly ∧ (ppsAlign s e).listenCause = s.listenCause ∧
      (ppsAlign s e).clamped = s.clamped ∧ (ppsAlign s e).mem = s.mem ∧ (ppsAlign s e).peers = s.peers ∧
      (ppsAlign s e).sampler = s.sampler ∧ (ppsAlign s e).det = s.det ∧ (ppsAlign s e).picks = s.picks ∧
      (ppsAlign s e).events = s.events ∧ (ppsAlign s e).bat = s.bat ∧ (ppsAlign s e).heat = s.heat ∧
      (ppsAlign s e).query = s.query ∧ (ppsAlign s e).freeCount = s.freeCount ∧ (ppsAlign s e).pending = s.pending := by
  generalize h : ppsAlign s e = u
  unfold ppsAlign at h
  (repeat' split at h) <;> (subst h; simp)

@[simp] theorem ppsAnchor_frame (s : State) (e : ℤ) :
    (ppsAnchor s e).phase = s.phase ∧ (ppsAnchor s e).profile = s.profile ∧ (ppsAnchor s e).ownId = s.ownId ∧
      (ppsAnchor s e).listenOnly = s.listenOnly ∧ (ppsAnchor s e).listenCause = s.listenCause ∧
      (ppsAnchor s e).clamped = s.clamped ∧ (ppsAnchor s e).mem = s.mem ∧ (ppsAnchor s e).peers = s.peers ∧
      (ppsAnchor s e).sampler = s.sampler ∧ (ppsAnchor s e).det = s.det ∧ (ppsAnchor s e).picks = s.picks ∧
      (ppsAnchor s e).events = s.events ∧ (ppsAnchor s e).bat = s.bat ∧ (ppsAnchor s e).heat = s.heat ∧
      (ppsAnchor s e).query = s.query ∧ (ppsAnchor s e).freeCount = s.freeCount ∧
      (ppsAnchor s e).pending = s.pending := by
  generalize h : ppsAnchor s e = u
  unfold ppsAnchor at h
  (repeat' split at h) <;> (subst h; simp)

@[simp] theorem ppsEdgeWork_frame (s : State) :
    (ppsEdgeWork s).phase = s.phase ∧ (ppsEdgeWork s).profile = s.profile ∧ (ppsEdgeWork s).ownId = s.ownId ∧
      (ppsEdgeWork s).listenOnly = s.listenOnly ∧ (ppsEdgeWork s).listenCause = s.listenCause ∧
      (ppsEdgeWork s).clamped = s.clamped ∧ (ppsEdgeWork s).mem = s.mem ∧ (ppsEdgeWork s).peers = s.peers ∧
      (ppsEdgeWork s).sampler = s.sampler ∧ (ppsEdgeWork s).det = s.det ∧ (ppsEdgeWork s).picks = s.picks ∧
      (ppsEdgeWork s).events = s.events ∧ (ppsEdgeWork s).bat = s.bat ∧ (ppsEdgeWork s).heat = s.heat ∧
      (ppsEdgeWork s).query = s.query ∧ (ppsEdgeWork s).freeCount = s.freeCount ∧
      (ppsEdgeWork s).pending = s.pending := by
  generalize h : ppsEdgeWork s = u
  unfold ppsEdgeWork at h
  dsimp only at h
  (repeat' split at h) <;> (subst h; simp)

@[simp] theorem setSecondsWork_frame (s : State) (seconds : ℕ) :
    (setSecondsWork s seconds).phase = s.phase ∧ (setSecondsWork s seconds).profile = s.profile ∧
      (setSecondsWork s seconds).ownId = s.ownId ∧ (setSecondsWork s seconds).listenOnly = s.listenOnly ∧
      (setSecondsWork s seconds).listenCause = s.listenCause ∧ (setSecondsWork s seconds).clamped = s.clamped ∧
      (setSecondsWork s seconds).mem = s.mem ∧ (setSecondsWork s seconds).peers = s.peers ∧
      (setSecondsWork s seconds).sampler = s.sampler ∧ (setSecondsWork s seconds).det = s.det ∧
      (setSecondsWork s seconds).picks = s.picks ∧ (setSecondsWork s seconds).events = s.events ∧
      (setSecondsWork s seconds).bat = s.bat ∧ (setSecondsWork s seconds).query = s.query ∧
      (setSecondsWork s seconds).freeCount = s.freeCount ∧ (setSecondsWork s seconds).pending = s.pending := by
  generalize h : setSecondsWork s seconds = u
  unfold setSecondsWork at h
  dsimp only at h
  (repeat' split at h) <;> (subst h; simp)

@[simp] theorem sectionTime_frame (s : State) :
    (sectionTime s).phase = s.phase ∧ (sectionTime s).profile = s.profile ∧ (sectionTime s).ownId = s.ownId ∧
      (sectionTime s).listenOnly = s.listenOnly ∧ (sectionTime s).listenCause = s.listenCause ∧
      (sectionTime s).clamped = s.clamped ∧ (sectionTime s).mem = s.mem ∧ (sectionTime s).peers = s.peers ∧
      (sectionTime s).sampler = s.sampler ∧ (sectionTime s).det = s.det ∧ (sectionTime s).picks = s.picks ∧
      (sectionTime s).events = s.events ∧ (sectionTime s).rm = s.rm ∧ (sectionTime s).bat = s.bat ∧
      (sectionTime s).heat = s.heat ∧ (sectionTime s).line = s.line ∧ (sectionTime s).query = s.query ∧
      (sectionTime s).freeCount = s.freeCount ∧ (sectionTime s).pending = s.pending := by
  generalize h : sectionTime s = u
  unfold sectionTime at h
  (repeat' split at h) <;> (subst h; simp)

@[simp] theorem sectionResetWork_frame (s : State) :
    (sectionResetWork s).phase = s.phase ∧ (sectionResetWork s).profile = s.profile ∧
      (sectionResetWork s).ownId = s.ownId ∧ (sectionResetWork s).listenOnly = s.listenOnly ∧
      (sectionResetWork s).listenCause = s.listenCause ∧ (sectionResetWork s).clamped = s.clamped ∧
      (sectionResetWork s).mem = s.mem ∧ (sectionResetWork s).sampler = s.sampler ∧ (sectionResetWork s).det = s.det ∧
      (sectionResetWork s).events = s.events ∧ (sectionResetWork s).rm = s.rm ∧ (sectionResetWork s).bat = s.bat ∧
      (sectionResetWork s).heat = s.heat ∧ (sectionResetWork s).query = s.query ∧
      (sectionResetWork s).freeCount = s.freeCount ∧ (sectionResetWork s).pending = s.pending := by
  unfold sectionResetWork
  simp

@[simp] theorem quietTest_frame (s : State) :
    (quietTest s).phase = s.phase ∧ (quietTest s).profile = s.profile ∧ (quietTest s).ownId = s.ownId ∧
      (quietTest s).listenOnly = s.listenOnly ∧ (quietTest s).listenCause = s.listenCause ∧
      (quietTest s).clamped = s.clamped ∧ (quietTest s).mem = s.mem ∧ (quietTest s).sampler = s.sampler ∧
      (quietTest s).det = s.det ∧ (quietTest s).events = s.events ∧ (quietTest s).rm = s.rm ∧
      (quietTest s).bat = s.bat ∧ (quietTest s).heat = s.heat ∧ (quietTest s).query = s.query ∧
      (quietTest s).freeCount = s.freeCount ∧ (quietTest s).pending = s.pending := by
  generalize h : quietTest s = u
  unfold quietTest at h
  (repeat' split at h) <;> (subst h; simp)

@[simp] theorem loadProfile_frame (s : State) (reads : List (Option (List Byte))) :
    (loadProfile s reads).phase = s.phase ∧ (loadProfile s reads).mem = s.mem ∧ (loadProfile s reads).tb = s.tb ∧
      (loadProfile s reads).peers = s.peers ∧ (loadProfile s reads).sampler = s.sampler ∧
      (loadProfile s reads).det = s.det ∧ (loadProfile s reads).picks = s.picks ∧
      (loadProfile s reads).events = s.events ∧ (loadProfile s reads).rm = s.rm ∧ (loadProfile s reads).bat = s.bat ∧
      (loadProfile s reads).heat = s.heat ∧ (loadProfile s reads).line = s.line ∧
      (loadProfile s reads).query = s.query ∧ (loadProfile s reads).freeCount = s.freeCount ∧
      (loadProfile s reads).pending = s.pending := by
  generalize h : loadProfile s reads = u
  unfold loadProfile at h
  (repeat' split at h) <;> (subst h; simp)

end Sys2Proof.Machine
end

