-- ==== Sys2Proof/Laws/FramesEvents.lean ====
section
/-! SUPPORT. The frames of the Event Table's, the Pick List's and the Detector's operations, and of a sample tick. -/

namespace Sys2Proof.Machine

@[simp] theorem eventUpdate_frame (s : State) (serial : ℕ) (f : EventEntry → EventEntry) :
    (eventUpdate s serial f).phase = s.phase ∧ (eventUpdate s serial f).profile = s.profile ∧
      (eventUpdate s serial f).ownId = s.ownId ∧ (eventUpdate s serial f).listenOnly = s.listenOnly ∧
      (eventUpdate s serial f).listenCause = s.listenCause ∧ (eventUpdate s serial f).clamped = s.clamped ∧
      (eventUpdate s serial f).mem = s.mem ∧ (eventUpdate s serial f).tb = s.tb ∧
      (eventUpdate s serial f).peers = s.peers ∧ (eventUpdate s serial f).sampler = s.sampler ∧
      (eventUpdate s serial f).det = s.det ∧ (eventUpdate s serial f).picks = s.picks ∧
      (eventUpdate s serial f).rm = s.rm ∧ (eventUpdate s serial f).bat = s.bat ∧
      (eventUpdate s serial f).heat = s.heat ∧ (eventUpdate s serial f).line = s.line ∧
      (eventUpdate s serial f).query = s.query ∧ (eventUpdate s serial f).freeCount = s.freeCount ∧
      (eventUpdate s serial f).pending = s.pending := by
  unfold eventUpdate
  simp

@[simp] theorem formAlertLine_frame (s : State) :
    (formAlertLine s).phase = s.phase ∧ (formAlertLine s).profile = s.profile ∧ (formAlertLine s).ownId = s.ownId ∧
      (formAlertLine s).listenOnly = s.listenOnly ∧ (formAlertLine s).listenCause = s.listenCause ∧
      (formAlertLine s).clamped = s.clamped ∧ (formAlertLine s).mem = s.mem ∧ (formAlertLine s).tb = s.tb ∧
      (formAlertLine s).peers = s.peers ∧ (formAlertLine s).sampler = s.sampler ∧ (formAlertLine s).det = s.det ∧
      (formAlertLine s).picks = s.picks ∧ (formAlertLine s).rm = s.rm ∧ (formAlertLine s).bat = s.bat ∧
      (formAlertLine s).heat = s.heat ∧ (formAlertLine s).line = s.line ∧ (formAlertLine s).query = s.query ∧
      (formAlertLine s).freeCount = s.freeCount ∧ (formAlertLine s).pending = s.pending := by
  unfold formAlertLine
  simp

theorem eventRoom_frame (s : State) (u : State) (h : eventRoom s = some u) :
    u.phase = s.phase ∧ u.profile = s.profile ∧ u.ownId = s.ownId ∧ u.listenOnly = s.listenOnly ∧
      u.listenCause = s.listenCause ∧ u.clamped = s.clamped ∧ u.mem = s.mem ∧ u.tb = s.tb ∧ u.peers = s.peers ∧
      u.sampler = s.sampler ∧ u.det = s.det ∧ u.picks = s.picks ∧ u.rm = s.rm ∧ u.bat = s.bat ∧ u.heat = s.heat ∧
      u.line = s.line ∧ u.query = s.query ∧ u.freeCount = s.freeCount ∧ u.pending = s.pending := by
  unfold eventRoom at h
  (try dsimp only at h)
  (repeat' split at h) <;> first
    | (cases h; done)
    | (simp only [Option.some.injEq] at h; subst h; simp; done)

@[simp] theorem eventAdd_frame (s : State) (e : EventEntry) :
    (eventAdd s e).phase = s.phase ∧ (eventAdd s e).profile = s.profile ∧ (eventAdd s e).ownId = s.ownId ∧
      (eventAdd s e).listenOnly = s.listenOnly ∧ (eventAdd s e).listenCause = s.listenCause ∧
      (eventAdd s e).clamped = s.clamped ∧ (eventAdd s e).mem = s.mem ∧ (eventAdd s e).tb = s.tb ∧
      (eventAdd s e).peers = s.peers ∧ (eventAdd s e).sampler = s.sampler ∧ (eventAdd s e).det = s.det ∧
      (eventAdd s e).picks = s.picks ∧ (eventAdd s e).rm = s.rm ∧ (eventAdd s e).bat = s.bat ∧
      (eventAdd s e).heat = s.heat ∧ (eventAdd s e).line = s.line ∧ (eventAdd s e).query = s.query ∧
      (eventAdd s e).freeCount = s.freeCount ∧ (eventAdd s e).pending = s.pending := by
  unfold eventAdd
  simp

@[simp] theorem queueReport_frame (s : State) (kind : ℕ) (e : EventEntry) :
    (queueReport s kind e).phase = s.phase ∧ (queueReport s kind e).profile = s.profile ∧
      (queueReport s kind e).ownId = s.ownId ∧ (queueReport s kind e).listenOnly = s.listenOnly ∧
      (queueReport s kind e).listenCause = s.listenCause ∧ (queueReport s kind e).clamped = s.clamped ∧
      (queueReport s kind e).mem = s.mem ∧ (queueReport s kind e).tb = s.tb ∧ (queueReport s kind e).peers = s.peers ∧
      (queueReport s kind e).sampler = s.sampler ∧ (queueReport s kind e).det = s.det ∧
      (queueReport s kind e).picks = s.picks ∧ (queueReport s kind e).rm = s.rm ∧ (queueReport s kind e).bat = s.bat ∧
      (queueReport s kind e).heat = s.heat ∧ (queueReport s kind e).line = s.line ∧
      (queueReport s kind e).query = s.query ∧ (queueReport s kind e).freeCount = s.freeCount ∧
      (queueReport s kind e).pending = s.pending := by
  generalize h : queueReport s kind e = u
  unfold queueReport at h
  (repeat' split at h) <;> (subst h; simp)

@[simp] theorem reportOf_frame (s : State) (kind : ℕ) (serial : ℕ) :
    (reportOf s kind serial).phase = s.phase ∧ (reportOf s kind serial).profile = s.profile ∧
      (reportOf s kind serial).ownId = s.ownId ∧ (reportOf s kind serial).listenOnly = s.listenOnly ∧
      (reportOf s kind serial).listenCause = s.listenCause ∧ (reportOf s kind serial).clamped = s.clamped ∧
      (reportOf s kind serial).mem = s.mem ∧ (reportOf s kind serial).tb = s.tb ∧
      (reportOf s kind serial).peers = s.peers ∧ (reportOf s kind serial).sampler = s.sampler ∧
      (reportOf s kind serial).det = s.det ∧ (reportOf s kind serial).picks = s.picks ∧
      (reportOf s kind serial).rm = s.rm ∧ (reportOf s kind serial).bat = s.bat ∧
      (reportOf s kind serial).heat = s.heat ∧ (reportOf s kind serial).line = s.line ∧
      (reportOf s kind serial).query = s.query ∧ (reportOf s kind serial).freeCount = s.freeCount ∧
      (reportOf s kind serial).pending = s.pending := by
  generalize h : reportOf s kind serial = u
  unfold reportOf at h
  (repeat' split at h) <;> (subst h; simp)

@[simp] theorem alertDone_frame (s : State) (serial : ℕ) (failed : Bool) :
    (alertDone s serial failed).phase = s.phase ∧ (alertDone s serial failed).profile = s.profile ∧
      (alertDone s serial failed).ownId = s.ownId ∧ (alertDone s serial failed).listenOnly = s.listenOnly ∧
      (alertDone s serial failed).listenCause = s.listenCause ∧ (alertDone s serial failed).clamped = s.clamped ∧
      (alertDone s serial failed).mem = s.mem ∧ (alertDone s serial failed).tb = s.tb ∧
      (alertDone s serial failed).peers = s.peers ∧ (alertDone s serial failed).sampler = s.sampler ∧
      (alertDone s serial failed).det = s.det ∧ (alertDone s serial failed).picks = s.picks ∧
      (alertDone s serial failed).rm = s.rm ∧ (alertDone s serial failed).bat = s.bat ∧
      (alertDone s serial failed).heat = s.heat ∧ (alertDone s serial failed).line = s.line ∧
      (alertDone s serial failed).query = s.query ∧ (alertDone s serial failed).freeCount = s.freeCount ∧
      (alertDone s serial failed).pending = s.pending := by
  generalize h : alertDone s serial failed = u
  unfold alertDone at h
  (repeat' split at h) <;> (subst h; simp)

@[simp] theorem handAlert_frame (s : State) (serial : ℕ) :
    (handAlert s serial).phase = s.phase ∧ (handAlert s serial).profile = s.profile ∧
      (handAlert s serial).ownId = s.ownId ∧ (handAlert s serial).listenOnly = s.listenOnly ∧
      (handAlert s serial).listenCause = s.listenCause ∧ (handAlert s serial).clamped = s.clamped ∧
      (handAlert s serial).mem = s.mem ∧ (handAlert s serial).tb = s.tb ∧ (handAlert s serial).peers = s.peers ∧
      (handAlert s serial).sampler = s.sampler ∧ (handAlert s serial).det = s.det ∧
      (handAlert s serial).picks = s.picks ∧ (handAlert s serial).rm = s.rm ∧ (handAlert s serial).bat = s.bat ∧
      (handAlert s serial).heat = s.heat ∧ (handAlert s serial).query = s.query ∧
      (handAlert s serial).freeCount = s.freeCount ∧ (handAlert s serial).pending = s.pending := by
  generalize h : handAlert s serial = u
  unfold handAlert at h
  dsimp only at h
  (repeat' split at h) <;> (subst h; simp)

@[simp] theorem startAlerts_frame (s : State) (serial : ℕ) :
    (startAlerts s serial).phase = s.phase ∧ (startAlerts s serial).profile = s.profile ∧
      (startAlerts s serial).ownId = s.ownId ∧ (startAlerts s serial).listenOnly = s.listenOnly ∧
      (startAlerts s serial).listenCause = s.listenCause ∧ (startAlerts s serial).clamped = s.clamped ∧
      (startAlerts s serial).mem = s.mem ∧ (startAlerts s serial).tb = s.tb ∧ (startAlerts s serial).peers = s.peers ∧
      (startAlerts s serial).sampler = s.sampler ∧ (startAlerts s serial).det = s.det ∧
      (startAlerts s serial).picks = s.picks ∧ (startAlerts s serial).rm = s.rm ∧ (startAlerts s serial).bat = s.bat ∧
      (startAlerts s serial).heat = s.heat ∧ (startAlerts s serial).query = s.query ∧
      (startAlerts s serial).freeCount = s.freeCount ∧ (startAlerts s serial).pending = s.pending := by
  unfold startAlerts
  simp

@[simp] theorem requestHold_frame (s : State) (serial : ℕ) (picks : List ArrayTime) :
    (requestHold s serial picks).phase = s.phase ∧ (requestHold s serial picks).profile = s.profile ∧
      (requestHold s serial picks).ownId = s.ownId ∧ (requestHold s serial picks).listenOnly = s.listenOnly ∧
      (requestHold s serial picks).listenCause = s.listenCause ∧ (requestHold s serial picks).clamped = s.clamped ∧
      (requestHold s serial picks).mem = s.mem ∧ (requestHold s serial picks).tb = s.tb ∧
      (requestHold s serial picks).peers = s.peers ∧ (requestHold s serial picks).sampler = s.sampler ∧
      (requestHold s serial picks).det = s.det ∧ (requestHold s serial picks).picks = s.picks ∧
      (requestHold s serial picks).bat = s.bat ∧ (requestHold s serial picks).heat = s.heat ∧
      (requestHold s serial picks).line = s.line ∧ (requestHold s serial picks).query = s.query ∧
      (requestHold s serial picks).freeCount = s.freeCount ∧ (requestHold s serial picks).pending = s.pending := by
  generalize h : requestHold s serial picks = u
  unfold requestHold at h
  (repeat' split at h) <;> (subst h; simp)

@[simp] theorem openDeclared_frame (s : State) (d : Declaration) :
    (openDeclared s d).phase = s.phase ∧ (openDeclared s d).profile = s.profile ∧ (openDeclared s d).ownId = s.ownId ∧
      (openDeclared s d).listenOnly = s.listenOnly ∧ (openDeclared s d).listenCause = s.listenCause ∧
      (openDeclared s d).clamped = s.clamped ∧ (openDeclared s d).mem = s.mem ∧ (openDeclared s d).tb = s.tb ∧
      (openDeclared s d).peers = s.peers ∧ (openDeclared s d).sampler = s.sampler ∧ (openDeclared s d).det = s.det ∧
      (openDeclared s d).picks = s.picks ∧ (openDeclared s d).bat = s.bat ∧ (openDeclared s d).heat = s.heat ∧
      (openDeclared s d).query = s.query ∧ (openDeclared s d).freeCount = s.freeCount ∧
      (openDeclared s d).pending = s.pending := by
  unfold openDeclared
  simp

@[simp] theorem completeDeclared_frame (s : State) (d : Declaration) (serial : ℕ) :
    (completeDeclared s d serial).phase = s.phase ∧ (completeDeclared s d serial).profile = s.profile ∧
      (completeDeclared s d serial).ownId = s.ownId ∧ (completeDeclared s d serial).listenOnly = s.listenOnly ∧
      (completeDeclared s d serial).listenCause = s.listenCause ∧ (completeDeclared s d serial).clamped = s.clamped ∧
      (completeDeclared s d serial).mem = s.mem ∧ (completeDeclared s d serial).tb = s.tb ∧
      (completeDeclared s d serial).peers = s.peers ∧ (completeDeclared s d serial).sampler = s.sampler ∧
      (completeDeclared s d serial).det = s.det ∧ (completeDeclared s d serial).picks = s.picks ∧
      (completeDeclared s d serial).bat = s.bat ∧ (completeDeclared s d serial).heat = s.heat ∧
      (completeDeclared s d serial).query = s.query ∧ (completeDeclared s d serial).freeCount = s.freeCount ∧
      (completeDeclared s d serial).pending = s.pending := by
  unfold completeDeclared
  simp

@[simp] theorem declareEvent_frame (s : State) (d : Declaration) :
    (declareEvent s d).1.phase = s.phase ∧ (declareEvent s d).1.profile = s.profile ∧
      (declareEvent s d).1.ownId = s.ownId ∧ (declareEvent s d).1.listenOnly = s.listenOnly ∧
      (declareEvent s d).1.listenCause = s.listenCause ∧ (declareEvent s d).1.clamped = s.clamped ∧
      (declareEvent s d).1.mem = s.mem ∧ (declareEvent s d).1.tb = s.tb ∧ (declareEvent s d).1.peers = s.peers ∧
      (declareEvent s d).1.sampler = s.sampler ∧ (declareEvent s d).1.det = s.det ∧
      (declareEvent s d).1.picks = s.picks ∧ (declareEvent s d).1.bat = s.bat ∧ (declareEvent s d).1.heat = s.heat ∧
      (declareEvent s d).1.query = s.query ∧ (declareEvent s d).1.freeCount = s.freeCount ∧
      (declareEvent s d).1.pending = s.pending := by
  unfold declareEvent
  split
  · split <;> simp
  · split
    · rename_i t ht
      simp [eventRoom_frame _ _ ht]
    · simp

@[simp] theorem attachVote_frame (s : State) (serial : ℕ) (p : PickEntry) :
    (attachVote s serial p).phase = s.phase ∧ (attachVote s serial p).profile = s.profile ∧
      (attachVote s serial p).ownId = s.ownId ∧ (attachVote s serial p).listenOnly = s.listenOnly ∧
      (attachVote s serial p).listenCause = s.listenCause ∧ (attachVote s serial p).clamped = s.clamped ∧
      (attachVote s serial p).mem = s.mem ∧ (attachVote s serial p).tb = s.tb ∧
      (attachVote s serial p).peers = s.peers ∧ (attachVote s serial p).sampler = s.sampler ∧
      (attachVote s serial p).det = s.det ∧ (attachVote s serial p).picks = s.picks ∧
      (attachVote s serial p).bat = s.bat ∧ (attachVote s serial p).heat = s.heat ∧
      (attachVote s serial p).line = s.line ∧ (attachVote s serial p).query = s.query ∧
      (attachVote s serial p).freeCount = s.freeCount ∧ (attachVote s serial p).pending = s.pending := by
  unfold attachVote
  simp

@[simp] theorem alertMatched_frame (s : State) (e : EventEntry) (sender : ℕ) (a : AlertPayload) :
    (alertMatched s e sender a).phase = s.phase ∧ (alertMatched s e sender a).profile = s.profile ∧
      (alertMatched s e sender a).ownId = s.ownId ∧ (alertMatched s e sender a).listenOnly = s.listenOnly ∧
      (alertMatched s e sender a).listenCause = s.listenCause ∧ (alertMatched s e sender a).clamped = s.clamped ∧
      (alertMatched s e sender a).mem = s.mem ∧ (alertMatched s e sender a).tb = s.tb ∧
      (alertMatched s e sender a).peers = s.peers ∧ (alertMatched s e sender a).sampler = s.sampler ∧
      (alertMatched s e sender a).det = s.det ∧ (alertMatched s e sender a).picks = s.picks ∧
      (alertMatched s e sender a).bat = s.bat ∧ (alertMatched s e sender a).heat = s.heat ∧
      (alertMatched s e sender a).line = s.line ∧ (alertMatched s e sender a).query = s.query ∧
      (alertMatched s e sender a).freeCount = s.freeCount ∧ (alertMatched s e sender a).pending = s.pending := by
  generalize h : alertMatched s e sender a = u
  unfold alertMatched at h
  dsimp only at h
  (repeat' split at h) <;> (subst h; simp)

@[simp] theorem alertUnmatched_frame (s : State) (sender : ℕ) (a : AlertPayload) :
    (alertUnmatched s sender a).phase = s.phase ∧ (alertUnmatched s sender a).profile = s.profile ∧
      (alertUnmatched s sender a).ownId = s.ownId ∧ (alertUnmatched s sender a).listenOnly = s.listenOnly ∧
      (alertUnmatched s sender a).listenCause = s.listenCause ∧ (alertUnmatched s sender a).clamped = s.clamped ∧
      (alertUnmatched s sender a).mem = s.mem ∧ (alertUnmatched s sender a).tb = s.tb ∧
      (alertUnmatched s sender a).peers = s.peers ∧ (alertUnmatched s sender a).sampler = s.sampler ∧
      (alertUnmatched s sender a).det = s.det ∧ (alertUnmatched s sender a).picks = s.picks ∧
      (alertUnmatched s sender a).bat = s.bat ∧ (alertUnmatched s sender a).heat = s.heat ∧
      (alertUnmatched s sender a).line = s.line ∧ (alertUnmatched s sender a).query = s.query ∧
      (alertUnmatched s sender a).freeCount = s.freeCount ∧ (alertUnmatched s sender a).pending = s.pending := by
  unfold alertUnmatched
  split
  · simp
  · rename_i t ht
    simp [eventRoom_frame _ _ ht]

@[simp] theorem eventAlert_frame (s : State) (sender : ℕ) (a : AlertPayload) :
    (eventAlert s sender a).phase = s.phase ∧ (eventAlert s sender a).profile = s.profile ∧
      (eventAlert s sender a).ownId = s.ownId ∧ (eventAlert s sender a).listenOnly = s.listenOnly ∧
      (eventAlert s sender a).listenCause = s.listenCause ∧ (eventAlert s sender a).clamped = s.clamped ∧
      (eventAlert s sender a).mem = s.mem ∧ (eventAlert s sender a).tb = s.tb ∧
      (eventAlert s sender a).peers = s.peers ∧ (eventAlert s sender a).sampler = s.sampler ∧
      (eventAlert s sender a).det = s.det ∧ (eventAlert s sender a).picks = s.picks ∧
      (eventAlert s sender a).bat = s.bat ∧ (eventAlert s sender a).heat = s.heat ∧
      (eventAlert s sender a).line = s.line ∧ (eventAlert s sender a).query = s.query ∧
      (eventAlert s sender a).freeCount = s.freeCount ∧ (eventAlert s sender a).pending = s.pending := by
  generalize h : eventAlert s sender a = u
  unfold eventAlert at h
  (repeat' split at h) <;> (subst h; simp)

@[simp] theorem endEvent_frame (s : State) (serial : ℕ) :
    (endEvent s serial).phase = s.phase ∧ (endEvent s serial).profile = s.profile ∧
      (endEvent s serial).ownId = s.ownId ∧ (endEvent s serial).listenOnly = s.listenOnly ∧
      (endEvent s serial).listenCause = s.listenCause ∧ (endEvent s serial).clamped = s.clamped ∧
      (endEvent s serial).mem = s.mem ∧ (endEvent s serial).tb = s.tb ∧ (endEvent s serial).peers = s.peers ∧
      (endEvent s serial).sampler = s.sampler ∧ (endEvent s serial).det = s.det ∧
      (endEvent s serial).picks = s.picks ∧ (endEvent s serial).rm = s.rm ∧ (endEvent s serial).bat = s.bat ∧
      (endEvent s serial).heat = s.heat ∧ (endEvent s serial).line = s.line ∧ (endEvent s serial).query = s.query ∧
      (endEvent s serial).freeCount = s.freeCount ∧ (endEvent s serial).pending = s.pending := by
  unfold endEvent
  simp

@[simp] theorem endSweep_frame (s : State) :
    (endSweep s).phase = s.phase ∧ (endSweep s).profile = s.profile ∧ (endSweep s).ownId = s.ownId ∧
      (endSweep s).listenOnly = s.listenOnly ∧ (endSweep s).listenCause = s.listenCause ∧
      (endSweep s).clamped = s.clamped ∧ (endSweep s).mem = s.mem ∧ (endSweep s).tb = s.tb ∧
      (endSweep s).peers = s.peers ∧ (endSweep s).sampler = s.sampler ∧ (endSweep s).det = s.det ∧
      (endSweep s).picks = s.picks ∧ (endSweep s).rm = s.rm ∧ (endSweep s).bat = s.bat ∧ (endSweep s).heat = s.heat ∧
      (endSweep s).line = s.line ∧ (endSweep s).query = s.query ∧ (endSweep s).freeCount = s.freeCount ∧
      (endSweep s).pending = s.pending := by
  unfold endSweep
  generalize List.filter _ _ = es
  induction es generalizing s with
  | nil => simp
  | cons e rest ih =>
    rw [List.foldl_cons]
    have h := ih (endEvent s e.serial)
    simpa using h

@[simp] theorem sendRepeat_frame (s : State) (serial : ℕ) :
    (sendRepeat s serial).phase = s.phase ∧ (sendRepeat s serial).profile = s.profile ∧
      (sendRepeat s serial).ownId = s.ownId ∧ (sendRepeat s serial).listenOnly = s.listenOnly ∧
      (sendRepeat s serial).listenCause = s.listenCause ∧ (sendRepeat s serial).clamped = s.clamped ∧
      (sendRepeat s serial).mem = s.mem ∧ (sendRepeat s serial).tb = s.tb ∧ (sendRepeat s serial).peers = s.peers ∧
      (sendRepeat s serial).sampler = s.sampler ∧ (sendRepeat s serial).det = s.det ∧
      (sendRepeat s serial).picks = s.picks ∧ (sendRepeat s serial).rm = s.rm ∧ (sendRepeat s serial).bat = s.bat ∧
      (sendRepeat s serial).heat = s.heat ∧ (sendRepeat s serial).query = s.query ∧
      (sendRepeat s serial).freeCount = s.freeCount ∧ (sendRepeat s serial).pending = s.pending := by
  unfold sendRepeat
  simp

@[simp] theorem repeatSweep_frame (s : State) :
    (repeatSweep s).phase = s.phase ∧ (repeatSweep s).profile = s.profile ∧ (repeatSweep s).ownId = s.ownId ∧
      (repeatSweep s).listenOnly = s.listenOnly ∧ (repeatSweep s).listenCause = s.listenCause ∧
      (repeatSweep s).clamped = s.clamped ∧ (repeatSweep s).mem = s.mem ∧ (repeatSweep s).tb = s.tb ∧
      (repeatSweep s).peers = s.peers ∧ (repeatSweep s).sampler = s.sampler ∧ (repeatSweep s).det = s.det ∧
      (repeatSweep s).picks = s.picks ∧ (repeatSweep s).rm = s.rm ∧ (repeatSweep s).bat = s.bat ∧
      (repeatSweep s).heat = s.heat ∧ (repeatSweep s).query = s.query ∧ (repeatSweep s).freeCount = s.freeCount ∧
      (repeatSweep s).pending = s.pending := by
  unfold repeatSweep
  generalize List.filter _ _ = es
  induction es generalizing s with
  | nil => simp
  | cons e rest ih =>
    rw [List.foldl_cons]
    have h := ih (sendRepeat s e.serial)
    simpa using h

@[simp] theorem uplinkNext_frame (s : State) :
    (uplinkNext s).phase = s.phase ∧ (uplinkNext s).profile = s.profile ∧ (uplinkNext s).ownId = s.ownId ∧
      (uplinkNext s).listenOnly = s.listenOnly ∧ (uplinkNext s).listenCause = s.listenCause ∧
      (uplinkNext s).clamped = s.clamped ∧ (uplinkNext s).mem = s.mem ∧ (uplinkNext s).tb = s.tb ∧
      (uplinkNext s).peers = s.peers ∧ (uplinkNext s).sampler = s.sampler ∧ (uplinkNext s).det = s.det ∧
      (uplinkNext s).picks = s.picks ∧ (uplinkNext s).rm = s.rm ∧ (uplinkNext s).bat = s.bat ∧
      (uplinkNext s).heat = s.heat ∧ (uplinkNext s).line = s.line ∧ (uplinkNext s).query = s.query ∧
      (uplinkNext s).freeCount = s.freeCount ∧ (uplinkNext s).pending = s.pending := by
  generalize h : uplinkNext s = u
  unfold uplinkNext at h
  (repeat' split at h) <;> (subst h; simp)

@[simp] theorem ageSweep_frame (s : State) :
    (ageSweep s).phase = s.phase ∧ (ageSweep s).profile = s.profile ∧ (ageSweep s).ownId = s.ownId ∧
      (ageSweep s).listenOnly = s.listenOnly ∧ (ageSweep s).listenCause = s.listenCause ∧
      (ageSweep s).clamped = s.clamped ∧ (ageSweep s).mem = s.mem ∧ (ageSweep s).tb = s.tb ∧
      (ageSweep s).peers = s.peers ∧ (ageSweep s).sampler = s.sampler ∧ (ageSweep s).det = s.det ∧
      (ageSweep s).events = s.events ∧ (ageSweep s).rm = s.rm ∧ (ageSweep s).bat = s.bat ∧
      (ageSweep s).heat = s.heat ∧ (ageSweep s).line = s.line ∧ (ageSweep s).query = s.query ∧
      (ageSweep s).freeCount = s.freeCount ∧ (ageSweep s).pending = s.pending := by
  unfold ageSweep
  simp

@[simp] theorem assignPicks_frame (s : State) (key : Key) (p : PickEntry → Bool) :
    (assignPicks s key p).phase = s.phase ∧ (assignPicks s key p).profile = s.profile ∧
      (assignPicks s key p).ownId = s.ownId ∧ (assignPicks s key p).listenOnly = s.listenOnly ∧
      (assignPicks s key p).listenCause = s.listenCause ∧ (assignPicks s key p).clamped = s.clamped ∧
      (assignPicks s key p).mem = s.mem ∧ (assignPicks s key p).tb = s.tb ∧ (assignPicks s key p).peers = s.peers ∧
      (assignPicks s key p).sampler = s.sampler ∧ (assignPicks s key p).det = s.det ∧
      (assignPicks s key p).events = s.events ∧ (assignPicks s key p).rm = s.rm ∧ (assignPicks s key p).bat = s.bat ∧
      (assignPicks s key p).heat = s.heat ∧ (assignPicks s key p).line = s.line ∧
      (assignPicks s key p).query = s.query ∧ (assignPicks s key p).freeCount = s.freeCount ∧
      (assignPicks s key p).pending = s.pending := by
  unfold assignPicks
  simp

@[simp] theorem declareSearch_frame (s : State) :
    (declareSearch s).phase = s.phase ∧ (declareSearch s).profile = s.profile ∧ (declareSearch s).ownId = s.ownId ∧
      (declareSearch s).listenOnly = s.listenOnly ∧ (declareSearch s).listenCause = s.listenCause ∧
      (declareSearch s).clamped = s.clamped ∧ (declareSearch s).mem = s.mem ∧ (declareSearch s).tb = s.tb ∧
      (declareSearch s).peers = s.peers ∧ (declareSearch s).sampler = s.sampler ∧ (declareSearch s).det = s.det ∧
      (declareSearch s).bat = s.bat ∧ (declareSearch s).heat = s.heat ∧ (declareSearch s).query = s.query ∧
      (declareSearch s).freeCount = s.freeCount ∧ (declareSearch s).pending = s.pending := by
  generalize h : declareSearch s = u
  unfold declareSearch at h
  dsimp only at h
  (repeat' split at h) <;> (subst h; simp)

@[simp] theorem evaluatePick_frame (s : State) (n : PickEntry) :
    (evaluatePick s n).phase = s.phase ∧ (evaluatePick s n).profile = s.profile ∧ (evaluatePick s n).ownId = s.ownId ∧
      (evaluatePick s n).listenOnly = s.listenOnly ∧ (evaluatePick s n).listenCause = s.listenCause ∧
      (evaluatePick s n).clamped = s.clamped ∧ (evaluatePick s n).mem = s.mem ∧ (evaluatePick s n).tb = s.tb ∧
      (evaluatePick s n).peers = s.peers ∧ (evaluatePick s n).sampler = s.sampler ∧ (evaluatePick s n).det = s.det ∧
      (evaluatePick s n).bat = s.bat ∧ (evaluatePick s n).heat = s.heat ∧ (evaluatePick s n).query = s.query ∧
      (evaluatePick s n).freeCount = s.freeCount ∧ (evaluatePick s n).pending = s.pending := by
  generalize h : evaluatePick s n = u
  unfold evaluatePick at h
  (repeat' split at h) <;> (subst h; simp)

@[simp] theorem offerPick_frame (s : State) (n : PickEntry) :
    (offerPick s n).phase = s.phase ∧ (offerPick s n).profile = s.profile ∧ (offerPick s n).ownId = s.ownId ∧
      (offerPick s n).listenOnly = s.listenOnly ∧ (offerPick s n).listenCause = s.listenCause ∧
      (offerPick s n).clamped = s.clamped ∧ (offerPick s n).mem = s.mem ∧ (offerPick s n).tb = s.tb ∧
      (offerPick s n).peers = s.peers ∧ (offerPick s n).sampler = s.sampler ∧ (offerPick s n).det = s.det ∧
      (offerPick s n).bat = s.bat ∧ (offerPick s n).heat = s.heat ∧ (offerPick s n).query = s.query ∧
      (offerPick s n).freeCount = s.freeCount ∧ (offerPick s n).pending = s.pending := by
  generalize h : offerPick s n = u
  unfold offerPick at h
  dsimp only at h
  (repeat' split at h) <;> (subst h; simp)

@[simp] theorem pickLocal_frame (s : State) (k : StationPick) :
    (pickLocal s k).phase = s.phase ∧ (pickLocal s k).profile = s.profile ∧ (pickLocal s k).ownId = s.ownId ∧
      (pickLocal s k).listenOnly = s.listenOnly ∧ (pickLocal s k).listenCause = s.listenCause ∧
      (pickLocal s k).clamped = s.clamped ∧ (pickLocal s k).mem = s.mem ∧ (pickLocal s k).tb = s.tb ∧
      (pickLocal s k).peers = s.peers ∧ (pickLocal s k).sampler = s.sampler ∧ (pickLocal s k).det = s.det ∧
      (pickLocal s k).bat = s.bat ∧ (pickLocal s k).heat = s.heat ∧ (pickLocal s k).query = s.query ∧
      (pickLocal s k).freeCount = s.freeCount ∧ (pickLocal s k).pending = s.pending := by
  unfold pickLocal
  simp

@[simp] theorem pickRemote_frame (s : State) (sender : ℕ) (p : PickPayload) :
    (pickRemote s sender p).phase = s.phase ∧ (pickRemote s sender p).profile = s.profile ∧
      (pickRemote s sender p).ownId = s.ownId ∧ (pickRemote s sender p).listenOnly = s.listenOnly ∧
      (pickRemote s sender p).listenCause = s.listenCause ∧ (pickRemote s sender p).clamped = s.clamped ∧
      (pickRemote s sender p).mem = s.mem ∧ (pickRemote s sender p).tb = s.tb ∧
      (pickRemote s sender p).peers = s.peers ∧ (pickRemote s sender p).sampler = s.sampler ∧
      (pickRemote s sender p).det = s.det ∧ (pickRemote s sender p).bat = s.bat ∧
      (pickRemote s sender p).heat = s.heat ∧ (pickRemote s sender p).query = s.query ∧
      (pickRemote s sender p).freeCount = s.freeCount ∧ (pickRemote s sender p).pending = s.pending := by
  generalize h : pickRemote s sender p = u
  unfold pickRemote at h
  (repeat' split at h) <;> (subst h; simp)

@[simp] theorem spendPick_frame (s : State) (k : StationPick) :
    (spendPick s k).phase = s.phase ∧ (spendPick s k).profile = s.profile ∧ (spendPick s k).ownId = s.ownId ∧
      (spendPick s k).listenOnly = s.listenOnly ∧ (spendPick s k).listenCause = s.listenCause ∧
      (spendPick s k).clamped = s.clamped ∧ (spendPick s k).mem = s.mem ∧ (spendPick s k).tb = s.tb ∧
      (spendPick s k).peers = s.peers ∧ (spendPick s k).sampler = s.sampler ∧ (spendPick s k).picks = s.picks ∧
      (spendPick s k).events = s.events ∧ (spendPick s k).rm = s.rm ∧ (spendPick s k).bat = s.bat ∧
      (spendPick s k).heat = s.heat ∧ (spendPick s k).line = s.line ∧ (spendPick s k).query = s.query ∧
      (spendPick s k).freeCount = s.freeCount ∧ (spendPick s k).pending = s.pending := by
  unfold spendPick
  simp

@[simp] theorem handPick_frame (s : State) (k : StationPick) :
    (handPick s k).phase = s.phase ∧ (handPick s k).profile = s.profile ∧ (handPick s k).ownId = s.ownId ∧
      (handPick s k).listenOnly = s.listenOnly ∧ (handPick s k).listenCause = s.listenCause ∧
      (handPick s k).clamped = s.clamped ∧ (handPick s k).mem = s.mem ∧ (handPick s k).tb = s.tb ∧
      (handPick s k).peers = s.peers ∧ (handPick s k).sampler = s.sampler ∧ (handPick s k).det = s.det ∧
      (handPick s k).bat = s.bat ∧ (handPick s k).heat = s.heat ∧ (handPick s k).query = s.query ∧
      (handPick s k).freeCount = s.freeCount ∧ (handPick s k).pending = s.pending := by
  unfold handPick
  simp

@[simp] theorem voteMet_frame (s : State) (guard : Bool) :
    (voteMet s guard).phase = s.phase ∧ (voteMet s guard).profile = s.profile ∧ (voteMet s guard).ownId = s.ownId ∧
      (voteMet s guard).listenOnly = s.listenOnly ∧ (voteMet s guard).listenCause = s.listenCause ∧
      (voteMet s guard).clamped = s.clamped ∧ (voteMet s guard).mem = s.mem ∧ (voteMet s guard).tb = s.tb ∧
      (voteMet s guard).peers = s.peers ∧ (voteMet s guard).sampler = s.sampler ∧ (voteMet s guard).bat = s.bat ∧
      (voteMet s guard).heat = s.heat ∧ (voteMet s guard).query = s.query ∧
      (voteMet s guard).freeCount = s.freeCount ∧ (voteMet s guard).pending = s.pending := by
  generalize h : voteMet s guard = u
  unfold voteMet at h
  (repeat' split at h) <;> (subst h; simp)

@[simp] theorem stepChannels_frame (s : State) (x : SampleSet) :
    (stepChannels s x).phase = s.phase ∧ (stepChannels s x).profile = s.profile ∧ (stepChannels s x).ownId = s.ownId ∧
      (stepChannels s x).listenOnly = s.listenOnly ∧ (stepChannels s x).listenCause = s.listenCause ∧
      (stepChannels s x).clamped = s.clamped ∧ (stepChannels s x).mem = s.mem ∧ (stepChannels s x).tb = s.tb ∧
      (stepChannels s x).peers = s.peers ∧ (stepChannels s x).sampler = s.sampler ∧
      (stepChannels s x).picks = s.picks ∧ (stepChannels s x).events = s.events ∧ (stepChannels s x).rm = s.rm ∧
      (stepChannels s x).bat = s.bat ∧ (stepChannels s x).heat = s.heat ∧ (stepChannels s x).line = s.line ∧
      (stepChannels s x).query = s.query ∧ (stepChannels s x).freeCount = s.freeCount ∧
      (stepChannels s x).pending = s.pending := by
  unfold stepChannels
  simp

@[simp] theorem formTrigger_frame (s : State) (x : SampleSet) :
    (formTrigger s x).phase = s.phase ∧ (formTrigger s x).profile = s.profile ∧ (formTrigger s x).ownId = s.ownId ∧
      (formTrigger s x).listenOnly = s.listenOnly ∧ (formTrigger s x).listenCause = s.listenCause ∧
      (formTrigger s x).clamped = s.clamped ∧ (formTrigger s x).mem = s.mem ∧ (formTrigger s x).tb = s.tb ∧
      (formTrigger s x).peers = s.peers ∧ (formTrigger s x).sampler = s.sampler ∧ (formTrigger s x).picks = s.picks ∧
      (formTrigger s x).events = s.events ∧ (formTrigger s x).rm = s.rm ∧ (formTrigger s x).bat = s.bat ∧
      (formTrigger s x).heat = s.heat ∧ (formTrigger s x).line = s.line ∧ (formTrigger s x).query = s.query ∧
      (formTrigger s x).freeCount = s.freeCount ∧ (formTrigger s x).pending = s.pending := by
  unfold formTrigger
  simp

@[simp] theorem detectSet_frame (s : State) (x : SampleSet) :
    (detectSet s x).phase = s.phase ∧ (detectSet s x).profile = s.profile ∧ (detectSet s x).ownId = s.ownId ∧
      (detectSet s x).listenOnly = s.listenOnly ∧ (detectSet s x).listenCause = s.listenCause ∧
      (detectSet s x).clamped = s.clamped ∧ (detectSet s x).mem = s.mem ∧ (detectSet s x).tb = s.tb ∧
      (detectSet s x).peers = s.peers ∧ (detectSet s x).sampler = s.sampler ∧ (detectSet s x).bat = s.bat ∧
      (detectSet s x).heat = s.heat ∧ (detectSet s x).query = s.query ∧ (detectSet s x).freeCount = s.freeCount ∧
      (detectSet s x).pending = s.pending := by
  generalize h : detectSet s x = u
  unfold detectSet at h
  dsimp only at h
  (repeat' split at h) <;> (subst h; simp)

@[simp] theorem issueTick_frame (s : State) (n : ArrayTime) :
    (issueTick s n).phase = s.phase ∧ (issueTick s n).profile = s.profile ∧ (issueTick s n).ownId = s.ownId ∧
      (issueTick s n).listenOnly = s.listenOnly ∧ (issueTick s n).listenCause = s.listenCause ∧
      (issueTick s n).clamped = s.clamped ∧ (issueTick s n).mem = s.mem ∧ (issueTick s n).peers = s.peers ∧
      (issueTick s n).sampler = s.sampler ∧ (issueTick s n).det = s.det ∧ (issueTick s n).picks = s.picks ∧
      (issueTick s n).events = s.events ∧ (issueTick s n).rm = s.rm ∧ (issueTick s n).bat = s.bat ∧
      (issueTick s n).heat = s.heat ∧ (issueTick s n).line = s.line ∧ (issueTick s n).query = s.query ∧
      (issueTick s n).freeCount = s.freeCount ∧ (issueTick s n).pending = s.pending := by
  unfold issueTick
  simp

@[simp] theorem tickSweeps_frame (s : State) :
    (tickSweeps s).phase = s.phase ∧ (tickSweeps s).profile = s.profile ∧ (tickSweeps s).ownId = s.ownId ∧
      (tickSweeps s).listenOnly = s.listenOnly ∧ (tickSweeps s).listenCause = s.listenCause ∧
      (tickSweeps s).clamped = s.clamped ∧ (tickSweeps s).mem = s.mem ∧ (tickSweeps s).sampler = s.sampler ∧
      (tickSweeps s).det = s.det ∧ (tickSweeps s).heat = s.heat ∧ (tickSweeps s).query = s.query ∧
      (tickSweeps s).freeCount = s.freeCount ∧ (tickSweeps s).pending = s.pending := by
  unfold tickSweeps
  simp

@[simp] theorem channelPower_frame (s : State) :
    (channelPower s).phase = s.phase ∧ (channelPower s).profile = s.profile ∧ (channelPower s).ownId = s.ownId ∧
      (channelPower s).listenOnly = s.listenOnly ∧ (channelPower s).listenCause = s.listenCause ∧
      (channelPower s).clamped = s.clamped ∧ (channelPower s).mem = s.mem ∧ (channelPower s).tb = s.tb ∧
      (channelPower s).peers = s.peers ∧ (channelPower s).det = s.det ∧ (channelPower s).picks = s.picks ∧
      (channelPower s).events = s.events ∧ (channelPower s).rm = s.rm ∧ (channelPower s).bat = s.bat ∧
      (channelPower s).heat = s.heat ∧ (channelPower s).line = s.line ∧ (channelPower s).query = s.query ∧
      (channelPower s).freeCount = s.freeCount ∧ (channelPower s).pending = s.pending := by
  unfold channelPower
  simp

@[simp] theorem ringEnter_frame (s : State) (x : SampleSet) :
    (ringEnter s x).phase = s.phase ∧ (ringEnter s x).profile = s.profile ∧ (ringEnter s x).ownId = s.ownId ∧
      (ringEnter s x).listenOnly = s.listenOnly ∧ (ringEnter s x).listenCause = s.listenCause ∧
      (ringEnter s x).clamped = s.clamped ∧ (ringEnter s x).mem = s.mem ∧ (ringEnter s x).tb = s.tb ∧
      (ringEnter s x).peers = s.peers ∧ (ringEnter s x).det = s.det ∧ (ringEnter s x).picks = s.picks ∧
      (ringEnter s x).events = s.events ∧ (ringEnter s x).bat = s.bat ∧ (ringEnter s x).heat = s.heat ∧
      (ringEnter s x).line = s.line ∧ (ringEnter s x).query = s.query ∧ (ringEnter s x).freeCount = s.freeCount ∧
      (ringEnter s x).pending = s.pending := by
  generalize h : ringEnter s x = u
  unfold ringEnter at h
  (repeat' split at h) <;> (subst h; simp)

@[simp] theorem seismicWork_frame (s : State) (inp : TickInput) (n : ArrayTime) :
    (seismicWork s inp n).phase = s.phase ∧ (seismicWork s inp n).profile = s.profile ∧
      (seismicWork s inp n).ownId = s.ownId ∧ (seismicWork s inp n).listenOnly = s.listenOnly ∧
      (seismicWork s inp n).listenCause = s.listenCause ∧ (seismicWork s inp n).clamped = s.clamped ∧
      (seismicWork s inp n).mem = s.mem ∧ (seismicWork s inp n).tb = s.tb ∧ (seismicWork s inp n).peers = s.peers ∧
      (seismicWork s inp n).heat = s.heat ∧ (seismicWork s inp n).query = s.query ∧
      (seismicWork s inp n).freeCount = s.freeCount ∧ (seismicWork s inp n).pending = s.pending := by
  unfold seismicWork
  simp

@[simp] theorem enclosureWork_frame (s : State) (r : Option ℤ) :
    (enclosureWork s r).phase = s.phase ∧ (enclosureWork s r).profile = s.profile ∧
      (enclosureWork s r).ownId = s.ownId ∧ (enclosureWork s r).listenOnly = s.listenOnly ∧
      (enclosureWork s r).listenCause = s.listenCause ∧ (enclosureWork s r).clamped = s.clamped ∧
      (enclosureWork s r).mem = s.mem ∧ (enclosureWork s r).peers = s.peers ∧
      (enclosureWork s r).sampler = s.sampler ∧ (enclosureWork s r).det = s.det ∧
      (enclosureWork s r).picks = s.picks ∧ (enclosureWork s r).events = s.events ∧ (enclosureWork s r).rm = s.rm ∧
      (enclosureWork s r).bat = s.bat ∧ (enclosureWork s r).heat = s.heat ∧ (enclosureWork s r).line = s.line ∧
      (enclosureWork s r).query = s.query ∧ (enclosureWork s r).freeCount = s.freeCount ∧
      (enclosureWork s r).pending = s.pending := by
  generalize h : enclosureWork s r = u
  unfold enclosureWork at h
  (repeat' split at h) <;> (subst h; simp)

@[simp] theorem hkReaders_frame (s : State) (i : HkInput) (n : ArrayTime) (r : Option ℤ) :
    (hkReaders s i n r).phase = s.phase ∧ (hkReaders s i n r).profile = s.profile ∧
      (hkReaders s i n r).ownId = s.ownId ∧ (hkReaders s i n r).listenOnly = s.listenOnly ∧
      (hkReaders s i n r).listenCause = s.listenCause ∧ (hkReaders s i n r).clamped = s.clamped ∧
      (hkReaders s i n r).mem = s.mem ∧ (hkReaders s i n r).peers = s.peers ∧
      (hkReaders s i n r).sampler = s.sampler ∧ (hkReaders s i n r).picks = s.picks ∧
      (hkReaders s i n r).events = s.events ∧ (hkReaders s i n r).line = s.line ∧
      (hkReaders s i n r).query = s.query ∧ (hkReaders s i n r).freeCount = s.freeCount ∧
      (hkReaders s i n r).pending = s.pending := by
  generalize h : hkReaders s i n r = u
  unfold hkReaders at h
  (repeat' split at h) <;> (subst h; simp)

@[simp] theorem samplerWork_frame (s : State) (inp : TickInput) (n : ArrayTime) :
    (samplerWork s inp n).phase = s.phase ∧ (samplerWork s inp n).profile = s.profile ∧
      (samplerWork s inp n).ownId = s.ownId ∧ (samplerWork s inp n).listenOnly = s.listenOnly ∧
      (samplerWork s inp n).listenCause = s.listenCause ∧ (samplerWork s inp n).clamped = s.clamped ∧
      (samplerWork s inp n).mem = s.mem ∧ (samplerWork s inp n).peers = s.peers ∧
      (samplerWork s inp n).query = s.query ∧ (samplerWork s inp n).freeCount = s.freeCount ∧
      (samplerWork s inp n).pending = s.pending := by
  generalize h : samplerWork s inp n = u
  unfold samplerWork at h
  dsimp only at h
  (repeat' split at h) <;> (subst h; simp)

@[simp] theorem tickWork_frame (s : State) (inp : TickInput) (n : ArrayTime) :
    (tickWork s inp n).phase = s.phase ∧ (tickWork s inp n).profile = s.profile ∧ (tickWork s inp n).ownId = s.ownId ∧
      (tickWork s inp n).listenOnly = s.listenOnly ∧ (tickWork s inp n).listenCause = s.listenCause ∧
      (tickWork s inp n).clamped = s.clamped ∧ (tickWork s inp n).mem = s.mem ∧ (tickWork s inp n).query = s.query ∧
      (tickWork s inp n).freeCount = s.freeCount ∧ (tickWork s inp n).pending = s.pending := by
  unfold tickWork
  simp

end Sys2Proof.Machine
end

