-- ==== Sys2Proof/Laws/FramesLine.lean ====
section
/-! SUPPORT. The frames of the operations of the array line, of the queries and of the start. -/

namespace Sys2Proof.Machine

@[simp] theorem renewValid_frame (s : State) :
    (renewValid s).phase = s.phase ∧ (renewValid s).profile = s.profile ∧ (renewValid s).ownId = s.ownId ∧
      (renewValid s).listenOnly = s.listenOnly ∧ (renewValid s).listenCause = s.listenCause ∧
      (renewValid s).clamped = s.clamped ∧ (renewValid s).mem = s.mem ∧ (renewValid s).tb = s.tb ∧
      (renewValid s).peers = s.peers ∧ (renewValid s).sampler = s.sampler ∧ (renewValid s).det = s.det ∧
      (renewValid s).picks = s.picks ∧ (renewValid s).events = s.events ∧ (renewValid s).rm = s.rm ∧
      (renewValid s).bat = s.bat ∧ (renewValid s).heat = s.heat ∧ (renewValid s).query = s.query ∧
      (renewValid s).freeCount = s.freeCount ∧ (renewValid s).pending = s.pending := by
  unfold renewValid
  simp

@[simp] theorem ownFrame_frame (s : State) :
    (ownFrame s).phase = s.phase ∧ (ownFrame s).profile = s.profile ∧ (ownFrame s).ownId = s.ownId ∧
      (ownFrame s).listenOnly = s.listenOnly ∧ (ownFrame s).listenCause = s.listenCause ∧
      (ownFrame s).clamped = s.clamped ∧ (ownFrame s).mem = s.mem ∧ (ownFrame s).tb = s.tb ∧
      (ownFrame s).sampler = s.sampler ∧ (ownFrame s).det = s.det ∧ (ownFrame s).picks = s.picks ∧
      (ownFrame s).events = s.events ∧ (ownFrame s).rm = s.rm ∧ (ownFrame s).bat = s.bat ∧
      (ownFrame s).heat = s.heat ∧ (ownFrame s).line = s.line ∧ (ownFrame s).query = s.query ∧
      (ownFrame s).freeCount = s.freeCount ∧ (ownFrame s).pending = s.pending := by
  unfold ownFrame
  simp

@[simp] theorem screenFrame_frame (s : State) (kind : ℕ) (sender : ℕ) :
    (screenFrame s kind sender).phase = s.phase ∧ (screenFrame s kind sender).profile = s.profile ∧
      (screenFrame s kind sender).ownId = s.ownId ∧ (screenFrame s kind sender).listenOnly = s.listenOnly ∧
      (screenFrame s kind sender).listenCause = s.listenCause ∧ (screenFrame s kind sender).clamped = s.clamped ∧
      (screenFrame s kind sender).mem = s.mem ∧ (screenFrame s kind sender).tb = s.tb ∧
      (screenFrame s kind sender).sampler = s.sampler ∧ (screenFrame s kind sender).det = s.det ∧
      (screenFrame s kind sender).picks = s.picks ∧ (screenFrame s kind sender).events = s.events ∧
      (screenFrame s kind sender).rm = s.rm ∧ (screenFrame s kind sender).bat = s.bat ∧
      (screenFrame s kind sender).heat = s.heat ∧ (screenFrame s kind sender).query = s.query ∧
      (screenFrame s kind sender).freeCount = s.freeCount ∧ (screenFrame s kind sender).pending = s.pending := by
  generalize h : screenFrame s kind sender = u
  unfold screenFrame at h
  (repeat' split at h) <;> (subst h; simp)

@[simp] theorem drawBackoff_frame (s : State) (q : QFrame) :
    (drawBackoff s q).phase = s.phase ∧ (drawBackoff s q).profile = s.profile ∧ (drawBackoff s q).ownId = s.ownId ∧
      (drawBackoff s q).listenOnly = s.listenOnly ∧ (drawBackoff s q).listenCause = s.listenCause ∧
      (drawBackoff s q).clamped = s.clamped ∧ (drawBackoff s q).mem = s.mem ∧ (drawBackoff s q).tb = s.tb ∧
      (drawBackoff s q).peers = s.peers ∧ (drawBackoff s q).sampler = s.sampler ∧ (drawBackoff s q).det = s.det ∧
      (drawBackoff s q).picks = s.picks ∧ (drawBackoff s q).events = s.events ∧ (drawBackoff s q).rm = s.rm ∧
      (drawBackoff s q).bat = s.bat ∧ (drawBackoff s q).heat = s.heat ∧ (drawBackoff s q).query = s.query ∧
      (drawBackoff s q).pending = s.pending := by
  unfold drawBackoff
  simp

@[simp] theorem beginSending_frame (s : State) (q : QFrame) :
    (beginSending s q).phase = s.phase ∧ (beginSending s q).profile = s.profile ∧ (beginSending s q).ownId = s.ownId ∧
      (beginSending s q).listenOnly = s.listenOnly ∧ (beginSending s q).listenCause = s.listenCause ∧
      (beginSending s q).clamped = s.clamped ∧ (beginSending s q).mem = s.mem ∧ (beginSending s q).tb = s.tb ∧
      (beginSending s q).peers = s.peers ∧ (beginSending s q).sampler = s.sampler ∧ (beginSending s q).det = s.det ∧
      (beginSending s q).picks = s.picks ∧ (beginSending s q).events = s.events ∧ (beginSending s q).rm = s.rm ∧
      (beginSending s q).bat = s.bat ∧ (beginSending s q).heat = s.heat ∧ (beginSending s q).query = s.query ∧
      (beginSending s q).freeCount = s.freeCount ∧ (beginSending s q).pending = s.pending := by
  unfold beginSending
  simp

@[simp] theorem reportFrame_frame (s : State) (q : QFrame) (failed : Bool) :
    (reportFrame s q failed).phase = s.phase ∧ (reportFrame s q failed).profile = s.profile ∧
      (reportFrame s q failed).ownId = s.ownId ∧ (reportFrame s q failed).listenOnly = s.listenOnly ∧
      (reportFrame s q failed).listenCause = s.listenCause ∧ (reportFrame s q failed).clamped = s.clamped ∧
      (reportFrame s q failed).mem = s.mem ∧ (reportFrame s q failed).tb = s.tb ∧
      (reportFrame s q failed).peers = s.peers ∧ (reportFrame s q failed).sampler = s.sampler ∧
      (reportFrame s q failed).det = s.det ∧ (reportFrame s q failed).picks = s.picks ∧
      (reportFrame s q failed).rm = s.rm ∧ (reportFrame s q failed).bat = s.bat ∧
      (reportFrame s q failed).heat = s.heat ∧ (reportFrame s q failed).line = s.line ∧
      (reportFrame s q failed).query = s.query ∧ (reportFrame s q failed).freeCount = s.freeCount ∧
      (reportFrame s q failed).pending = s.pending := by
  generalize h : reportFrame s q failed = u
  unfold reportFrame at h
  (repeat' split at h) <;> (subst h; simp)

@[simp] theorem frameDone_frame (s : State) (q : QFrame) :
    (frameDone s q).phase = s.phase ∧ (frameDone s q).profile = s.profile ∧ (frameDone s q).ownId = s.ownId ∧
      (frameDone s q).listenOnly = s.listenOnly ∧ (frameDone s q).listenCause = s.listenCause ∧
      (frameDone s q).clamped = s.clamped ∧ (frameDone s q).mem = s.mem ∧ (frameDone s q).tb = s.tb ∧
      (frameDone s q).peers = s.peers ∧ (frameDone s q).sampler = s.sampler ∧ (frameDone s q).det = s.det ∧
      (frameDone s q).picks = s.picks ∧ (frameDone s q).rm = s.rm ∧ (frameDone s q).bat = s.bat ∧
      (frameDone s q).heat = s.heat ∧ (frameDone s q).query = s.query ∧ (frameDone s q).freeCount = s.freeCount ∧
      (frameDone s q).pending = s.pending := by
  unfold frameDone
  simp

@[simp] theorem frameDropped_frame (s : State) (q : QFrame) :
    (frameDropped s q).phase = s.phase ∧ (frameDropped s q).profile = s.profile ∧ (frameDropped s q).ownId = s.ownId ∧
      (frameDropped s q).listenOnly = s.listenOnly ∧ (frameDropped s q).listenCause = s.listenCause ∧
      (frameDropped s q).clamped = s.clamped ∧ (frameDropped s q).mem = s.mem ∧ (frameDropped s q).tb = s.tb ∧
      (frameDropped s q).peers = s.peers ∧ (frameDropped s q).sampler = s.sampler ∧ (frameDropped s q).det = s.det ∧
      (frameDropped s q).picks = s.picks ∧ (frameDropped s q).rm = s.rm ∧ (frameDropped s q).bat = s.bat ∧
      (frameDropped s q).heat = s.heat ∧ (frameDropped s q).query = s.query ∧
      (frameDropped s q).freeCount = s.freeCount ∧ (frameDropped s q).pending = s.pending := by
  unfold frameDropped
  simp

@[simp] theorem frameFailed_frame (s : State) (q : QFrame) :
    (frameFailed s q).phase = s.phase ∧ (frameFailed s q).profile = s.profile ∧ (frameFailed s q).ownId = s.ownId ∧
      (frameFailed s q).listenOnly = s.listenOnly ∧ (frameFailed s q).listenCause = s.listenCause ∧
      (frameFailed s q).clamped = s.clamped ∧ (frameFailed s q).mem = s.mem ∧ (frameFailed s q).tb = s.tb ∧
      (frameFailed s q).peers = s.peers ∧ (frameFailed s q).sampler = s.sampler ∧ (frameFailed s q).det = s.det ∧
      (frameFailed s q).picks = s.picks ∧ (frameFailed s q).events = s.events ∧ (frameFailed s q).rm = s.rm ∧
      (frameFailed s q).bat = s.bat ∧ (frameFailed s q).heat = s.heat ∧ (frameFailed s q).query = s.query ∧
      (frameFailed s q).freeCount = s.freeCount ∧ (frameFailed s q).pending = s.pending := by
  unfold frameFailed
  simp

@[simp] theorem frameMismatch_frame (s : State) (q : QFrame) :
    (frameMismatch s q).phase = s.phase ∧ (frameMismatch s q).profile = s.profile ∧
      (frameMismatch s q).ownId = s.ownId ∧ (frameMismatch s q).listenOnly = s.listenOnly ∧
      (frameMismatch s q).listenCause = s.listenCause ∧ (frameMismatch s q).clamped = s.clamped ∧
      (frameMismatch s q).mem = s.mem ∧ (frameMismatch s q).tb = s.tb ∧ (frameMismatch s q).peers = s.peers ∧
      (frameMismatch s q).sampler = s.sampler ∧ (frameMismatch s q).det = s.det ∧
      (frameMismatch s q).picks = s.picks ∧ (frameMismatch s q).rm = s.rm ∧ (frameMismatch s q).bat = s.bat ∧
      (frameMismatch s q).heat = s.heat ∧ (frameMismatch s q).query = s.query ∧
      (frameMismatch s q).freeCount = s.freeCount ∧ (frameMismatch s q).pending = s.pending := by
  generalize h : frameMismatch s q = u
  unfold frameMismatch at h
  (repeat' split at h) <;> (subst h; simp)

@[simp] theorem sendAnswer_frame (s : State) (q : QueryHeader) (code : ℕ) (r : QueryResult) (data : List Byte) :
    (sendAnswer s q code r data).phase = s.phase ∧ (sendAnswer s q code r data).profile = s.profile ∧
      (sendAnswer s q code r data).ownId = s.ownId ∧ (sendAnswer s q code r data).listenOnly = s.listenOnly ∧
      (sendAnswer s q code r data).listenCause = s.listenCause ∧ (sendAnswer s q code r data).clamped = s.clamped ∧
      (sendAnswer s q code r data).mem = s.mem ∧ (sendAnswer s q code r data).tb = s.tb ∧
      (sendAnswer s q code r data).peers = s.peers ∧ (sendAnswer s q code r data).sampler = s.sampler ∧
      (sendAnswer s q code r data).det = s.det ∧ (sendAnswer s q code r data).picks = s.picks ∧
      (sendAnswer s q code r data).events = s.events ∧ (sendAnswer s q code r data).rm = s.rm ∧
      (sendAnswer s q code r data).bat = s.bat ∧ (sendAnswer s q code r data).heat = s.heat ∧
      (sendAnswer s q code r data).query = s.query ∧ (sendAnswer s q code r data).freeCount = s.freeCount ∧
      (sendAnswer s q code r data).pending = s.pending := by
  unfold sendAnswer
  simp

@[simp] theorem ignoreQuery_frame (s : State) :
    (ignoreQuery s).phase = s.phase ∧ (ignoreQuery s).profile = s.profile ∧ (ignoreQuery s).ownId = s.ownId ∧
      (ignoreQuery s).listenOnly = s.listenOnly ∧ (ignoreQuery s).listenCause = s.listenCause ∧
      (ignoreQuery s).clamped = s.clamped ∧ (ignoreQuery s).mem = s.mem ∧ (ignoreQuery s).tb = s.tb ∧
      (ignoreQuery s).peers = s.peers ∧ (ignoreQuery s).sampler = s.sampler ∧ (ignoreQuery s).det = s.det ∧
      (ignoreQuery s).picks = s.picks ∧ (ignoreQuery s).events = s.events ∧ (ignoreQuery s).rm = s.rm ∧
      (ignoreQuery s).bat = s.bat ∧ (ignoreQuery s).heat = s.heat ∧ (ignoreQuery s).line = s.line ∧
      (ignoreQuery s).freeCount = s.freeCount ∧ (ignoreQuery s).pending = s.pending := by
  unfold ignoreQuery
  simp

@[simp] theorem countTaken_frame (s : State) :
    (countTaken s).phase = s.phase ∧ (countTaken s).profile = s.profile ∧ (countTaken s).ownId = s.ownId ∧
      (countTaken s).listenOnly = s.listenOnly ∧ (countTaken s).listenCause = s.listenCause ∧
      (countTaken s).clamped = s.clamped ∧ (countTaken s).mem = s.mem ∧ (countTaken s).tb = s.tb ∧
      (countTaken s).peers = s.peers ∧ (countTaken s).sampler = s.sampler ∧ (countTaken s).det = s.det ∧
      (countTaken s).picks = s.picks ∧ (countTaken s).events = s.events ∧ (countTaken s).rm = s.rm ∧
      (countTaken s).bat = s.bat ∧ (countTaken s).heat = s.heat ∧ (countTaken s).line = s.line ∧
      (countTaken s).freeCount = s.freeCount ∧ (countTaken s).pending = s.pending := by
  unfold countTaken
  simp

@[simp] theorem badRequest_frame (s : State) (q : QueryHeader) (code : ℕ) :
    (badRequest s q code).phase = s.phase ∧ (badRequest s q code).profile = s.profile ∧
      (badRequest s q code).ownId = s.ownId ∧ (badRequest s q code).listenOnly = s.listenOnly ∧
      (badRequest s q code).listenCause = s.listenCause ∧ (badRequest s q code).clamped = s.clamped ∧
      (badRequest s q code).mem = s.mem ∧ (badRequest s q code).tb = s.tb ∧ (badRequest s q code).peers = s.peers ∧
      (badRequest s q code).sampler = s.sampler ∧ (badRequest s q code).det = s.det ∧
      (badRequest s q code).picks = s.picks ∧ (badRequest s q code).events = s.events ∧
      (badRequest s q code).rm = s.rm ∧ (badRequest s q code).bat = s.bat ∧ (badRequest s q code).heat = s.heat ∧
      (badRequest s q code).freeCount = s.freeCount ∧ (badRequest s q code).pending = s.pending := by
  generalize h : badRequest s q code = u
  unfold badRequest at h
  (repeat' split at h) <;> (subst h; simp)

@[simp] theorem wipeWork_frame (s : State) :
    (wipeWork s).phase = s.phase ∧ (wipeWork s).profile = s.profile ∧ (wipeWork s).ownId = s.ownId ∧
      (wipeWork s).listenOnly = s.listenOnly ∧ (wipeWork s).listenCause = s.listenCause ∧
      (wipeWork s).clamped = s.clamped ∧ (wipeWork s).mem = s.mem ∧ (wipeWork s).tb = s.tb ∧
      (wipeWork s).peers = s.peers ∧ (wipeWork s).sampler = s.sampler ∧ (wipeWork s).det = s.det ∧
      (wipeWork s).picks = s.picks ∧ (wipeWork s).events = s.events ∧ (wipeWork s).bat = s.bat ∧
      (wipeWork s).heat = s.heat ∧ (wipeWork s).line = s.line ∧ (wipeWork s).query = s.query ∧
      (wipeWork s).freeCount = s.freeCount ∧ (wipeWork s).pending = s.pending := by
  unfold wipeWork
  simp

@[simp] theorem clearLatches_frame (s : State) :
    (clearLatches s).phase = s.phase ∧ (clearLatches s).profile = s.profile ∧ (clearLatches s).ownId = s.ownId ∧
      (clearLatches s).listenOnly = s.listenOnly ∧ (clearLatches s).listenCause = s.listenCause ∧
      (clearLatches s).clamped = s.clamped ∧ (clearLatches s).mem = s.mem ∧ (clearLatches s).tb = s.tb ∧
      (clearLatches s).det = s.det ∧ (clearLatches s).picks = s.picks ∧ (clearLatches s).events = s.events ∧
      (clearLatches s).rm = s.rm ∧ (clearLatches s).line = s.line ∧ (clearLatches s).query = s.query ∧
      (clearLatches s).freeCount = s.freeCount ∧ (clearLatches s).pending = s.pending := by
  unfold clearLatches
  simp

@[simp] theorem clearCounters_frame (s : State) :
    (clearCounters s).phase = s.phase ∧ (clearCounters s).profile = s.profile ∧ (clearCounters s).ownId = s.ownId ∧
      (clearCounters s).listenOnly = s.listenOnly ∧ (clearCounters s).listenCause = s.listenCause ∧
      (clearCounters s).clamped = s.clamped ∧ (clearCounters s).mem = s.mem ∧ (clearCounters s).rm = s.rm ∧
      (clearCounters s).bat = s.bat ∧ (clearCounters s).heat = s.heat ∧ (clearCounters s).line = s.line ∧
      (clearCounters s).query = s.query ∧ (clearCounters s).freeCount = s.freeCount ∧
      (clearCounters s).pending = s.pending := by
  unfold clearCounters
  simp

@[simp] theorem clearMoreCounters_frame (s : State) :
    (clearMoreCounters s).phase = s.phase ∧ (clearMoreCounters s).profile = s.profile ∧
      (clearMoreCounters s).ownId = s.ownId ∧ (clearMoreCounters s).listenOnly = s.listenOnly ∧
      (clearMoreCounters s).listenCause = s.listenCause ∧ (clearMoreCounters s).clamped = s.clamped ∧
      (clearMoreCounters s).mem = s.mem ∧ (clearMoreCounters s).tb = s.tb ∧ (clearMoreCounters s).peers = s.peers ∧
      (clearMoreCounters s).sampler = s.sampler ∧ (clearMoreCounters s).det = s.det ∧
      (clearMoreCounters s).picks = s.picks ∧ (clearMoreCounters s).events = s.events ∧
      (clearMoreCounters s).freeCount = s.freeCount ∧ (clearMoreCounters s).pending = s.pending := by
  unfold clearMoreCounters
  simp

@[simp] theorem latchClearWork_frame (s : State) :
    (latchClearWork s).phase = s.phase ∧ (latchClearWork s).profile = s.profile ∧ (latchClearWork s).ownId = s.ownId ∧
      (latchClearWork s).listenOnly = s.listenOnly ∧ (latchClearWork s).listenCause = s.listenCause ∧
      (latchClearWork s).clamped = s.clamped ∧ (latchClearWork s).mem = s.mem ∧
      (latchClearWork s).freeCount = s.freeCount ∧ (latchClearWork s).pending = s.pending := by
  unfold latchClearWork
  simp

@[simp] theorem moveCapture_frame (s : State) :
    (moveCapture s).phase = s.phase ∧ (moveCapture s).profile = s.profile ∧ (moveCapture s).ownId = s.ownId ∧
      (moveCapture s).listenOnly = s.listenOnly ∧ (moveCapture s).listenCause = s.listenCause ∧
      (moveCapture s).clamped = s.clamped ∧ (moveCapture s).mem = s.mem ∧ (moveCapture s).tb = s.tb ∧
      (moveCapture s).peers = s.peers ∧ (moveCapture s).sampler = s.sampler ∧ (moveCapture s).det = s.det ∧
      (moveCapture s).picks = s.picks ∧ (moveCapture s).events = s.events ∧ (moveCapture s).heat = s.heat ∧
      (moveCapture s).line = s.line ∧ (moveCapture s).query = s.query ∧ (moveCapture s).freeCount = s.freeCount ∧
      (moveCapture s).pending = s.pending := by
  unfold moveCapture
  simp

@[simp] theorem startState_frame (s : State) :
    (startState s).mem = s.mem ∧ (startState s).freeCount = s.freeCount ∧ (startState s).pending = s.pending := by
  unfold startState
  simp

@[simp] theorem stopPart_frame (s : State) (supplyAllows : Bool) :
    (stopPart s supplyAllows).profile = s.profile ∧ (stopPart s supplyAllows).ownId = s.ownId ∧
      (stopPart s supplyAllows).listenOnly = s.listenOnly ∧ (stopPart s supplyAllows).listenCause = s.listenCause ∧
      (stopPart s supplyAllows).clamped = s.clamped ∧ (stopPart s supplyAllows).tb = s.tb ∧
      (stopPart s supplyAllows).peers = s.peers ∧ (stopPart s supplyAllows).sampler = s.sampler ∧
      (stopPart s supplyAllows).det = s.det ∧ (stopPart s supplyAllows).picks = s.picks ∧
      (stopPart s supplyAllows).events = s.events ∧ (stopPart s supplyAllows).heat = s.heat ∧
      (stopPart s supplyAllows).query = s.query ∧ (stopPart s supplyAllows).pending = s.pending := by
  unfold stopPart
  simp

@[simp] theorem enableLine_frame (s : State) :
    (enableLine s).phase = s.phase ∧ (enableLine s).profile = s.profile ∧ (enableLine s).ownId = s.ownId ∧
      (enableLine s).listenOnly = s.listenOnly ∧ (enableLine s).listenCause = s.listenCause ∧
      (enableLine s).clamped = s.clamped ∧ (enableLine s).mem = s.mem ∧ (enableLine s).peers = s.peers ∧
      (enableLine s).sampler = s.sampler ∧ (enableLine s).det = s.det ∧ (enableLine s).picks = s.picks ∧
      (enableLine s).events = s.events ∧ (enableLine s).rm = s.rm ∧ (enableLine s).bat = s.bat ∧
      (enableLine s).heat = s.heat ∧ (enableLine s).query = s.query ∧ (enableLine s).freeCount = s.freeCount ∧
      (enableLine s).pending = s.pending := by
  unfold enableLine
  simp

@[simp] theorem startSampler_frame (s : State) :
    (startSampler s).phase = s.phase ∧ (startSampler s).profile = s.profile ∧ (startSampler s).ownId = s.ownId ∧
      (startSampler s).listenOnly = s.listenOnly ∧ (startSampler s).listenCause = s.listenCause ∧
      (startSampler s).clamped = s.clamped ∧ (startSampler s).mem = s.mem ∧ (startSampler s).peers = s.peers ∧
      (startSampler s).sampler = s.sampler ∧ (startSampler s).picks = s.picks ∧ (startSampler s).events = s.events ∧
      (startSampler s).rm = s.rm ∧ (startSampler s).bat = s.bat ∧ (startSampler s).heat = s.heat ∧
      (startSampler s).line = s.line ∧ (startSampler s).query = s.query ∧ (startSampler s).freeCount = s.freeCount ∧
      (startSampler s).pending = s.pending := by
  unfold startSampler
  simp

@[simp] theorem endFrame_frame (s : State) :
    (endFrame s).phase = s.phase ∧ (endFrame s).profile = s.profile ∧ (endFrame s).ownId = s.ownId ∧
      (endFrame s).listenOnly = s.listenOnly ∧ (endFrame s).listenCause = s.listenCause ∧
      (endFrame s).clamped = s.clamped ∧ (endFrame s).mem = s.mem ∧ (endFrame s).tb = s.tb ∧
      (endFrame s).peers = s.peers ∧ (endFrame s).sampler = s.sampler ∧ (endFrame s).det = s.det ∧
      (endFrame s).picks = s.picks ∧ (endFrame s).events = s.events ∧ (endFrame s).rm = s.rm ∧
      (endFrame s).bat = s.bat ∧ (endFrame s).heat = s.heat ∧ (endFrame s).query = s.query ∧
      (endFrame s).freeCount = s.freeCount ∧ (endFrame s).pending = s.pending := by
  unfold endFrame
  simp

@[simp] theorem discardFrame_frame (s : State) :
    (discardFrame s).phase = s.phase ∧ (discardFrame s).profile = s.profile ∧ (discardFrame s).ownId = s.ownId ∧
      (discardFrame s).listenOnly = s.listenOnly ∧ (discardFrame s).listenCause = s.listenCause ∧
      (discardFrame s).clamped = s.clamped ∧ (discardFrame s).mem = s.mem ∧ (discardFrame s).tb = s.tb ∧
      (discardFrame s).peers = s.peers ∧ (discardFrame s).sampler = s.sampler ∧ (discardFrame s).det = s.det ∧
      (discardFrame s).picks = s.picks ∧ (discardFrame s).events = s.events ∧ (discardFrame s).rm = s.rm ∧
      (discardFrame s).bat = s.bat ∧ (discardFrame s).heat = s.heat ∧ (discardFrame s).query = s.query ∧
      (discardFrame s).freeCount = s.freeCount ∧ (discardFrame s).pending = s.pending := by
  unfold discardFrame
  simp

@[simp] theorem startBit_frame (s : State) (delimiter : Bool) :
    (startBit s delimiter).phase = s.phase ∧ (startBit s delimiter).profile = s.profile ∧
      (startBit s delimiter).ownId = s.ownId ∧ (startBit s delimiter).listenOnly = s.listenOnly ∧
      (startBit s delimiter).listenCause = s.listenCause ∧ (startBit s delimiter).clamped = s.clamped ∧
      (startBit s delimiter).mem = s.mem ∧ (startBit s delimiter).tb = s.tb ∧
      (startBit s delimiter).peers = s.peers ∧ (startBit s delimiter).sampler = s.sampler ∧
      (startBit s delimiter).det = s.det ∧ (startBit s delimiter).picks = s.picks ∧
      (startBit s delimiter).events = s.events ∧ (startBit s delimiter).rm = s.rm ∧
      (startBit s delimiter).bat = s.bat ∧ (startBit s delimiter).heat = s.heat ∧
      (startBit s delimiter).query = s.query ∧ (startBit s delimiter).freeCount = s.freeCount ∧
      (startBit s delimiter).pending = s.pending := by
  unfold startBit
  simp

@[simp] theorem takeStamp_frame (s : State) :
    (takeStamp s).phase = s.phase ∧ (takeStamp s).profile = s.profile ∧ (takeStamp s).ownId = s.ownId ∧
      (takeStamp s).listenOnly = s.listenOnly ∧ (takeStamp s).listenCause = s.listenCause ∧
      (takeStamp s).clamped = s.clamped ∧ (takeStamp s).mem = s.mem ∧ (takeStamp s).tb = s.tb ∧
      (takeStamp s).peers = s.peers ∧ (takeStamp s).sampler = s.sampler ∧ (takeStamp s).det = s.det ∧
      (takeStamp s).picks = s.picks ∧ (takeStamp s).events = s.events ∧ (takeStamp s).rm = s.rm ∧
      (takeStamp s).bat = s.bat ∧ (takeStamp s).heat = s.heat ∧ (takeStamp s).query = s.query ∧
      (takeStamp s).freeCount = s.freeCount ∧ (takeStamp s).pending = s.pending := by
  generalize h : takeStamp s = u
  unfold takeStamp at h
  (repeat' split at h) <;> (subst h; simp)

@[simp] theorem lineTick_frame (s : State) :
    (lineTick s).phase = s.phase ∧ (lineTick s).profile = s.profile ∧ (lineTick s).ownId = s.ownId ∧
      (lineTick s).listenOnly = s.listenOnly ∧ (lineTick s).listenCause = s.listenCause ∧
      (lineTick s).clamped = s.clamped ∧ (lineTick s).mem = s.mem ∧ (lineTick s).tb = s.tb ∧
      (lineTick s).peers = s.peers ∧ (lineTick s).sampler = s.sampler ∧ (lineTick s).det = s.det ∧
      (lineTick s).picks = s.picks ∧ (lineTick s).events = s.events ∧ (lineTick s).rm = s.rm ∧
      (lineTick s).bat = s.bat ∧ (lineTick s).heat = s.heat ∧ (lineTick s).query = s.query ∧
      (lineTick s).freeCount = s.freeCount ∧ (lineTick s).pending = s.pending := by
  unfold lineTick
  simp

@[simp] theorem uplinkTick_frame (s : State) :
    (uplinkTick s).phase = s.phase ∧ (uplinkTick s).profile = s.profile ∧ (uplinkTick s).ownId = s.ownId ∧
      (uplinkTick s).listenOnly = s.listenOnly ∧ (uplinkTick s).listenCause = s.listenCause ∧
      (uplinkTick s).clamped = s.clamped ∧ (uplinkTick s).mem = s.mem ∧ (uplinkTick s).tb = s.tb ∧
      (uplinkTick s).peers = s.peers ∧ (uplinkTick s).sampler = s.sampler ∧ (uplinkTick s).det = s.det ∧
      (uplinkTick s).picks = s.picks ∧ (uplinkTick s).rm = s.rm ∧ (uplinkTick s).bat = s.bat ∧
      (uplinkTick s).heat = s.heat ∧ (uplinkTick s).line = s.line ∧ (uplinkTick s).query = s.query ∧
      (uplinkTick s).freeCount = s.freeCount ∧ (uplinkTick s).pending = s.pending := by
  generalize h : uplinkTick s = u
  unfold uplinkTick at h
  split at h <;> (subst h; simp)

end Sys2Proof.Machine
end

