-- ==== Sys2Proof/Laws/FramesQuery.lean ====
section
/-! SUPPORT. What a heard frame and a query leave alone, whatever the block that they are handed to does. -/

namespace Sys2Proof.Machine

/-- A heard frame is not taken, or only screened, or screened and handed on. -/
theorem takeFrame_cases (s : State) (kind sender : Nat) (work : State → State) :
    takeFrame s kind sender work = s ∨ takeFrame s kind sender work = screenFrame (endFrame s) kind sender ∨
      takeFrame s kind sender work = work (screenFrame (endFrame s) kind sender) := by
  unfold takeFrame
  split
  · exact .inl rfl
  · split
    · exact .inr (.inr rfl)
    · exact .inr (.inl rfl)

/-- What the screening and the work leave alone, a heard frame leaves alone. -/
theorem takeFrame_keeps {α : Type} (f : State → α) (s : State) (kind sender : Nat) (work : State → State)
    (hs : f (screenFrame (endFrame s) kind sender) = f s) (hw : ∀ u, f (work u) = f u) :
    f (takeFrame s kind sender work) = f s := by
  rcases takeFrame_cases s kind sender work with h | h | h <;> rw [h]
  · exact hs
  · rw [hw, hs]

/-- What the work leaves alone, as well as the ANSWER and the query handler's counters, a query leaves alone. -/
theorem carryOut_keeps {α : Type} (f : State → α) (s : State) (q : QueryHeader) (code : Nat) (work : State → Reply)
    (hi : f (ignoreQuery s) = f s) (ha : ∀ u r d, f (sendAnswer (countTaken u) q code r d) = f u)
    (hw : f (work s).state = f s) : f (carryOut s q code work) = f s := by
  unfold carryOut
  split
  · exact hi
  · rw [ha, hw]

/-- What the handler leaves alone, as well as the screening and the engine's choice, a QUERY frame leaves alone. -/
theorem takeQuery_keeps {α : Type} (f : State → α) (s : State) (q : QueryHeader) (handler : State → State)
    (hs : f (screenFrame (endFrame s) 4 q.sender.toNat) = f s) (hk : ∀ u, f (engineKick u) = f u)
    (hw : ∀ u, f (handler u) = f u) : f (takeQuery s q handler) = f s := by
  unfold takeQuery
  refine takeFrame_keeps f s _ _ _ hs fun u => ?_
  split
  · rw [hk, hw]
  · rfl

/-- A valid frame of another sender is handed on in the state that the renewed line-quiet timer leaves (R195, R196). -/
theorem takeFrame_heard (s : State) (kind sender : Nat) (work : State → State) (hr : s.heard.isSome = true)
    (hp : framePasses s kind sender = true) : takeFrame s kind sender work = work (renewValid (endFrame s)) := by
  have h : framePasses (endFrame s) kind sender = true := hp
  simp only [framePasses, Bool.and_eq_true, Bool.not_eq_true'] at h
  obtain ⟨⟨h1, h2⟩, h3⟩ := h
  have hc : countDiscard (endFrame s).line kind sender = (endFrame s).line := by simp [countDiscard, h1, h2]
  have hn : s.heard.isNone = false := by cases h : s.heard <;> simp_all
  have h4 : framePasses (endFrame s) kind sender = true := hp
  unfold takeFrame
  rw [hn, if_neg Bool.false_ne_true, if_pos hp]
  unfold screenFrame
  rw [hc, if_neg (by rw [h3]; exact Bool.false_ne_true), if_pos h4]

/-- A heard query of a tool is handed to the handler (R195, R200). -/
theorem takeQuery_heard (s : State) (q : QueryHeader) (handler : State → State) (hr : s.heard.isSome = true)
    (hp : framePasses s 4 q.sender.toNat = true) (ht : s.ownId = some q.target.toNat) :
    takeQuery s q handler = engineKick (handler (renewValid (endFrame s))) := by
  unfold takeQuery
  rw [takeFrame_heard _ _ _ _ hr hp]
  simp [ht]

/-! ### Field by field -/

@[simp] theorem takeFrame_phase (s : State) (k n : Nat) (w : State → State) (h : ∀ u, (w u).phase = u.phase) :
    (takeFrame s k n w).phase = s.phase := takeFrame_keeps State.phase s k n w (by simp) h

@[simp] theorem takeFrame_profile (s : State) (k n : Nat) (w : State → State) (h : ∀ u, (w u).profile = u.profile) :
    (takeFrame s k n w).profile = s.profile := takeFrame_keeps State.profile s k n w (by simp) h

@[simp] theorem takeFrame_ownId (s : State) (k n : Nat) (w : State → State) (h : ∀ u, (w u).ownId = u.ownId) :
    (takeFrame s k n w).ownId = s.ownId := takeFrame_keeps State.ownId s k n w (by simp) h

@[simp] theorem takeFrame_listenOnly (s : State) (k n : Nat) (w : State → State) (h : ∀ u, (w u).listenOnly = u.listenOnly) :
    (takeFrame s k n w).listenOnly = s.listenOnly := takeFrame_keeps State.listenOnly s k n w (by simp) h

@[simp] theorem takeFrame_listenCause (s : State) (k n : Nat) (w : State → State) (h : ∀ u, (w u).listenCause = u.listenCause) :
    (takeFrame s k n w).listenCause = s.listenCause := takeFrame_keeps State.listenCause s k n w (by simp) h

@[simp] theorem takeFrame_clamped (s : State) (k n : Nat) (w : State → State) (h : ∀ u, (w u).clamped = u.clamped) :
    (takeFrame s k n w).clamped = s.clamped := takeFrame_keeps State.clamped s k n w (by simp) h

@[simp] theorem takeFrame_mem (s : State) (k n : Nat) (w : State → State) (h : ∀ u, (w u).mem = u.mem) :
    (takeFrame s k n w).mem = s.mem := takeFrame_keeps State.mem s k n w (by simp) h

@[simp] theorem takeFrame_tb (s : State) (k n : Nat) (w : State → State) (h : ∀ u, (w u).tb = u.tb) :
    (takeFrame s k n w).tb = s.tb := takeFrame_keeps State.tb s k n w (by simp) h

@[simp] theorem takeFrame_sampler (s : State) (k n : Nat) (w : State → State) (h : ∀ u, (w u).sampler = u.sampler) :
    (takeFrame s k n w).sampler = s.sampler := takeFrame_keeps State.sampler s k n w (by simp) h

@[simp] theorem takeFrame_det (s : State) (k n : Nat) (w : State → State) (h : ∀ u, (w u).det = u.det) :
    (takeFrame s k n w).det = s.det := takeFrame_keeps State.det s k n w (by simp) h

@[simp] theorem takeFrame_picks (s : State) (k n : Nat) (w : State → State) (h : ∀ u, (w u).picks = u.picks) :
    (takeFrame s k n w).picks = s.picks := takeFrame_keeps State.picks s k n w (by simp) h

@[simp] theorem takeFrame_events (s : State) (k n : Nat) (w : State → State) (h : ∀ u, (w u).events = u.events) :
    (takeFrame s k n w).events = s.events := takeFrame_keeps State.events s k n w (by simp) h

@[simp] theorem takeFrame_rm (s : State) (k n : Nat) (w : State → State) (h : ∀ u, (w u).rm = u.rm) :
    (takeFrame s k n w).rm = s.rm := takeFrame_keeps State.rm s k n w (by simp) h

@[simp] theorem takeFrame_bat (s : State) (k n : Nat) (w : State → State) (h : ∀ u, (w u).bat = u.bat) :
    (takeFrame s k n w).bat = s.bat := takeFrame_keeps State.bat s k n w (by simp) h

@[simp] theorem takeFrame_heat (s : State) (k n : Nat) (w : State → State) (h : ∀ u, (w u).heat = u.heat) :
    (takeFrame s k n w).heat = s.heat := takeFrame_keeps State.heat s k n w (by simp) h

@[simp] theorem takeFrame_query (s : State) (k n : Nat) (w : State → State) (h : ∀ u, (w u).query = u.query) :
    (takeFrame s k n w).query = s.query := takeFrame_keeps State.query s k n w (by simp) h

@[simp] theorem takeFrame_freeCount (s : State) (k n : Nat) (w : State → State) (h : ∀ u, (w u).freeCount = u.freeCount) :
    (takeFrame s k n w).freeCount = s.freeCount := takeFrame_keeps State.freeCount s k n w (by simp) h

@[simp] theorem takeFrame_pending (s : State) (k n : Nat) (w : State → State) (h : ∀ u, (w u).pending = u.pending) :
    (takeFrame s k n w).pending = s.pending := takeFrame_keeps State.pending s k n w (by simp) h

@[simp] theorem carryOut_phase (s : State) (q : QueryHeader) (c : Nat) (w : State → Reply)
    (h : (w s).state.phase = s.phase) : (carryOut s q c w).phase = s.phase :=
  carryOut_keeps State.phase s q c w (by simp) (by simp) h

@[simp] theorem carryOut_profile (s : State) (q : QueryHeader) (c : Nat) (w : State → Reply)
    (h : (w s).state.profile = s.profile) : (carryOut s q c w).profile = s.profile :=
  carryOut_keeps State.profile s q c w (by simp) (by simp) h

@[simp] theorem carryOut_ownId (s : State) (q : QueryHeader) (c : Nat) (w : State → Reply)
    (h : (w s).state.ownId = s.ownId) : (carryOut s q c w).ownId = s.ownId :=
  carryOut_keeps State.ownId s q c w (by simp) (by simp) h

@[simp] theorem carryOut_listenOnly (s : State) (q : QueryHeader) (c : Nat) (w : State → Reply)
    (h : (w s).state.listenOnly = s.listenOnly) : (carryOut s q c w).listenOnly = s.listenOnly :=
  carryOut_keeps State.listenOnly s q c w (by simp) (by simp) h

@[simp] theorem carryOut_listenCause (s : State) (q : QueryHeader) (c : Nat) (w : State → Reply)
    (h : (w s).state.listenCause = s.listenCause) : (carryOut s q c w).listenCause = s.listenCause :=
  carryOut_keeps State.listenCause s q c w (by simp) (by simp) h

@[simp] theorem carryOut_clamped (s : State) (q : QueryHeader) (c : Nat) (w : State → Reply)
    (h : (w s).state.clamped = s.clamped) : (carryOut s q c w).clamped = s.clamped :=
  carryOut_keeps State.clamped s q c w (by simp) (by simp) h

@[simp] theorem carryOut_mem (s : State) (q : QueryHeader) (c : Nat) (w : State → Reply)
    (h : (w s).state.mem = s.mem) : (carryOut s q c w).mem = s.mem :=
  carryOut_keeps State.mem s q c w (by simp) (by simp) h

@[simp] theorem carryOut_tb (s : State) (q : QueryHeader) (c : Nat) (w : State → Reply)
    (h : (w s).state.tb = s.tb) : (carryOut s q c w).tb = s.tb :=
  carryOut_keeps State.tb s q c w (by simp) (by simp) h

@[simp] theorem carryOut_peers (s : State) (q : QueryHeader) (c : Nat) (w : State → Reply)
    (h : (w s).state.peers = s.peers) : (carryOut s q c w).peers = s.peers :=
  carryOut_keeps State.peers s q c w (by simp) (by simp) h

@[simp] theorem carryOut_sampler (s : State) (q : QueryHeader) (c : Nat) (w : State → Reply)
    (h : (w s).state.sampler = s.sampler) : (carryOut s q c w).sampler = s.sampler :=
  carryOut_keeps State.sampler s q c w (by simp) (by simp) h

@[simp] theorem carryOut_det (s : State) (q : QueryHeader) (c : Nat) (w : State → Reply)
    (h : (w s).state.det = s.det) : (carryOut s q c w).det = s.det :=
  carryOut_keeps State.det s q c w (by simp) (by simp) h

@[simp] theorem carryOut_picks (s : State) (q : QueryHeader) (c : Nat) (w : State → Reply)
    (h : (w s).state.picks = s.picks) : (carryOut s q c w).picks = s.picks :=
  carryOut_keeps State.picks s q c w (by simp) (by simp) h

@[simp] theorem carryOut_events (s : State) (q : QueryHeader) (c : Nat) (w : State → Reply)
    (h : (w s).state.events = s.events) : (carryOut s q c w).events = s.events :=
  carryOut_keeps State.events s q c w (by simp) (by simp) h

@[simp] theorem carryOut_rm (s : State) (q : QueryHeader) (c : Nat) (w : State → Reply)
    (h : (w s).state.rm = s.rm) : (carryOut s q c w).rm = s.rm :=
  carryOut_keeps State.rm s q c w (by simp) (by simp) h

@[simp] theorem carryOut_bat (s : State) (q : QueryHeader) (c : Nat) (w : State → Reply)
    (h : (w s).state.bat = s.bat) : (carryOut s q c w).bat = s.bat :=
  carryOut_keeps State.bat s q c w (by simp) (by simp) h

@[simp] theorem carryOut_heat (s : State) (q : QueryHeader) (c : Nat) (w : State → Reply)
    (h : (w s).state.heat = s.heat) : (carryOut s q c w).heat = s.heat :=
  carryOut_keeps State.heat s q c w (by simp) (by simp) h

@[simp] theorem carryOut_freeCount (s : State) (q : QueryHeader) (c : Nat) (w : State → Reply)
    (h : (w s).state.freeCount = s.freeCount) : (carryOut s q c w).freeCount = s.freeCount :=
  carryOut_keeps State.freeCount s q c w (by simp) (by simp) h

@[simp] theorem carryOut_pending (s : State) (q : QueryHeader) (c : Nat) (w : State → Reply)
    (h : (w s).state.pending = s.pending) : (carryOut s q c w).pending = s.pending :=
  carryOut_keeps State.pending s q c w (by simp) (by simp) h

@[simp] theorem takeQuery_phase (s : State) (q : QueryHeader) (w : State → State) (h : ∀ u, (w u).phase = u.phase) :
    (takeQuery s q w).phase = s.phase := takeQuery_keeps State.phase s q w (by simp) (by simp) h

@[simp] theorem takeQuery_profile (s : State) (q : QueryHeader) (w : State → State) (h : ∀ u, (w u).profile = u.profile) :
    (takeQuery s q w).profile = s.profile := takeQuery_keeps State.profile s q w (by simp) (by simp) h

@[simp] theorem takeQuery_ownId (s : State) (q : QueryHeader) (w : State → State) (h : ∀ u, (w u).ownId = u.ownId) :
    (takeQuery s q w).ownId = s.ownId := takeQuery_keeps State.ownId s q w (by simp) (by simp) h

@[simp] theorem takeQuery_listenOnly (s : State) (q : QueryHeader) (w : State → State) (h : ∀ u, (w u).listenOnly = u.listenOnly) :
    (takeQuery s q w).listenOnly = s.listenOnly := takeQuery_keeps State.listenOnly s q w (by simp) (by simp) h

@[simp] theorem takeQuery_listenCause (s : State) (q : QueryHeader) (w : State → State) (h : ∀ u, (w u).listenCause = u.listenCause) :
    (takeQuery s q w).listenCause = s.listenCause := takeQuery_keeps State.listenCause s q w (by simp) (by simp) h

@[simp] theorem takeQuery_clamped (s : State) (q : QueryHeader) (w : State → State) (h : ∀ u, (w u).clamped = u.clamped) :
    (takeQuery s q w).clamped = s.clamped := takeQuery_keeps State.clamped s q w (by simp) (by simp) h

@[simp] theorem takeQuery_mem (s : State) (q : QueryHeader) (w : State → State) (h : ∀ u, (w u).mem = u.mem) :
    (takeQuery s q w).mem = s.mem := takeQuery_keeps State.mem s q w (by simp) (by simp) h

@[simp] theorem takeQuery_tb (s : State) (q : QueryHeader) (w : State → State) (h : ∀ u, (w u).tb = u.tb) :
    (takeQuery s q w).tb = s.tb := takeQuery_keeps State.tb s q w (by simp) (by simp) h

@[simp] theorem takeQuery_sampler (s : State) (q : QueryHeader) (w : State → State) (h : ∀ u, (w u).sampler = u.sampler) :
    (takeQuery s q w).sampler = s.sampler := takeQuery_keeps State.sampler s q w (by simp) (by simp) h

@[simp] theorem takeQuery_det (s : State) (q : QueryHeader) (w : State → State) (h : ∀ u, (w u).det = u.det) :
    (takeQuery s q w).det = s.det := takeQuery_keeps State.det s q w (by simp) (by simp) h

@[simp] theorem takeQuery_picks (s : State) (q : QueryHeader) (w : State → State) (h : ∀ u, (w u).picks = u.picks) :
    (takeQuery s q w).picks = s.picks := takeQuery_keeps State.picks s q w (by simp) (by simp) h

@[simp] theorem takeQuery_events (s : State) (q : QueryHeader) (w : State → State) (h : ∀ u, (w u).events = u.events) :
    (takeQuery s q w).events = s.events := takeQuery_keeps State.events s q w (by simp) (by simp) h

@[simp] theorem takeQuery_heat (s : State) (q : QueryHeader) (w : State → State) (h : ∀ u, (w u).heat = u.heat) :
    (takeQuery s q w).heat = s.heat := takeQuery_keeps State.heat s q w (by simp) (by simp) h

@[simp] theorem takeQuery_query (s : State) (q : QueryHeader) (w : State → State) (h : ∀ u, (w u).query = u.query) :
    (takeQuery s q w).query = s.query := takeQuery_keeps State.query s q w (by simp) (by simp) h

@[simp] theorem takeQuery_freeCount (s : State) (q : QueryHeader) (w : State → State) (h : ∀ u, (w u).freeCount = u.freeCount) :
    (takeQuery s q w).freeCount = s.freeCount := takeQuery_keeps State.freeCount s q w (by simp) (by simp) h

@[simp] theorem takeQuery_pending (s : State) (q : QueryHeader) (w : State → State) (h : ∀ u, (w u).pending = u.pending) :
    (takeQuery s q w).pending = s.pending := takeQuery_keeps State.pending s q w (by simp) (by simp) h

@[simp] theorem plainReply_state (s : State) (r : QueryResult) (d : List Byte) : (plainReply s r d).state = s := rfl

@[simp] theorem entryReply_state (s : State) (e : Option (List Byte)) : (entryReply s e).state = s := by
  cases e <;> rfl

@[simp] theorem pageReply_state (s : State) (id idx slice : Nat) : (pageReply s id idx slice).state = s := by
  unfold pageReply
  (repeat' split) <;> rfl

@[simp] theorem releaseReply_frame (s : State) (id : Nat) :
    (releaseReply s id).state.phase = s.phase ∧ (releaseReply s id).state.profile = s.profile ∧
      (releaseReply s id).state.ownId = s.ownId ∧ (releaseReply s id).state.listenOnly = s.listenOnly ∧
      (releaseReply s id).state.listenCause = s.listenCause ∧ (releaseReply s id).state.clamped = s.clamped ∧
      (releaseReply s id).state.mem = s.mem ∧ (releaseReply s id).state.tb = s.tb ∧
      (releaseReply s id).state.peers = s.peers ∧ (releaseReply s id).state.sampler = s.sampler ∧
      (releaseReply s id).state.det = s.det ∧ (releaseReply s id).state.picks = s.picks ∧
      (releaseReply s id).state.events = s.events ∧ (releaseReply s id).state.bat = s.bat ∧
      (releaseReply s id).state.heat = s.heat ∧ (releaseReply s id).state.line = s.line ∧
      (releaseReply s id).state.query = s.query ∧ (releaseReply s id).state.freeCount = s.freeCount ∧
      (releaseReply s id).state.pending = s.pending := by
  unfold releaseReply
  (repeat' split) <;> simp

@[simp] theorem wipeReply_frame (s : State) :
    (wipeReply s).state.phase = s.phase ∧ (wipeReply s).state.profile = s.profile ∧
      (wipeReply s).state.ownId = s.ownId ∧ (wipeReply s).state.listenOnly = s.listenOnly ∧
      (wipeReply s).state.listenCause = s.listenCause ∧ (wipeReply s).state.clamped = s.clamped ∧
      (wipeReply s).state.mem = s.mem ∧ (wipeReply s).state.tb = s.tb ∧
      (wipeReply s).state.peers = s.peers ∧ (wipeReply s).state.sampler = s.sampler ∧
      (wipeReply s).state.det = s.det ∧ (wipeReply s).state.picks = s.picks ∧
      (wipeReply s).state.events = s.events ∧ (wipeReply s).state.bat = s.bat ∧
      (wipeReply s).state.heat = s.heat ∧ (wipeReply s).state.line = s.line ∧
      (wipeReply s).state.query = s.query ∧ (wipeReply s).state.freeCount = s.freeCount ∧
      (wipeReply s).state.pending = s.pending := by
  unfold wipeReply
  (repeat' split) <;> simp

@[simp] theorem secondsReply_frame (s : State) (n : Nat) :
    (secondsReply s n).state.phase = s.phase ∧ (secondsReply s n).state.profile = s.profile ∧
      (secondsReply s n).state.ownId = s.ownId ∧ (secondsReply s n).state.listenOnly = s.listenOnly ∧
      (secondsReply s n).state.listenCause = s.listenCause ∧ (secondsReply s n).state.clamped = s.clamped ∧
      (secondsReply s n).state.mem = s.mem ∧ (secondsReply s n).state.peers = s.peers ∧
      (secondsReply s n).state.sampler = s.sampler ∧ (secondsReply s n).state.det = s.det ∧
      (secondsReply s n).state.picks = s.picks ∧ (secondsReply s n).state.events = s.events ∧
      (secondsReply s n).state.bat = s.bat ∧ (secondsReply s n).state.query = s.query ∧
      (secondsReply s n).state.freeCount = s.freeCount ∧ (secondsReply s n).state.pending = s.pending := by
  unfold secondsReply
  (repeat' split) <;> simp

@[simp] theorem restartReply_frame (s : State) :
    (restartReply s).state.phase = s.phase ∧ (restartReply s).state.profile = s.profile ∧
      (restartReply s).state.ownId = s.ownId ∧ (restartReply s).state.listenOnly = s.listenOnly ∧
      (restartReply s).state.listenCause = s.listenCause ∧ (restartReply s).state.clamped = s.clamped ∧
      (restartReply s).state.mem = s.mem ∧ (restartReply s).state.tb = s.tb ∧
      (restartReply s).state.peers = s.peers ∧ (restartReply s).state.sampler = s.sampler ∧
      (restartReply s).state.det = s.det ∧ (restartReply s).state.picks = s.picks ∧
      (restartReply s).state.events = s.events ∧ (restartReply s).state.rm = s.rm ∧
      (restartReply s).state.heat = s.heat ∧ (restartReply s).state.line = s.line ∧
      (restartReply s).state.freeCount = s.freeCount ∧ (restartReply s).state.pending = s.pending := by
  unfold restartReply
  (repeat' split) <;> simp

end Sys2Proof.Machine
end

