-- ==== Sys2Proof/Laws/Memory.lean ====
section
/-! SUPPORT. The laws of the record memory's bytes: read after write, erasing, and that every operation keeps the
canonical form. -/

namespace Sys2Proof.Machine

/-! ### The canonical form -/

theorem memWf_nil : Memory.wf [] := by simp [Memory.wf]

theorem memWf_cons {c : Host.Cell} {m : Memory} :
    Memory.wf (c :: m) ↔ (∀ d ∈ m, c.1 < d.1) ∧ c.2 ≠ erasedByte ∧ Memory.wf m := by
  simp only [Memory.wf, List.pairwise_cons, List.mem_cons, forall_eq_or_imp]
  tauto

/-- A cell of a memory after a write is the written one or one of the memory's. -/
theorem mem_memWrite {m : Memory} {a : Nat} {v : Byte} {c : Host.Cell} (h : c ∈ memWrite m a v) :
    c = (a, v) ∨ c ∈ m := by
  induction m with
  | nil =>
    simp only [memWrite] at h
    split at h <;> simp_all
  | cons d rest ih =>
    obtain ⟨b, w⟩ := d
    simp only [memWrite] at h
    split at h
    · split at h <;> simp_all
    · split at h
      · split at h <;> (simp_all; try tauto)
      · simp only [List.mem_cons] at h ⊢
        rcases h with h | h
        · exact .inr (.inl h)
        · rcases ih h with h | h
          · exact .inl h
          · exact .inr (.inr h)

/-- A write keeps the canonical form. -/
theorem memWrite_wf {m : Memory} (h : Memory.wf m) (a : Nat) (v : Byte) : Memory.wf (memWrite m a v) := by
  induction m with
  | nil =>
    simp only [memWrite]
    split
    · exact h
    · simp_all [Memory.wf]
  | cons d rest ih =>
    obtain ⟨b, w⟩ := d
    have hc := memWf_cons.1 h
    simp only [memWrite]
    split
    · split
      · exact h
      · rename_i hab hv
        refine memWf_cons.2 ⟨?_, hv, h⟩
        intro d hd
        rcases List.mem_cons.1 hd with rfl | hd
        · exact hab
        · exact lt_trans hab (hc.1 d hd)
    · split
      · split
        · exact hc.2.2
        · rename_i hab hv
          exact memWf_cons.2 ⟨by simpa [hab] using hc.1, hv, hc.2.2⟩
      · rename_i h1 h2
        refine memWf_cons.2 ⟨?_, hc.2.1, ih hc.2.2⟩
        intro d hd
        rcases mem_memWrite hd with rfl | hd
        · simp only; omega
        · exact hc.1 d hd

theorem memWriteList_wf {m : Memory} (h : Memory.wf m) (a : Nat) (bs : List Byte) :
    Memory.wf (memWriteList m a bs) := by
  induction bs generalizing m a with
  | nil => exact h
  | cons b rest ih => exact ih (memWrite_wf h a b) (a + 1)

theorem memProgram_wf {m : Memory} (h : Memory.wf m) (a : Nat) (bs : List Byte) :
    Memory.wf (memProgram m a bs) := by
  induction bs generalizing m a with
  | nil => exact h
  | cons b rest ih => exact ih (memWrite_wf h a _) (a + 1)

theorem memFilter_wf {m : Memory} (h : Memory.wf m) (p : Host.Cell → Bool) : Memory.wf (m.filter p) :=
  ⟨h.1.filter p, fun c hc => h.2 c (List.mem_of_mem_filter hc)⟩

theorem memErase_wf {m : Memory} (h : Memory.wf m) (page : Nat) : Memory.wf (memErase m page) := memFilter_wf h _

theorem pageCells_wf {m : Memory} (h : Memory.wf m) (page : Nat) : Memory.wf (pageCells m page) := memFilter_wf h _

/-- What the supply lets complete keeps the canonical form (R149). -/
theorem completeFlight_wf {m : Memory} (h : Memory.wf m) (o : EngineOp) : Memory.wf (completeFlight m o) := by
  cases o <;> simp only [completeFlight] <;> first | exact memErase_wf h _ | exact memProgram_wf h _ _

/-- What the supply cuts short keeps the canonical form (R149). -/
theorem cutFlight_wf {m : Memory} (h : Memory.wf m) (k : Nat) (o : EngineOp) : Memory.wf (cutFlight m k o) := by
  cases o <;>
    simp only [cutFlight, cutCareErase, cutErase, cutCareProgram, cutProgram, cutMark] <;>
    first | exact memWriteList_wf h _ _ | exact memWrite_wf h _ _

/-! ### Reading -/

/-- An address below every cell reads as erased. -/
theorem memRead_below {m : Memory} {a : Nat} (h : ∀ c ∈ m, a < c.1) : memRead m a = erasedByte := by
  induction m with
  | nil => rfl
  | cons d rest ih =>
    obtain ⟨b, w⟩ := d
    have hb : a < b := h (b, w) (by simp)
    simp only [memRead]
    rw [if_neg (by omega)]
    exact ih fun c hc => h c (by simp [hc])

/-- The written byte is read back. -/
theorem memRead_write_same {m : Memory} (h : Memory.wf m) (a : Nat) (v : Byte) : memRead (memWrite m a v) a = v := by
  induction m with
  | nil =>
    simp only [memWrite]
    split <;> simp_all [memRead]
  | cons d rest ih =>
    obtain ⟨b, w⟩ := d
    have hc := memWf_cons.1 h
    simp only [memWrite]
    split
    · split
      · rename_i hab hv
        rw [hv]
        refine memRead_below fun c hc' => ?_
        rcases List.mem_cons.1 hc' with rfl | hc'
        · exact hab
        · exact lt_trans hab (hc.1 c hc')
      · simp [memRead]
    · split
      · rename_i hab
        split
        · rename_i hv
          rw [hv]
          refine memRead_below fun c hc' => ?_
          rw [hab]
          exact hc.1 c hc'
        · simp [memRead]
      · rename_i h1 h2
        simp only [memRead]
        rw [if_neg (fun e => h2 e.symm)]
        exact ih hc.2.2

/-- A write leaves every other address alone. -/
theorem memRead_write_other {m : Memory} {a b : Nat} (hab : b ≠ a) (v : Byte) :
    memRead (memWrite m a v) b = memRead m b := by
  induction m with
  | nil =>
    simp only [memWrite]
    split
    · rfl
    · simp [memRead, hab.symm]
  | cons d rest ih =>
    obtain ⟨x, w⟩ := d
    simp only [memWrite]
    split
    · split
      · rfl
      · simp [memRead, hab.symm]
    · split
      · rename_i hax
        subst hax
        split <;> simp [memRead, hab.symm]
      · simp only [memRead, ih]

/-- Addresses before a list of written bytes are left alone. -/
theorem memRead_writeList_before {m : Memory} {a b : Nat} (h : b < a) (bs : List Byte) :
    memRead (memWriteList m a bs) b = memRead m b := by
  induction bs generalizing m a with
  | nil => rfl
  | cons x rest ih => rw [memWriteList, ih (by omega), memRead_write_other (by omega)]

/-- Addresses after a list of written bytes are left alone. -/
theorem memRead_writeList_after {m : Memory} {a b : Nat} (bs : List Byte) (h : a + bs.length ≤ b) :
    memRead (memWriteList m a bs) b = memRead m b := by
  induction bs generalizing m a with
  | nil => rfl
  | cons x rest ih =>
    simp only [List.length_cons] at h
    rw [memWriteList, ih (by omega), memRead_write_other (by omega)]

/-- A written list is read back. -/
theorem memRead_writeList_at {m : Memory} (h : Memory.wf m) (a : Nat) (bs : List Byte) {i : Nat} (hi : i < bs.length) :
    memRead (memWriteList m a bs) (a + i) = bs[i] := by
  induction bs generalizing m a i with
  | nil => simp at hi
  | cons x rest ih =>
    rw [memWriteList]
    cases i with
    | zero => simpa [memRead_writeList_before] using memRead_write_same h a x
    | succ j =>
      have := ih (memWrite_wf h a x) (a + 1) (i := j) (by simpa using hi)
      rw [show a + (j + 1) = a + 1 + j by omega, this]
      rfl

/-- Addresses before programmed bytes are left alone. -/
theorem memRead_program_before {m : Memory} {a b : Nat} (h : b < a) (bs : List Byte) :
    memRead (memProgram m a bs) b = memRead m b := by
  induction bs generalizing m a with
  | nil => rfl
  | cons x rest ih => rw [memProgram, ih (by omega), memRead_write_other (by omega)]

/-- Addresses after programmed bytes are left alone. -/
theorem memRead_program_after {m : Memory} {a b : Nat} (bs : List Byte) (h : a + bs.length ≤ b) :
    memRead (memProgram m a bs) b = memRead m b := by
  induction bs generalizing m a with
  | nil => rfl
  | cons x rest ih =>
    simp only [List.length_cons] at h
    rw [memProgram, ih (by omega), memRead_write_other (by omega)]

/-- Programming only moves bits toward 0. -/
theorem memRead_program_at {m : Memory} (h : Memory.wf m) (a : Nat) (bs : List Byte) {i : Nat} (hi : i < bs.length) :
    memRead (memProgram m a bs) (a + i) = memRead m (a + i) &&& bs[i] := by
  induction bs generalizing m a i with
  | nil => simp at hi
  | cons x rest ih =>
    rw [memProgram]
    cases i with
    | zero => simpa [memRead_program_before] using memRead_write_same h a (memRead m a &&& x)
    | succ j =>
      have := ih (memWrite_wf h a (memRead m a &&& x)) (a + 1) (i := j) (by simpa using hi)
      rw [show a + (j + 1) = a + 1 + j by omega, this, memRead_write_other (by omega)]
      rfl

/-- Reading a filtered memory at an address all of whose cells the filter keeps. -/
theorem memRead_filter_keep {m : Memory} {p : Host.Cell → Bool} {a : Nat} (h : ∀ c ∈ m, c.1 = a → p c = true) :
    memRead (m.filter p) a = memRead m a := by
  induction m with
  | nil => rfl
  | cons d rest ih =>
    obtain ⟨b, w⟩ := d
    have ih' := ih fun c hc => h c (by simp [hc])
    by_cases hb : b = a
    · have := h (b, w) (by simp) hb
      rw [List.filter_cons, if_pos this]
      simp [memRead, hb]
    · by_cases hp : p (b, w) = true
      · simp [hp, memRead, hb, ih']
      · simp [hp, memRead, hb, ih']

/-- Reading a filtered memory at an address none of whose cells the filter keeps. -/
theorem memRead_filter_drop {m : Memory} {p : Host.Cell → Bool} {a : Nat} (h : ∀ c ∈ m, c.1 = a → p c = false) :
    memRead (m.filter p) a = erasedByte := by
  induction m with
  | nil => rfl
  | cons d rest ih =>
    obtain ⟨b, w⟩ := d
    have ih' := ih fun c hc => h c (by simp [hc])
    by_cases hb : b = a
    · have := h (b, w) (by simp) hb
      rw [List.filter_cons, if_neg (by simp [this])]
      exact ih'
    · by_cases hp : p (b, w) = true
      · simp [hp, memRead, hb, ih']
      · simp [hp, ih']

/-- An erased page reads as 0xFF (R127). -/
theorem memRead_erase_inside {m : Memory} {page a : Nat} (h1 : pageBase page ≤ a) (h2 : a < pageBase page + pageSize) :
    memRead (memErase m page) a = erasedByte :=
  memRead_filter_drop fun c _ hca => by simp [inPage, hca, h1, h2]

/-- Erasing a page leaves every other page alone (R127). -/
theorem memRead_erase_outside {m : Memory} {page a : Nat} (h : a < pageBase page ∨ pageBase page + pageSize ≤ a) :
    memRead (memErase m page) a = memRead m a :=
  memRead_filter_keep fun c _ hca => by
    subst hca
    rcases h with h | h
    · simp [inPage, Nat.not_le.2 h]
    · simp [inPage, Nat.not_lt.2 h]

/-- A page's own cells read as the memory does, inside the page. -/
theorem memRead_pageCells {m : Memory} {page a : Nat} (h1 : pageBase page ≤ a) (h2 : a < pageBase page + pageSize) :
    memRead (pageCells m page) a = memRead m a :=
  memRead_filter_keep fun c _ hca => by simp [inPage, hca, h1, h2]

end Sys2Proof.Machine
end

