-- ==== Sys2Proof/Laws/Ops.lean ====
section
/-! SUPPORT. What the shared operations can do: array time, counters, clamps, on-delays and values per channel. -/

namespace Sys2Proof.Machine

/-! ### Array time -/

/-- A reading formed from a count lies in the range of array time. -/
theorem ofUs_range (n : Int) : (ofUs n).sec ≤ 4294967295 ∧ (ofUs n).us ≤ 999999 := by
  simp only [ofUs, timeSpan]; omega

/-- The microseconds of a formed reading are the count, modulo the span of array time. -/
theorem usOf_ofUs (n : Int) : usOf (ofUs n) = n % timeSpan := by
  simp only [usOf, ofUs, timeSpan]; omega

/-- A formed reading stands for its count, within the span. -/
theorem usOf_ofUs_of_range {n : Int} (h0 : 0 ≤ n) (h1 : n < timeSpan) : usOf (ofUs n) = n := by
  rw [usOf_ofUs, Int.emod_eq_of_lt h0 h1]

/-- A reading in range is the one formed from its count. -/
theorem ofUs_usOf {t : ArrayTime} (h0 : t.sec ≤ 4294967295) (h1 : t.us ≤ 999999) : ofUs (usOf t) = t := by
  obtain ⟨a, b⟩ := t
  simp only at h0 h1
  simp only [usOf, ofUs, timeSpan, ArrayTime.mk.injEq]; omega

/-- A moved reading lies in the range of array time. -/
theorem addUs_range (t : ArrayTime) (d : Int) : (addUs t d).sec ≤ 4294967295 ∧ (addUs t d).us ≤ 999999 :=
  ofUs_range _

@[simp] theorem diffUs_self (t : ArrayTime) : diffUs t t = 0 := by simp [diffUs]

/-- The least multiple of a period at or after a count. -/
theorem multipleFrom_spec {p : Int} (hp : 0 < p) (x : Int) :
    p ∣ multipleFrom p x ∧ x ≤ multipleFrom p x ∧ multipleFrom p x < x + p := by
  have h1 := Int.emod_nonneg (-x) (ne_of_gt hp)
  have h2 := Int.emod_lt_of_pos (-x) hp
  refine ⟨?_, by unfold multipleFrom; omega, by unfold multipleFrom; omega⟩
  refine ⟨-(-x / p), ?_⟩
  have h3 := Int.mul_ediv_add_emod (-x) p
  unfold multipleFrom
  linarith [h3, mul_neg p (-x / p)]

/-! ### Counters and clamps -/

/-- A counter never passes 65,535. -/
theorem bump_le (n : Nat) : bump n ≤ 65535 := Nat.min_le_right _ _

theorem bumpBy_le (k n : Nat) : bumpBy k n ≤ 65535 := Nat.min_le_right _ _

theorem wrap32_lt (n : Nat) : wrap32 n < 4294967296 := Nat.mod_lt _ (by decide)

/-- A clamped value lies in its range. -/
theorem clampInt_range {lo hi : Int} (h : lo ≤ hi) (x : Int) : lo ≤ clampInt lo hi x ∧ clampInt lo hi x ≤ hi := by
  simp only [clampInt]; omega

/-- A value in the range is its own clamp. -/
theorem clampInt_self {lo hi x : Int} (h0 : lo ≤ x) (h1 : x ≤ hi) : clampInt lo hi x = x := by
  simp only [clampInt]; omega

theorem clampNat_range {lo hi : Nat} (h : lo ≤ hi) (x : Nat) : lo ≤ clampNat lo hi x ∧ clampNat lo hi x ≤ hi := by
  simp only [clampNat]; omega

theorem boundedMs_range (us : Int) : 0 ≤ boundedMs us ∧ boundedMs us ≤ 10000 := clampInt_range (by decide) _

/-! ### On-delays -/

@[simp] theorem eval_false (d : OnDelay) (now : ArrayTime) (need : Int) : d.eval false now need = OnDelay.stopped := rfl

/-- An evaluation at which the condition holds: the delay runs, and it is met once its time has elapsed. -/
theorem eval_true (d : OnDelay) (now : ArrayTime) (need : Int) :
    d.eval true now need =
      ⟨some (d.start.getD now), d.isMet || decide (need ≤ diffUs now (d.start.getD now))⟩ := rfl

/-! ### Values per channel -/

@[simp] theorem get_set_same {α : Type} (p : PerChan α) (c : Channel) (x : α) : (p.set c x).get c = x := by
  cases c <;> rfl

theorem get_set_other {α : Type} (p : PerChan α) {c d : Channel} (h : d ≠ c) (x : α) : (p.set c x).get d = p.get d := by
  cases c <;> cases d <;> first | rfl | exact absurd rfl h

@[simp] theorem get_ofFn {α : Type} (f : Channel → α) (c : Channel) : (PerChan.ofFn f).get c = f c := by
  cases c <;> rfl

theorem count_le {α : Type} (p : PerChan α) (f : α → Bool) : p.count f ≤ 3 := by
  unfold PerChan.count; split_ifs <;> omega

/-! ### Local time -/

/-- The applied correction never exceeds 150,000 ppb (R3). -/
theorem correction_range (b : Timebase) : -150000 ≤ b.correction ∧ b.correction ≤ 150000 := clampInt_range (by decide) _

/-- The PI update keeps its two terms in their ranges (R3, R19). -/
theorem piUpdate_range (b : Timebase) (e t : Int) :
    (-50000 ≤ (b.piUpdate e t).p ∧ (b.piUpdate e t).p ≤ 50000) ∧
      (-100000 ≤ (b.piUpdate e t).steerF ∧ (b.piUpdate e t).steerF ≤ 100000) :=
  ⟨clampInt_range (by decide) _, clampInt_range (by decide) _⟩

/-- A HOLDOVER grade lies from 1 to 14 (R5, R6). -/
theorem holdoverGrade_range (h : Holdover) (enc : Option Int) (now : ArrayTime) :
    1 ≤ holdoverGrade h enc now ∧ holdoverGrade h enc now ≤ 14 := by
  simp only [holdoverGrade, clampInt]
  omega

end Sys2Proof.Machine
end

