-- ==== Sys2Proof/WellFormed.lean ====
section
/-! DEFINITION. Which commands carry operands that the outside can deliver: a read of the profile has
96 bytes, a time is a reading of array time, a converter's result fits its converter, a frame fits the line.
`exec` is total on the others as well. -/

namespace Sys2Proof

/-- A reading of array time (R1). -/
def ArrayTime.wf (t : ArrayTime) : Bool := t.sec < 4294967296 && t.us < 1000000

/-- A converter result: 24 bits signed, flagged overrange or not (R42). -/
def RawSample.wf (r : RawSample) : Bool := -8388608 ≤ r.value && r.value ≤ 8388607

/-- The results of one tick. -/
def TickInput.wf (i : TickInput) : Bool := i.z.wf && i.n.wf && i.e.wf

/-- A word of a sample set (R45): the sample range, and an unpowered channel's zeros. -/
def SetWord.wf (w : SetWord) : Bool :=
  (-8388607 ≤ w.sample && w.sample ≤ 8388607) &&
    (w.powered || (w.sample == 0 && !w.settling && !w.clipped))

/-- An acknowledged read of the configuration memory delivers 96 bytes (R210). -/
def readWf (r : Option (List Byte)) : Bool :=
  match r with
  | none => true
  | some bs => bs.length == 96

/-- The form of a command's operands. -/
def Instr.wf (i : Instr) : Bool :=
  match i with
  | .profileRead r1 r2 r3 => readWf r1 && readWf r2 && readWf r3
  | .sampleTick inp => inp.wf
  | .settlingEnd _ w => w.wf
  | .warmupEnd _ w => w.wf
  | .channelTriggered _ t w => t.wf && w.wf
  | .triggerEnd _ t w => t.wf && w.wf
  | .maxTrigger _ t w => t.wf && w.wf
  | .alertFrameReceived _ a => 1 ≤ a.origins.length && a.origins.length ≤ 16
  | .badFrame f => f.bytes.length ≤ 102
  | .badRequest _ _ args => args.length ≤ 8
  | .powerOn | .brownOut _ | .brownOutRecovery | .restartTakesEffect | .careRestore | .startUpScan
  | .lineEnable | .samplerStart | .captureTakeSet | .captureEndTime | .recordMaxReached | .pageAllocation
  | .pickAged | .eventEnd | .alertRepeatDue | .schedule | .owedSnapshot | .shedExit | .fullAnchor
  | .emptyAnchor | .maxOn | .deferralExpired | .heaterOpenClear | .exposureReset | .openCheck _
  | .steeringInstant | .peerExpiry | .ppsEdge | .beaconReceived _ _ | .pickFrameReceived _ _ | .frameNotHandedOn _ _ _
  | .status _ _ | .peer _ _ | .event _ _ | .record _ _ | .page _ _ _ _ | .release _ _ | .wipe _
  | .setSeconds _ _ | .latchClear _ | .restart _ | .idleGapMet | .backoffExpiry | .lineTurnsBusy _
  | .mismatch | .frameSent | .sectionReset | .uplinkReportSent | .engineOperationStart | .eraseComplete
  | .captureProgramComplete | .careSnapshotComplete | .markComplete | .nominalMicrosecond => true

end Sys2Proof
end

