-- ==== Sys2Proof/Laws/PerInstr.lean ====
section
/-! SUPPORT. The family of statements made of every command as syntax: a command is well formed exactly where each of its
operands is, and a command whose fields have fixed widths always is. -/

namespace Sys2Proof.Laws

/-- What each operand of a command must be. -/
def WellFormedRow.operandsFit (i : Instr) : Prop :=
  match i with
  | .profileRead r1 r2 r3 => readWf r1 = true ∧ readWf r2 = true ∧ readWf r3 = true
  | .sampleTick inp => inp.z.wf = true ∧ inp.n.wf = true ∧ inp.e.wf = true
  | .settlingEnd _ w => w.wf = true
  | .warmupEnd _ w => w.wf = true
  | .channelTriggered _ t w => t.wf = true ∧ w.wf = true
  | .triggerEnd _ t w => t.wf = true ∧ w.wf = true
  | .maxTrigger _ t w => t.wf = true ∧ w.wf = true
  | .alertFrameReceived _ a => 1 ≤ a.origins.length ∧ a.origins.length ≤ 16
  | .badFrame f => f.bytes.length ≤ 102
  | .badRequest _ _ args => args.length ≤ 8
  | .powerOn | .brownOut _ | .brownOutRecovery | .restartTakesEffect | .careRestore | .startUpScan | .lineEnable
  | .samplerStart | .captureTakeSet | .captureEndTime | .recordMaxReached | .pageAllocation | .pickAged
  | .eventEnd | .alertRepeatDue | .schedule | .owedSnapshot | .shedExit | .fullAnchor | .emptyAnchor | .maxOn
  | .deferralExpired | .heaterOpenClear | .exposureReset | .openCheck _ | .steeringInstant | .peerExpiry
  | .ppsEdge | .beaconReceived _ _ | .pickFrameReceived _ _ | .frameNotHandedOn _ _ _ | .status _ _ | .peer _ _ | .event _ _
  | .record _ _ | .page _ _ _ _ | .release _ _ | .wipe _ | .setSeconds _ _ | .latchClear _ | .restart _
  | .idleGapMet | .backoffExpiry | .lineTurnsBusy _ | .mismatch | .frameSent | .sectionReset | .uplinkReportSent
  | .engineOperationStart | .eraseComplete | .captureProgramComplete | .careSnapshotComplete | .markComplete
  | .nominalMicrosecond => True

/-- A command is well formed exactly where its operands fit. -/
def WellFormedRow.Statement (i : Instr) : Prop := i.wf = true ↔ WellFormedRow.operandsFit i

theorem WellFormedRow.powerOn : WellFormedRow.Statement .powerOn := iff_of_true rfl trivial

theorem WellFormedRow.brownOut (supplyAllows : Bool) :
    WellFormedRow.Statement (.brownOut supplyAllows) := iff_of_true rfl trivial

theorem WellFormedRow.brownOutRecovery : WellFormedRow.Statement .brownOutRecovery := iff_of_true rfl trivial

theorem WellFormedRow.restartTakesEffect : WellFormedRow.Statement .restartTakesEffect := iff_of_true rfl trivial

theorem WellFormedRow.profileRead (r1 r2 r3 : Option (List Byte)) :
    WellFormedRow.Statement (.profileRead r1 r2 r3) := by
  simp [WellFormedRow.Statement, WellFormedRow.operandsFit, Instr.wf, and_assoc]

theorem WellFormedRow.careRestore : WellFormedRow.Statement .careRestore := iff_of_true rfl trivial

theorem WellFormedRow.startUpScan : WellFormedRow.Statement .startUpScan := iff_of_true rfl trivial

theorem WellFormedRow.lineEnable : WellFormedRow.Statement .lineEnable := iff_of_true rfl trivial

theorem WellFormedRow.samplerStart : WellFormedRow.Statement .samplerStart := iff_of_true rfl trivial

theorem WellFormedRow.sampleTick (inp : TickInput) :
    WellFormedRow.Statement (.sampleTick inp) := by
  simp [WellFormedRow.Statement, WellFormedRow.operandsFit, Instr.wf, TickInput.wf, and_assoc]

theorem WellFormedRow.settlingEnd (c : Channel) (w : SetWord) : WellFormedRow.Statement (.settlingEnd c w) := Iff.rfl

theorem WellFormedRow.warmupEnd (c : Channel) (w : SetWord) : WellFormedRow.Statement (.warmupEnd c w) := Iff.rfl

theorem WellFormedRow.channelTriggered (c : Channel) (t : ArrayTime) (w : SetWord) :
    WellFormedRow.Statement (.channelTriggered c t w) := Bool.and_eq_true_iff

theorem WellFormedRow.triggerEnd (c : Channel) (t : ArrayTime) (w : SetWord) :
    WellFormedRow.Statement (.triggerEnd c t w) := Bool.and_eq_true_iff

theorem WellFormedRow.maxTrigger (c : Channel) (t : ArrayTime) (w : SetWord) :
    WellFormedRow.Statement (.maxTrigger c t w) := Bool.and_eq_true_iff

theorem WellFormedRow.captureTakeSet : WellFormedRow.Statement .captureTakeSet := iff_of_true rfl trivial

theorem WellFormedRow.captureEndTime : WellFormedRow.Statement .captureEndTime := iff_of_true rfl trivial

theorem WellFormedRow.recordMaxReached : WellFormedRow.Statement .recordMaxReached := iff_of_true rfl trivial

theorem WellFormedRow.pageAllocation : WellFormedRow.Statement .pageAllocation := iff_of_true rfl trivial

theorem WellFormedRow.pickAged : WellFormedRow.Statement .pickAged := iff_of_true rfl trivial

theorem WellFormedRow.eventEnd : WellFormedRow.Statement .eventEnd := iff_of_true rfl trivial

theorem WellFormedRow.alertRepeatDue : WellFormedRow.Statement .alertRepeatDue := iff_of_true rfl trivial

theorem WellFormedRow.schedule : WellFormedRow.Statement .schedule := iff_of_true rfl trivial

theorem WellFormedRow.owedSnapshot : WellFormedRow.Statement .owedSnapshot := iff_of_true rfl trivial

theorem WellFormedRow.shedExit : WellFormedRow.Statement .shedExit := iff_of_true rfl trivial

theorem WellFormedRow.fullAnchor : WellFormedRow.Statement .fullAnchor := iff_of_true rfl trivial

theorem WellFormedRow.emptyAnchor : WellFormedRow.Statement .emptyAnchor := iff_of_true rfl trivial

theorem WellFormedRow.maxOn : WellFormedRow.Statement .maxOn := iff_of_true rfl trivial

theorem WellFormedRow.deferralExpired : WellFormedRow.Statement .deferralExpired := iff_of_true rfl trivial

theorem WellFormedRow.heaterOpenClear : WellFormedRow.Statement .heaterOpenClear := iff_of_true rfl trivial

theorem WellFormedRow.exposureReset : WellFormedRow.Statement .exposureReset := iff_of_true rfl trivial

theorem WellFormedRow.openCheck (hk : BitVec 12) : WellFormedRow.Statement (.openCheck hk) := iff_of_true rfl trivial

theorem WellFormedRow.steeringInstant : WellFormedRow.Statement .steeringInstant := iff_of_true rfl trivial

theorem WellFormedRow.peerExpiry : WellFormedRow.Statement .peerExpiry := iff_of_true rfl trivial

theorem WellFormedRow.ppsEdge : WellFormedRow.Statement .ppsEdge := iff_of_true rfl trivial

theorem WellFormedRow.beaconReceived (h : FrameHeader) (b : BeaconPayload) :
    WellFormedRow.Statement (.beaconReceived h b) := iff_of_true rfl trivial

theorem WellFormedRow.pickFrameReceived (h : FrameHeader) (p : PickPayload) :
    WellFormedRow.Statement (.pickFrameReceived h p) := iff_of_true rfl trivial

theorem WellFormedRow.alertFrameReceived (h : FrameHeader) (a : AlertPayload) :
    WellFormedRow.Statement (.alertFrameReceived h a) := by
  simp [WellFormedRow.Statement, WellFormedRow.operandsFit, Instr.wf]

theorem WellFormedRow.badFrame (f : HeardBytes) : WellFormedRow.Statement (.badFrame f) := decide_eq_true_iff

theorem WellFormedRow.frameNotHandedOn (kind sender target : Byte) :
    WellFormedRow.Statement (.frameNotHandedOn kind sender target) := iff_of_true rfl trivial

theorem WellFormedRow.status (q : QueryHeader) (sect : Byte) :
    WellFormedRow.Statement (.status q sect) := iff_of_true rfl trivial

theorem WellFormedRow.peer (q : QueryHeader) (index : Byte) :
    WellFormedRow.Statement (.peer q index) := iff_of_true rfl trivial

theorem WellFormedRow.event (q : QueryHeader) (index : Byte) :
    WellFormedRow.Statement (.event q index) := iff_of_true rfl trivial

theorem WellFormedRow.record (q : QueryHeader) (index : Byte) :
    WellFormedRow.Statement (.record q index) := iff_of_true rfl trivial

theorem WellFormedRow.page (q : QueryHeader) (recId : BitVec 32) (index : BitVec 16) (slice : Byte) :
    WellFormedRow.Statement (.page q recId index slice) := iff_of_true rfl trivial

theorem WellFormedRow.release (q : QueryHeader) (recId : BitVec 32) :
    WellFormedRow.Statement (.release q recId) := iff_of_true rfl trivial

theorem WellFormedRow.wipe (q : QueryHeader) : WellFormedRow.Statement (.wipe q) := iff_of_true rfl trivial

theorem WellFormedRow.setSeconds (q : QueryHeader) (seconds : BitVec 32) :
    WellFormedRow.Statement (.setSeconds q seconds) := iff_of_true rfl trivial

theorem WellFormedRow.latchClear (q : QueryHeader) :
    WellFormedRow.Statement (.latchClear q) := iff_of_true rfl trivial

theorem WellFormedRow.restart (q : QueryHeader) : WellFormedRow.Statement (.restart q) := iff_of_true rfl trivial

theorem WellFormedRow.badRequest (q : QueryHeader) (code : Byte) (args : List Byte) :
    WellFormedRow.Statement (.badRequest q code args) := decide_eq_true_iff

theorem WellFormedRow.idleGapMet : WellFormedRow.Statement .idleGapMet := iff_of_true rfl trivial

theorem WellFormedRow.backoffExpiry : WellFormedRow.Statement .backoffExpiry := iff_of_true rfl trivial

theorem WellFormedRow.lineTurnsBusy (delimiter : Bool) :
    WellFormedRow.Statement (.lineTurnsBusy delimiter) := iff_of_true rfl trivial

theorem WellFormedRow.mismatch : WellFormedRow.Statement .mismatch := iff_of_true rfl trivial

theorem WellFormedRow.frameSent : WellFormedRow.Statement .frameSent := iff_of_true rfl trivial

theorem WellFormedRow.sectionReset : WellFormedRow.Statement .sectionReset := iff_of_true rfl trivial

theorem WellFormedRow.uplinkReportSent : WellFormedRow.Statement .uplinkReportSent := iff_of_true rfl trivial

theorem WellFormedRow.engineOperationStart : WellFormedRow.Statement .engineOperationStart := iff_of_true rfl trivial

theorem WellFormedRow.eraseComplete : WellFormedRow.Statement .eraseComplete := iff_of_true rfl trivial

theorem WellFormedRow.captureProgramComplete :
    WellFormedRow.Statement .captureProgramComplete := iff_of_true rfl trivial

theorem WellFormedRow.careSnapshotComplete : WellFormedRow.Statement .careSnapshotComplete := iff_of_true rfl trivial

theorem WellFormedRow.markComplete : WellFormedRow.Statement .markComplete := iff_of_true rfl trivial

theorem WellFormedRow.nominalMicrosecond : WellFormedRow.Statement .nominalMicrosecond := iff_of_true rfl trivial

end Sys2Proof.Laws
end

