-- ==== Sys2Proof/Laws/Positions.lean ====
section
/-! SUPPORT. The first-pick position of the model is the one that R92 gives. -/

namespace Sys2Proof

open Machine

/-- The first member with a property, as a search finds it. -/
theorem firstWith_iff {α : Type} (P : α → Prop) (p : α → Bool) (h : ∀ x, p x = true ↔ P x) (l : List α) (x : α) :
    firstWith P l x ↔ l.find? p = some x := by
  simp only [firstWith, List.find?_eq_some_iff_append, Bool.not_eq_true', ← Bool.not_eq_true, h]
  constructor
  · rintro ⟨a, b, hl, hx, ha⟩; exact ⟨hx, a, b, hl, ha⟩
  · rintro ⟨hx, a, b, hl, ha⟩; exact ⟨a, b, hl, hx, ha⟩

/-- No member with a property, as a search finds none. -/
theorem noneWith_iff {α : Type} (P : α → Prop) (p : α → Bool) (h : ∀ x, p x = true ↔ P x) (l : List α) :
    (∀ y ∈ l, ¬P y) ↔ l.find? p = none := by
  simp only [List.find?_eq_none, h]

theorem keyPick_iff (e : EventEntry) (x : PickEntry) :
    (x.origin == e.key.origin && x.time == e.key.time) = true ↔ keyPick e x := by simp [keyPick]

theorem keyPeer_iff (e : EventEntry) (x : PeerEntry) : (x.id == e.key.origin && !x.conflict) = true ↔ keyPeer e x := by
  simp [keyPeer]

/-- The first-pick position of R92, as the model forms it. -/
theorem positionGiven_iff (s : State) (e : EventEntry) (pos : Int × Int) :
    positionGiven s e pos ↔ firstPosition s e = some pos := by
  simp only [positionGiven, firstPosition, firstWith_iff (keyPick e) _ (keyPick_iff e),
    noneWith_iff (keyPick e) _ (keyPick_iff e), firstWith_iff (keyPeer e) _ (keyPeer_iff e)]
  cases e.position with
  | some p => simp
  | none =>
    cases s.picks.entries.find? (fun x => x.origin == e.key.origin && x.time == e.key.time) with
    | some x => simp [PickEntry.place, eq_comm]
    | none =>
      by_cases ho : s.ownId = some e.key.origin
      · simp [ho, eq_comm]
      · cases s.peers.entries.find? (fun x => x.id == e.key.origin && !x.conflict) with
        | some x => simp [ho, eq_comm]
        | none => simp [ho]

end Sys2Proof
end

