-- ==== Sys2Proof/Laws/State.lean ====
section
/-! SUPPORT. What stands in each field of the reset state, and in the fields that the small updates write, each true by
unfolding one record update; Laws/Frames*.lean say which blocks an operation leaves alone. -/

namespace Sys2Proof.Machine

@[simp] theorem reset_phase : State.reset.phase = .step1 := rfl

@[simp] theorem reset_profile : State.reset.profile = Profile.initial := rfl

@[simp] theorem reset_ownId : State.reset.ownId = none := rfl

@[simp] theorem reset_listenOnly : State.reset.listenOnly = false := rfl

@[simp] theorem reset_listenCause : State.reset.listenCause = .none := rfl

@[simp] theorem reset_clamped : State.reset.clamped = 0 := rfl

@[simp] theorem reset_mem : State.reset.mem = [] := rfl

@[simp] theorem reset_tb : State.reset.tb = Timebase.reset := rfl

@[simp] theorem reset_peers : State.reset.peers = PeerTable.reset := rfl

@[simp] theorem reset_sampler : State.reset.sampler = Sampler.reset := rfl

@[simp] theorem reset_det : State.reset.det = Detector.reset := rfl

@[simp] theorem reset_picks : State.reset.picks = PickList.reset := rfl

@[simp] theorem reset_events : State.reset.events = EventTable.reset := rfl

@[simp] theorem reset_rm : State.reset.rm = RecordMem.reset := rfl

@[simp] theorem reset_bat : State.reset.bat = Battery.reset := rfl

@[simp] theorem reset_heat : State.reset.heat = Heater.reset := rfl

@[simp] theorem reset_line : State.reset.line = Line.reset := rfl

@[simp] theorem reset_query : State.reset.query = Query.reset := rfl

@[simp] theorem reset_freeCount : State.reset.freeCount = 0 := rfl

@[simp] theorem reset_pending : State.reset.pending = [] := rfl

@[simp] theorem clearP_tb (s : State) : (clearP s).tb = { s.tb with p := 0 } := rfl

@[simp] theorem enterState_tb (s : State) (st : TimeState) (g : Nat) :
    (enterState s st g).tb =
      { s.tb with state := st, grade := g, holdover := none } := rfl

@[simp] theorem leaveUnset_tb (s : State) : (leaveUnset s).tb = { s.tb with seed := none } := rfl

@[simp] theorem leaveUnset_heat (s : State) : (leaveUnset s).heat = s.heat.reportExit s.tb.clock := rfl

@[simp] theorem emptySeed_tb (s : State) : (emptySeed s).tb = { s.tb with seed := none } := rfl

@[simp] theorem clearStepped_tb (s : State) : (clearStepped s).tb = { s.tb with stepped := false } := rfl

@[simp] theorem markAligned_tb (s : State) : (markAligned s).tb = { s.tb with ppsAligned := true } := rfl

@[simp] theorem ppsTaken_tb (s : State) :
    (ppsTaken s).tb =
      { s.tb with ppsRun := 0, ppsLast := some s.tb.clock } := rfl

@[simp] theorem ppsRejected_tb (s : State) :
    (ppsRejected s).tb =
      { s.tb with ppsRun := s.tb.ppsRun + 1, ppsRejects := bump s.tb.ppsRejects } := rfl

@[simp] theorem issueTick_tb (s : State) (n : ArrayTime) :
    (issueTick s n).tb =
      { s.tb with lastTick := some n, nextTick := some (addUs n s.period) } := rfl

@[simp] theorem renewValid_line (s : State) :
    (renewValid s).line =
      { s.line with lastValid := some (usOf s.tb.clock), quiet := false } := rfl

@[simp] theorem endFrame_line (s : State) : (endFrame s).line = { s.line with rx := .hunting } := rfl

@[simp] theorem discardFrame_line (s : State) :
    (discardFrame s).line =
      { s.line with rx := .discarded, badFrame := bump s.line.badFrame } := rfl

@[simp] theorem beginSending_line (s : State) (q : QFrame) :
    (beginSending s q).line =
      { s.line with
        rx := .hunting, silence := 0, access := .transmitting 0 none, driven := some (frameLevels s.own q none) } := rfl

@[simp] theorem startBit_line (s : State) (delimiter : Bool) :
    (startBit s delimiter).line =
      { s.line with
        rx := s.line.hear s.tb.clock delimiter
        silence := 0
        access := match s.line.access with
          | .backoff _ => .waiting
          | a => a } := rfl

@[simp] theorem ownFrame_peers (s : State) :
    (ownFrame s).peers =
      { s.peers with ownIdConflict := true, ownId := bump s.peers.ownId } := rfl

@[simp] theorem offerFrame_line (s : State) (f : Frame) (n : Option Nat) :
    (offerFrame s f n).line =
      (s.line.offer f n).1 := rfl

@[simp] theorem setKind_rm (s : State) (p : Nat) (k : PageKind) :
    (setKind s p k).rm =
      { s.rm with map := s.rm.map.set p k } := rfl

@[simp] theorem setCap_rm (s : State) (c : Capture) : (setCap s c).rm = { s.rm with cap := c } := rfl

@[simp] theorem clearFlight_rm (s : State) : (clearFlight s).rm = { s.rm with flight := none } := rfl

@[simp] theorem captureRefused_rm (s : State) :
    (captureRefused s).rm =
      { s.rm with refused := bump s.rm.refused } := rfl

@[simp] theorem dirUpdate_rm (s : State) (id : Nat) (f : DirEntry → DirEntry) :
    (dirUpdate s id f).rm =
      { s.rm with dir := s.rm.dir.map (fun e => if e.id == id then f e else e) } := rfl

@[simp] theorem dirRemove_rm (s : State) (id : Nat) :
    (dirRemove s id).rm =
      { s.rm with dir := s.rm.dir.filter (fun e => e.id != id) } := rfl

@[simp] theorem freePages_rm (s : State) (id : Nat) :
    (freePages s id).rm =
      { s.rm with map := s.rm.map.map (fun k => if k.isOwnedBy id then .freeDirty else k) } := rfl

@[simp] theorem formPermission_bat (s : State) :
    (formPermission s).bat =
      { s.bat with permission := permissionOf s.profile s.sampler.latest.batVolt s.bat.shed } := rfl

@[simp] theorem dropPermit_bat (s : State) :
    (dropPermit s).bat =
      { s.bat with permit := false, permitDrops := if s.bat.permit then bump s.bat.permitDrops else s.bat.permitDrops } := rfl

@[simp] theorem formSnapshot_seq (s : State) (c : SnapCause) :
    (formSnapshot s c).bat.seq =
      wrap32 (s.bat.seq + 1) := rfl

@[simp] theorem formSnapshot_q (s : State) (c : SnapCause) : (formSnapshot s c).bat.q = s.bat.q := rfl

@[simp] theorem formSnapshot_shed (s : State) (c : SnapCause) : (formSnapshot s c).bat.shed = s.bat.shed := rfl

@[simp] theorem switchHeat_on (s : State) (t : ArrayTime) (on : Bool) : (switchHeat s t on).heat.on = on := rfl

@[simp] theorem switchHeat_since (s : State) (t : ArrayTime) (on : Bool) : (switchHeat s t on).heat.since = t := rfl

@[simp] theorem switchHeat_openSince (s : State) (t : ArrayTime) (on : Bool) :
    (switchHeat s t on).heat.openSince =
      s.heat.openSince := rfl

@[simp] theorem switchHeat_guard (s : State) (t : ArrayTime) (on : Bool) :
    (switchHeat s t on).det.guard =
      some ⟨t, addUs t ((s.profile.guardS : Int) * 1000000)⟩ := rfl

@[simp] theorem forceOff_on (s : State) (t : ArrayTime) (c : ForcedCause) : (forceOff s t c).heat.on = false := rfl

@[simp] theorem forceOff_deferral (s : State) (t : ArrayTime) (c : ForcedCause) :
    (forceOff s t c).heat.deferral =
      none := rfl

@[simp] theorem makeSwitch_on (s : State) (t : ArrayTime) : (makeSwitch s t).heat.on = !s.heat.on := rfl

@[simp] theorem spendPick_pickSeq (s : State) (k : StationPick) :
    (spendPick s k).det.pickSeq =
      (s.det.pickSeq + 1) % 256 := rfl

@[simp] theorem spendPick_prevPick (s : State) (k : StationPick) : (spendPick s k).det.prevPick = some k.onset := rfl

@[simp] theorem formTrigger_chan (s : State) (x : SampleSet) : (formTrigger s x).det.chan = s.det.chan := rfl

@[simp] theorem formTrigger_lastSet (s : State) (x : SampleSet) : (formTrigger s x).det.lastSet = some x.stamp := rfl

@[simp] theorem assignPicks_entries (s : State) (k : Key) (p : PickEntry → Bool) :
    (assignPicks s k p).picks.entries =
      s.picks.entries.map (fun e => if p e then { e with assigned := some k } else e) := rfl

@[simp] theorem ageSweep_entries (s : State) :
    (ageSweep s).picks.entries =
      s.picks.entries.filter (fun e => decide (diffUs s.tb.clock e.time ≤ keepUs s.profile)) := rfl

@[simp] theorem eventUpdate_entries (s : State) (n : Nat) (f : EventEntry → EventEntry) :
    (eventUpdate s n f).events.entries =
      s.events.entries.map (fun e => if e.serial == n then f e else e) := rfl

@[simp] theorem formAlertLine_entries (s : State) : (formAlertLine s).events.entries = s.events.entries := rfl

@[simp] theorem eventAdd_entries (s : State) (e : EventEntry) :
    (eventAdd s e).events.entries =
      s.events.entries ++ [{ e with serial := s.events.nextSerial }] := rfl

@[simp] theorem eventAdd_nextSerial (s : State) (e : EventEntry) :
    (eventAdd s e).events.nextSerial =
      s.events.nextSerial + 1 := rfl

@[simp] theorem holdApply_map (s : State) (r : HoldReq) : (holdApply s r).rm.map = s.rm.map := rfl

@[simp] theorem ringWrite_ring (m : Sampler) (x : SampleSet) :
    (ringWrite m x).ring =
      x :: m.ring.take (ringSize - 1) := rfl

@[simp] theorem ringWrite_nextSet (m : Sampler) (x : SampleSet) :
    (ringWrite m x).nextSet =
      wrap32 (m.nextSet + 1) := rfl

@[simp] theorem stepClock_clock (s : State) (d : Int) : (stepClock s d).tb.clock = addUs s.tb.clock d := rfl

@[simp] theorem stepClock_residual (s : State) (d : Int) : (stepClock s d).tb.residual = 0 := rfl

@[simp] theorem stepClock_steerF (s : State) (d : Int) : (stepClock s d).tb.steerF = s.tb.steerF := rfl

@[simp] theorem stepClock_p (s : State) (d : Int) : (stepClock s d).tb.p = 0 := rfl

@[simp] theorem stepClock_stepped (s : State) (d : Int) : (stepClock s d).tb.stepped = true := rfl

@[simp] theorem stepClock_state (s : State) (d : Int) : (stepClock s d).tb.state = s.tb.state := rfl

@[simp] theorem stepClock_grade (s : State) (d : Int) : (stepClock s d).tb.grade = s.tb.grade := rfl

@[simp] theorem enterHoldover_state (s : State) (g : Nat) : (enterHoldover s g).tb.state = .holdover := rfl

@[simp] theorem enterHoldover_clock (s : State) (g : Nat) : (enterHoldover s g).tb.clock = s.tb.clock := rfl

@[simp] theorem scheduleInstant_interval (s : State) :
    (scheduleInstant s).tb.interval =
      beaconInterval s.profile s.bat.shed := rfl

@[simp] theorem countTaken_query (s : State) :
    (countTaken s).query =
      { s.query with taken := bump s.query.taken } := rfl

@[simp] theorem ignoreQuery_query (s : State) :
    (ignoreQuery s).query =
      { s.query with ignored := bump s.query.ignored } := rfl

end Sys2Proof.Machine
end

