-- ==== Sys2Proof/Tests/Slice0.lean ====
section
/-! SUPPORT. Tests: ill-formed operands refused, the manual's worked cases and tables, and for every statement with
hypotheses a state and operands that meet them. Expected results are the manual's own, or are worked by hand from its
rules; each test names the rule. -/

namespace Sys2Proof.Tests

open Sys2Proof.Machine

set_option Elab.async false

/-! ### States for the tests -/

/-- Station 5, running at shed level 0, at local time 1,000.25 s with a tick due, its receiver at the end of a frame whose
delimiter it heard just now. -/
def station : State :=
  { State.reset with
    phase := .running
    ownId := some 5
    tb := { Timebase.reset with
      clock := ⟨1000, 250000⟩, nextInstant := some ⟨1000, 250000⟩, interval := 8
      nextTick := some ⟨1000, 250000⟩, lastTick := some ⟨1000, 240000⟩ }
    line := { Line.reset with rx := .taking ⟨1000, 250000⟩, lastValid := some 700250000 }
    bat := { Battery.reset with q := 180000000, nextDue := some ⟨1000, 250000⟩ } }

/-- A peer of station 9 at the place of the worked case of chapter 1, last heard at local time 1,000.0 s. -/
def peer9 : PeerEntry where
  id := 9
  linePos := 1200
  east := 100
  north := 200
  interval := 8
  last := ⟨1000, 0⟩
  offset := -13
  fresh := true
  state := .following
  grade := 3
  shed := 0
  running := true
  soc := 500
  temp := -120
  heardA := false
  heardB := true
  heardC := false
  conflict := false

/-- The station with that peer, in a time state and at a grade. -/
def withPeer (state : TimeState) (grade : Nat) : State :=
  { station with
    tb := { station.tb with state := state, grade := grade }
    peers := { station.peers with entries := [peer9] } }

/-- A word of a powered, settled channel. -/
def word (x : Int) : SetWord := ⟨x, true, false, false, false, false⟩

/-- A sample set of three such words. -/
def sampleSet (t : ArrayTime) (x : Int) : SampleSet := ⟨t, ⟨word x, word x, word x⟩⟩

/-- A converter result within its range. -/
def raw (x : Int) : RawSample := ⟨x, none⟩

/-- A query header from tool 240 to station 5. -/
def query : QueryHeader := ⟨240, 17, 5⟩

/-- A frame header of station 9. -/
def header9 : FrameHeader := ⟨9, 1⟩

/-- The outcome's state, if the machine goes on. -/
def nextOf (r : Result) : Option State :=
  match r with
  | .next s => some s
  | _ => none

/-! ### Ill-formed operands -/

theorem test_wf_profile_read : Instr.wf (.profileRead (some []) none none) = false ∧
    Instr.wf (.profileRead none (some [1]) none) = false ∧ Instr.wf (.profileRead none none (some [1, 2])) = false := by
  decide

theorem test_wf_sample_tick : Instr.wf (.sampleTick ⟨raw 8388608, raw 0, raw 0, 0⟩) = false ∧
    Instr.wf (.sampleTick ⟨raw 0, raw (-8388609), raw 0, 0⟩) = false ∧
    Instr.wf (.sampleTick ⟨raw 0, raw 0, raw 9000000, 0⟩) = false := by decide

theorem test_wf_channel_words : Instr.wf (.settlingEnd .z (word 8388608)) = false ∧
    Instr.wf (.warmupEnd .n ⟨5, false, false, false, false, false⟩) = false ∧
    Instr.wf (.channelTriggered .e ⟨0, 1000000⟩ (word 0)) = false ∧
    Instr.wf (.triggerEnd .z ⟨4294967296, 0⟩ (word 0)) = false ∧
    Instr.wf (.maxTrigger .z ⟨0, 0⟩ ⟨0, false, true, false, false, false⟩) = false := by decide

theorem test_wf_frames :
    Instr.wf (.alertFrameReceived header9 ⟨9, ⟨0, 0⟩, 1, 0, 0, 0, []⟩) = false ∧
    Instr.wf (.alertFrameReceived header9 ⟨9, ⟨0, 0⟩, 1, 17, 0, 0, List.replicate 17 9⟩) = false ∧
    Instr.wf (.badFrame ⟨List.replicate 103 0, false, false⟩) = false ∧
    Instr.wf (.badRequest query 99 (List.replicate 9 0)) = false := by decide

theorem test_wf_accepts : Instr.wf (.profileRead (some (List.replicate 96 0)) none none) = true ∧
    Instr.wf (.sampleTick ⟨raw 8388607, raw (-8388608), raw 0, 4095⟩) = true ∧
    Instr.wf (.channelTriggered .z ⟨4294967295, 999999⟩ (word (-8388607))) = true := by decide

/-! ### Worked cases of the manual -/

/-- R125: the CRC of the nine characters 1 to 9 is 0x29B1. -/
theorem test_crc_check_value : crc16 [0x31, 0x32, 0x33, 0x34, 0x35, 0x36, 0x37, 0x38, 0x39] = 0x29B1 := by decide +kernel

/-- The worked case of R13: 3,500 m of line at 5 ns a metre are 18 µs, and the offset is −13 µs. -/
theorem test_beacon_offset :
    let p := { Profile.initial with linePos := 4700 }
    cableDelay p 1200 = 18 ∧
      beaconOffset p ⟨⟨1000000000, 250000⟩, 2, 3, 1, 0, 1, 1200, 0, 0, 500, 0⟩ ⟨1000000000, 250031⟩ = -13 := by
  decide +kernel

/-- The worked case of R20: e = +120 µs over 8 s gives p = −3,750 and steer_f = +1,063, and c = −2,957 ppb. -/
theorem test_pi_update :
    let b := { Timebase.reset with steerF := 2000, p := -500, tc := -270 }.piUpdate 120 8
    b.p = -3750 ∧ b.steerF = 1063 ∧ b.correction = -2957 := by decide

/-- The same with e = −120 µs. -/
theorem test_pi_update_negative :
    let b := { Timebase.reset with steerF := 2000, p := -500, tc := -270 }.piUpdate (-120) 8
    b.p = 3750 ∧ b.steerF = 2937 := by decide

/-- The example of R2: at −999,998,260 the correction of −2,957 ppb carries, and local time stands still. -/
theorem test_accumulator_carry :
    let b := { Timebase.reset with steerF := 1063, p := -3750, tc := -270, residual := -999998260 }.nominal
    b.residual = -1217 ∧ b.clock = ⟨0, 0⟩ := by decide

/-- The worked case of R90. -/
theorem test_velocity :
    let p := { Profile.initial with slack := 200000, vMin := 3000, window := 30 }
    consistent p ⟨0, 0⟩ (0, 0) ⟨1, 850000⟩ (3000, 4000) = true ∧
      consistent p ⟨0, 0⟩ (0, 0) ⟨1, 900000⟩ (3000, 4000) = false ∧
      consistent p ⟨0, 0⟩ (0, 0) ⟨1, 866999⟩ (3000, 4000) = true ∧
      consistent p ⟨0, 0⟩ (0, 0) ⟨1, 867000⟩ (3000, 4000) = false ∧
      consistent p ⟨0, 0⟩ (0, 0) ⟨0, 150000⟩ (3000, 4000) = true := by decide +kernel

/-- The four conversions of R154's worked case. -/
theorem test_charge_conversions :
    let p := { Profile.initial with chargeEff := 92 }
    let b0 := { Battery.reset with q := 180000000 }
    let b1 := b0.credit 360000000 (contribution p (-850) 60)
    let b2 := b1.credit 360000000 (contribution p 2000 60)
    let b3 := b2.credit 360000000 (contribution p (-850) 60)
    let b4 := b3.credit 360000000 (contribution p 2000 60)
    (b1.q = 179999949 ∧ b1.residual = 0) ∧ (b2.q = 180000059 ∧ b2.residual = 400) ∧
      (b3.q = 180000009 ∧ b3.residual = -600) ∧ b4.q = 180000118 ∧ b4.residual = 800 := by decide +kernel

/-- The table of CHARGE_EN over a cold morning (R161). -/
theorem test_charge_permit_table :
    let s := { station with profile := { station.profile with chargeMinT := 20, chargeMaxT := 450 } }
    let a := chargePermit s (some 27)
    let b := chargePermit a (some 31)
    let c := chargePermit b (some 22)
    let d := chargePermit c none
    let e := chargePermit d (some 35)
    let f := chargePermit e (some 19)
    [a, b, c, d, e, f].map (fun s => s.bat.permit) = [false, true, true, false, true, false] := by decide +kernel

/-- R54's worked case in small: the walk back passes set 1 and stops at set 0, which is not earlier than the set written
after it. -/
theorem test_start_set_around_step :
    let sets := [sampleSet ⟨992, 170000⟩ 0, sampleSet ⟨991, 590000⟩ 0, sampleSet ⟨991, 580000⟩ 0, sampleSet ⟨992, 370000⟩ 0]
    ringStart { Sampler.reset with ring := sets, nextSet := 4 } 982000000 = (1, ⟨991, 580000⟩) := by decide +kernel

/-- R42, R45: an overrange result is held at the limit and flagged clipped, and so is the one value beyond it. -/
theorem test_convert : convert ⟨123, some .pos⟩ = (8388607, true) ∧ convert ⟨123, some .neg⟩ = (-8388607, true) ∧
    convert (raw (-8388608)) = (-8388607, true) ∧ convert (raw (-8388607)) = (-8388607, false) := by decide

/-- R48: the scales of the six inputs at code 2,098. -/
theorem test_scales : HkInput.scale .batVolt 2098 = 16784 ∧ HkInput.scale .batCurr 2098 = 500 ∧
    HkInput.scale .batTemp 2098 = 598 ∧ HkInput.scale .heatCurr 2098 = 4196 ∧ HkInput.scale .srcVolt 2098 = 33568 := by
  decide

/-! ### The step, the whole machine and the invariants -/

/-- An ACTIVE event of station 9's pick. -/
def event9 : EventEntry where
  serial := 3
  key := ⟨9, ⟨995, 0⟩⟩
  active := true
  votes := [9, 12]
  declaredBy := [9, 12]
  localDecl := false
  kNeeded := none
  best := 3
  amp := 10
  position := none
  recordId := none
  lastActivity := ⟨999, 0⟩
  repeatsLeft := 0
  repeatDue := none

/-- A pick of an origin in the Pick List. -/
def pickAt (origin seq : Nat) (time : ArrayTime) (east north : Int) : PickEntry :=
  ⟨origin, seq, time, 3, east, north, 10, true, none⟩

/-- A closed record of one page. -/
def record7 : DirEntry := ⟨7, true, .loose, some 3, 1, ⟨900, 0⟩, some ⟨901, 0⟩, some .normal, none⟩

/-- A BEACON in the transmit queue. -/
def beacon5 : QFrame := ⟨.beacon ⟨.following, 4, 1, 0, true, 0, 0, 0, 500, none⟩, 0, 0⟩

/-- A station with something in every block: a written byte of record memory, a peer, two picks, an event, a record, a
queued BEACON, HEAT on with its open check to come, and a command that waits. -/
def busy : State :=
  let s := withPeer .following 4
  { s with
    mem := [(6144, 0x52#8)]
    picks := { s.picks with entries := [pickAt 9 1 ⟨995, 0⟩ 100 200, pickAt 12 4 ⟨996, 0⟩ 900 0] }
    events := { s.events with entries := [event9], nextSerial := 4, alertLine := true }
    rm := { s.rm with map := s.rm.map.set 3 (.owned 7 0 true), dir := [record7], nextId := 8 }
    sampler := { s.sampler with ring := [sampleSet ⟨1000, 240000⟩ 5], nextSet := 1 }
    heat := { s.heat with on := true, since := ⟨999, 500000⟩, openCheck := true }
    line := { s.line with queue := [beacon5], access := .waiting }
    pending := [.nominalMicrosecond] }

/-- The same with its BEACON in transmission, a nominal microsecond before its stamp is taken. -/
def sending : State :=
  { busy with line := { busy.line with
    rx := .hunting, access := .transmitting 319 none, driven := some (frameLevels 5 beacon5 none) } }

/-- A step's next state, met by the wildcard of a statement. -/
def goesOn (r : Result) : Bool := (nextOf r).isSome

/-- The front command of a queue, and the empty queue. -/
theorem test_witness_StepRunsFrontCommand : busy.pending = [.nominalMicrosecond] ∧ goesOn (step busy) = true ∧
    station.pending = [] ∧ nextOf (step station) = some station := by decide +kernel

/-- An operation in flight on the last page. -/
theorem test_witness_EveryCommandGoesOn :
    let s := { station with rm := { station.rm with flight := some (.aheadErase 511) } }
    (∀ o, s.rm.flight = some o → o.page < 512) ∧ goesOn (exec .eraseComplete s) = true := by
  refine ⟨?_, by decide +kernel⟩
  intro o h; cases h; decide

/-- Rows whose event is not there, at the bounds of their times, and a part that has stopped. -/
theorem test_witness_noEvent :
    let late : State := { station with tb := { station.tb with nextTick := some ⟨1000, 250001⟩ } }
    let down : State := { station with phase := .brownOut }
    noEvent (.sampleTick ⟨raw 0, raw 0, raw 0, 0⟩) late ∧ ¬noEvent (.sampleTick ⟨raw 0, raw 0, raw 0, 0⟩) station ∧ noEvent .careRestore station ∧
      noEvent .eraseComplete station ∧ noEvent .uplinkReportSent station ∧ stoppedFor .pickAged down ∧
      nextOf (exec .pickAged down) = some down ∧ nextOf (exec (.sampleTick ⟨raw 0, raw 0, raw 0, 0⟩) late) = some late := by
  refine ⟨?_, ?_, show Phase.running ≠ .step2 by decide, ?_, .inl rfl, ⟨rfl, rfl, by decide, fun b h => (by cases h), by decide, by decide⟩,
    by decide +kernel, by decide +kernel⟩
  · intro n h; cases h; decide +kernel
  · intro h; exact absurd (h ⟨1000, 250000⟩ rfl) (by decide +kernel)
  · exact fun p => ⟨nofun, nofun, nofun⟩

/-- A command that goes on, and a block that it may not change. -/
theorem test_witness_CommandsKeepOtherBlocks : goesOn (exec .nominalMicrosecond busy) = true ∧
    Block.memory ∉ mayChange .nominalMicrosecond := by decide +kernel

theorem test_witness_TimebaseStaysInRange : gradeInv busy ∧ clockInv busy ∧ goesOn (step busy) = true := by
  unfold gradeInv clockInv; decide +kernel

theorem test_witness_QueueAndRingStayBounded : queueInv sending ∧ ringInv sending ∧ goesOn (step sending) = true := by
  refine ⟨⟨by decide, by decide +kernel, by decide +kernel, by decide +kernel, by decide, ?_⟩, ?_, by decide +kernel⟩
  · intro e stamp q rest ha hq; cases ha; cases hq; decide +kernel
  · unfold ringInv; decide +kernel

theorem test_witness_PeersAndPicksStayOrdered : peersInv busy ∧ picksInv busy ∧ goesOn (step busy) = true := by
  unfold peersInv picksInv; decide +kernel

theorem test_witness_AlertLineAgreesWithEvents : eventsInv busy ∧ goesOn (step busy) = true := by
  constructor <;> (try unfold eventsInv alertAgrees) <;> decide +kernel

theorem test_witness_MemoryAndRecordsStayOrdered : memoryInv busy ∧ directoryInv busy ∧ pageMapInv busy ∧
    goesOn (step busy) = true := by
  refine ⟨by unfold memoryInv; decide +kernel, by unfold directoryInv; decide +kernel,
    ⟨by decide +kernel, by decide +kernel, ?_, ?_⟩, by decide +kernel⟩ <;> (intro p h; cases h)

theorem test_witness_ChargeAndHeatStayInBounds : chargeInv busy ∧ heaterInv busy ∧ goesOn (step busy) = true := by
  unfold chargeInv heaterInv; decide +kernel

theorem test_witness_ProfileStaysInRange : profileInv busy ∧ goesOn (step busy) = true := by
  dsimp only [profileInv]
  refine ⟨⟨?_, ?_, ?_, ?_, ?_, ?_, ?_, ?_, ?_⟩, ?_⟩ <;> decide +kernel

/-! ### The supply and the start -/

theorem test_witness_StartLeavesResetValues : beginsStart .powerOn busy ∧
    beginsStart .brownOutRecovery { busy with phase := .brownOut } ∧
    beginsStart .restartTakesEffect { busy with phase := .restarting } := by unfold beginsStart; decide

/-- A snapshot with fields at their greatest values. -/
def snapshotMax : Snapshot :=
  ⟨4294967295, ⟨4294967295, 999999⟩, 4, 1099511627775, 65535, 4294967295, true, 3, 4294967295, 2⟩

/-- The brown-out of a running part with no operation, and with each operation in flight; a care PROGRAM with a new page's
header, and one of the page's last slot, which reaches to the page's end. -/
theorem test_witness_BrownOutStopsThePart :
    let s o := { busy with rm := { busy.rm with flight := some o } }
    let done o := (nextOf (exec (.brownOut true) (s o))).map (fun t => (t.phase == .brownOut, memRead t.mem 6144, memRead t.mem 6164))
    busy.phase ≠ .brownOut ∧ busy.rm.flight = none ∧ Memory.wf busy.mem ∧
      (∀ o, (s o).rm.flight = some o ∧ (s o).phase ≠ .brownOut ∧ Memory.wf (s o).mem) ∧
      done (.aheadErase 3) = some (true, 0xFF, 0xFF) ∧ done (.wipeErase 3) = some (true, 0xFF, 0xFF) ∧
      done (.recordProgram 3 [0x12#8]) = some (true, 0x12, 0xFF) ∧ done (.mark ⟨7, 3, 0⟩) = some (true, 0x52, 0) ∧
      opFits (.careProgram 252 0 (careHeader 252 ++ snapshotBytes snapshotMax)) ∧
      opFits (.careProgram 252 (32 + 32 * 62) (snapshotBytes snapshotMax)) ∧ (62 : Nat) < 63 ∧ outsidePage 3 6143 ∧
      outsidePage 3 8192 ∧ ¬outsidePage 3 6144 ∧ ¬outsidePage 3 8191 := by
  unfold opFits outsidePage
  have hw : Memory.wf busy.mem := by decide +kernel
  have hp : busy.phase ≠ .brownOut := by decide
  refine ⟨hp, rfl, hw, fun o => ⟨rfl, hp, hw⟩, ?_, ?_, ?_, ?_, ?_, ?_, ?_, ?_, ?_, ?_, ?_⟩ <;> decide +kernel

/-- A page buffer of the greatest number of sets. -/
def fullBuffer : PageBuffer :=
  { PageBuffer.empty with page := some 3, sets := List.replicate 168 (sampleSet ⟨1000, 0⟩ 5), grade := 4 }

theorem test_witness_CutRecordPageIsTorn : Memory.wf [] ∧ pageErased [] 3 ∧ fullBuffer.sets.length ≤ 168 :=
  ⟨by decide, fun _ _ _ => rfl, by decide +kernel⟩

/-- A read of the configuration memory with a good CRC and an identifier. -/
def goodRead (id : Byte) : List Byte :=
  let bs := id :: List.replicate 93 (0 : Byte)
  bs ++ crcBytes bs

/-- A read with a bad CRC. -/
def badRead (id : Byte) : List Byte := id :: List.replicate 95 (0xAA#8 : Byte)

set_option maxRecDepth 4000 in
theorem crcGood_goodRead : crcGood (goodRead 1) ∧ crcGood (goodRead 239) ∧ crcGood (goodRead 0) ∧ crcGood (goodRead 240) ∧
    ¬crcGood (badRead 5) := by unfold crcGood; decide +kernel

/-- A good read at once, and one after an unacknowledged and a bad read, with the least and the greatest identifier. -/
theorem test_witness_ProfileIsUsed : State.reset.phase = .step1 ∧
    stopsAt [some (goodRead 1), none, none] (goodRead 1) ∧
    stopsAt [none, some (badRead 5), some (goodRead 239)] (goodRead 239) ∧ (goodRead 1).length = 96 ∧
    (goodRead 239).length = 96 ∧ idByte (goodRead 1) = 1 ∧ idByte (goodRead 239) = 239 := by
  refine ⟨rfl, ⟨[], [none, none], rfl, crcGood_goodRead.1, by simp⟩,
    ⟨[none, some (badRead 5)], [], rfl, crcGood_goodRead.2.1, ?_⟩, by decide +kernel, by decide +kernel, by decide +kernel,
    by decide +kernel⟩
  intro b hb
  have h : b = badRead 5 := by simpa using hb
  exact h ▸ crcGood_goodRead.2.2.2.2

/-- The clamped-fields counter as R211 has it. -/
def clampedOf (bs : List Byte) : Nat :=
  min 255 (fieldChanges (asRead bs) (laidOut bs) + fieldChanges (laidOut bs) (ordered (laidOut bs)))

/-- R216, R211: a read whose byte at each place is its offset, with what the rules make of it: two-byte fields most
significant byte first, the options byte 7 (pps_enable, uplink_role, 8 s), sta_shift 21 held to 6 and lta_shift raised from
12's bound no further, off_ratio 26 lowered below on_ratio 25, K_floor held to 8, and v_crit below v_low. -/
theorem test_profile_layout :
    let p := ordered (laidOut ((List.range 96).map (BitVec.ofNat 8)))
    (p.linePos, p.east, p.north) = (258, 772, 1286) ∧ (p.ppsEnable, p.uplinkRole, p.baseCode, p.rateCode) = (true, true, 1, 0) ∧
      (p.ppsWindow, p.lineNs, p.tempA) = (500, 6, 5656) ∧ (p.staShift, p.ltaShift, p.onRatio, p.offRatio) = (6, 12, 25, 24) ∧
      (p.slack, p.vMin, p.kVotes, p.kFloor) = (500000, 9253, 8, 8) ∧ (p.shed1, p.shed2, p.shed3) = (58, 57, 50) ∧
      clampedOf ((List.range 96).map (BitVec.ofNat 8)) = 35 ∧ clampedOf (List.replicate 96 0xFF) = 49 ∧
      (p.vLow, p.vCrit) = (15678, 15677) ∧ (p.maintT, p.setback, p.hyst, p.heaterMinMa) = (50, 73, 50, 8000) ∧
      p = (clampProfile (rawProfile ((List.range 96).map (BitVec.ofNat 8)))).1 ∧
      (clampProfile (rawProfile ((List.range 96).map (BitVec.ofNat 8)))).2 = 35 ∧
      (clampProfile (rawProfile (List.replicate 96 0xFF))).2 = 49 := by decide +kernel

/-- No device, bad reads alone, and a good read of each identifier next to the stations' range. -/
theorem test_witness_ListenOnlyIsEntered : State.reset.phase = .step1 ∧ noneGood [some (badRead 5), none, none] ∧
    lastIs [some (badRead 5), none, none] (badRead 5) ∧ stopsAt [some (goodRead 0), none, none] (goodRead 0) ∧
    stopsAt [some (goodRead 240), none, none] (goodRead 240) ∧ idByte (goodRead 0) = 0 ∧
    idByte (goodRead 240) = 240 := by
  refine ⟨rfl, ?_, ⟨[], [none, none], rfl, by simp⟩, ⟨[], [none, none], rfl, crcGood_goodRead.2.2.1, by simp⟩,
    ⟨[], [none, none], rfl, crcGood_goodRead.2.2.2.1, by simp⟩, by decide +kernel, by decide +kernel⟩
  intro b hb
  have h : b = badRead 5 := by simpa using hb
  exact h ▸ crcGood_goodRead.2.2.2.2

/-- A record memory whose care log holds that snapshot in slot 0 of its first page. -/
def careMemory : Memory := memProgram [] (252 * 2048) (careHeader 252 ++ snapshotBytes snapshotMax)

theorem careMemory_restored : restoredSnapshot careMemory = some (0, snapshotMax) ∧ restoredSnapshot [] = none := by
  decide +kernel

theorem test_witness_CareLogIsRestored :
    let s := { station with phase := .step2, mem := careMemory }
    s.phase = .step2 ∧ restoredSnapshot s.mem = some (0, snapshotMax) ∧ snapshotAt careMemory 0 0 snapshotMax ∧
      snapshotMax.capacity ≠ 0 ∧ restoredSnapshot { station with phase := .step2 }.mem = none := by
  refine ⟨rfl, careMemory_restored.1, ?_, by decide, careMemory_restored.2⟩
  unfold snapshotAt; decide +kernel

theorem test_witness_SnapshotReadsBack : snapshotFits snapshotMax ∧ parseSnapshot (snapshotBytes snapshotMax) = snapshotMax := by
  unfold snapshotFits; decide +kernel

theorem test_witness_RecordPageScansBack : Memory.wf [] ∧ pageErased [] 3 ∧
    { fullBuffer with final := some .power }.sets = sampleSet ⟨1000, 0⟩ 5 :: List.replicate 167 (sampleSet ⟨1000, 0⟩ 5) ∧
    (List.replicate 167 (sampleSet ⟨1000, 0⟩ 5)).length ≤ 167 ∧ { fullBuffer with idx := 503 }.idx ≤ 503 ∧
    ∀ c, some EndCause.power = some c → c ≠ .cut ∧ c ≠ .torn := by
  refine ⟨by decide, fun _ _ _ => rfl, by decide +kernel, by decide +kernel, by decide, ?_⟩
  intro c h; cases h; decide

/-- A record page of one set, an erased page, and a page that is torn. -/
theorem test_witness_ScanRebuildsTheDirectory :
    let m := memProgram (memProgram [] (3 * 2048)
      (recordPageBytes 7 5 1 { fullBuffer with sets := [sampleSet ⟨1000, 0⟩ 5] })) (4 * 2048) [0x52#8]
    { station with phase := .step3, mem := m }.phase = .step3 ∧ poolPage 3 ∧ poolPage 511 = False ∧
      scanPage m 3 = .valid ⟨3, 7, 0, ⟨1000, 0⟩, 1, 1, false, .normal, .loose⟩ ∧ scanPage m 4 = .torn ∧
      scanPage m 5 = .erased ∧ (PageKind.owned 7 0 true ≠ .care) := by
  refine ⟨rfl, by unfold poolPage; decide, ?_, by decide +kernel, by decide +kernel, by decide +kernel, by decide⟩
  exact eq_false (by unfold poolPage; decide)

/-- R146 to R148: record 7 of one page with no final flag, before a torn page, as the scan rebuilds it; that page and the second of
two pages of record 7's index 0 are counted torn, a page of a record without its first page is counted dropped, and the look at
the next free page asks for the ERASE of the torn one. -/
theorem test_scan_rebuilds :
    let page p id idx m := memProgram m (p * 2048)
      (recordPageBytes id 5 1 { fullBuffer with sets := [sampleSet ⟨1000, 0⟩ 5], idx := idx })
    let m := page 8 9 1 (page 6 7 0 (memProgram (page 3 7 0 []) (4 * 2048) [0x52#8]))
    let t := scanMemory { State.reset with mem := m }
    t.rm.dir = [⟨7, true, .loose, some 3, 1, ⟨1000, 0⟩, some ⟨1000, 0⟩, some .torn, none⟩] ∧
      [3, 4, 6, 8].map t.kindOf = [.owned 7 0 true, .freeDirty, .freeDirty, .freeDirty] ∧
      (t.rm.nextId, t.rm.allocPtr, t.rm.torn, t.rm.dropped, t.rm.eraseAhead) = (8, 4, 2, 1, some 4) := by
  decide +kernel

theorem test_witness_LineAndSamplerStart :
    let s := { station with phase := .step5 }
    { station with phase := .step4 }.phase = .step4 ∧ s.phase = .step5 ∧ usOf s.tb.clock < 1000260000 ∧
      1000260000 ≤ usOf s.tb.clock + s.period ∧ s.period ∣ 1000260000 ∧
      (nextOf (exec .samplerStart s)).map (·.tb.nextTick) = some (some ⟨1000, 260000⟩) ∧
      (nextOf (exec .lineEnable { station with phase := .step4 })).map (·.tb.interval) = some 8 := by decide +kernel

/-! ### Time -/

/-- The station with an accumulator and a steering correction. -/
def ticking (residual steerF : Int) : State :=
  { station with tb := { station.tb with residual := residual, steerF := steerF } }

/-- The sums at the two carries, and between them. -/
theorem test_witness_NominalMicrosecondCounts : (ticking 999999000 1000).awake = true ∧
    |(ticking 999999000 1000).tb.residual| ≤ 999999999 ∧
    (nextOf (exec .nominalMicrosecond (ticking 999999000 1000))).map (fun t => (t.tb, t.line.silence)) =
      some ({ (ticking 0 1000).tb with clock := ⟨1000, 250002⟩ }, 161) ∧
    (nextOf (exec .nominalMicrosecond (ticking (-999999000) (-1000)))).map (·.tb) = some (ticking 0 (-1000)).tb ∧
    (nextOf (exec .nominalMicrosecond (ticking 999998999 1000))).map (·.tb) =
      some { (ticking 999999999 1000).tb with clock := ⟨1000, 250001⟩ } := by
  decide +kernel

/-- The last microsecond of a second and of the count. -/
theorem test_local_time_counts : addUs ⟨10, 999998⟩ 1 = ⟨10, 999999⟩ ∧ addUs ⟨10, 999999⟩ 1 = ⟨11, 0⟩ ∧
    addUs ⟨4294967295, 999999⟩ 1 = ⟨0, 0⟩ ∧ diffUs (addUs ⟨10, 999999⟩ (-999999)) ⟨10, 999999⟩ = -999999 := by decide

/-- A step to a tick that was issued already, one to a tick that was not, and one while no tick is scheduled. -/
theorem test_witness_StepMovesLocalTime : 0 < station.period ∧ station.tb.nextTick.isSome = true ∧
    station.period ∣ 1000240000 ∧ (stepClock station (-10000)).tb.nextTick = some ⟨1000, 250000⟩ ∧
    (stepClock station (-20000)).tb.nextTick = some ⟨1000, 230000⟩ ∧
    (stepClock station (-19999)).tb.nextTick = some ⟨1000, 250000⟩ ∧
    (stepClock { station with tb := { station.tb with nextTick := none } } 5).tb.nextTick = none ∧
    (stepClock station (-800000000)).line.lastValid = some (-99750000) := by decide +kernel

/-- A seed from station 9. -/
def seed9 : Seed := ⟨9, 3, ⟨1000, 500000⟩, ⟨1000, 100000⟩⟩

/-- The station with its peer and a seed. -/
def seeded (state : TimeState) (grade : Nat) (seed : Option Seed) : State :=
  { withPeer state grade with tb := { (withPeer state grade).tb with seed := seed } }

theorem qualifies9 (state : TimeState) (grade : Nat) (seed : Option Seed) (e : PeerEntry) :
    peerQualifies (seeded state grade seed) e ↔ e = peer9 := by
  constructor
  · rintro ⟨h, -⟩; exact List.mem_singleton.mp h
  · rintro rfl
    exact ⟨List.mem_singleton.mpr rfl, show diffUs ⟨1000, 250000⟩ ⟨1000, 0⟩ < 3 * ((8 : Nat) : Int) * 1000000 by decide, rfl, rfl, by decide⟩

theorem bestGrade9 (state : TimeState) (grade : Nat) (seed : Option Seed) (g : Nat) :
    bestGrade (seeded state grade seed) g ↔ g = 3 := by
  unfold bestGrade
  simp only [qualifies9]
  constructor
  · rintro ⟨⟨e, rfl, rfl⟩, -⟩; rfl
  · rintro rfl; exact ⟨⟨peer9, rfl, rfl⟩, by rintro e rfl; decide⟩

theorem offsets9 (state : TimeState) (grade : Nat) (seed : Option Seed) :
    offsetsOf (seeded state grade seed) 3 [-13] := by
  refine ⟨[peer9], by decide, fun e => ?_, rfl⟩
  rw [qualifies9]
  constructor
  · intro h; rw [List.mem_singleton] at h; subst h; exact ⟨rfl, rfl⟩
  · rintro ⟨rfl, -⟩; exact List.mem_singleton.mpr rfl

theorem median_single (v : Int) : isLowerMedian [v] v := ⟨[v], List.Perm.refl _, by simp, by simp⟩

theorem median_with_own : isLowerMedian [0, -13] (-13) := ⟨[-13, 0], by decide, by decide, rfl⟩

/-- The least grade below the own, at it and above it, an UNSET station with a seed and without, and PPS. -/
theorem test_witness_SteeringInstantTakesItsPath :
    let s := seeded
    (∀ state grade seed, instantDue (s state grade seed) ⟨1000, 250000⟩ ∧ (s state grade seed).peers.entries.Nodup ∧
      bestGrade (s state grade seed) 3 ∧ offsetsOf (s state grade seed) 3 [-13]) ∧
    isLowerMedian [-13] (-13) ∧ isLowerMedian [0, -13] (-13) ∧ (∀ g, ¬bestGrade station g) ∧
    (s .following 4 none).tb.state ≠ .unset ∧ (s .following 4 none).tb.state ≠ .anchored ∧ (3 : Nat) < 4 ∧
    (s .unset 15 (some seed9)).tb.seed = some seed9 ∧ (s .unset 15 none).tb.seed = none ∧
    ppsPresent { station with
      profile := { station.profile with ppsEnable := true }
      tb := { station.tb with state := .anchored, grade := 0, ppsLast := some ⟨937, 0⟩ } } := by
  refine ⟨fun state grade seed => ⟨?_, by simp [seeded, withPeer], (bestGrade9 _ _ _ _).mpr rfl, offsets9 _ _ _⟩,
    median_single _, median_with_own, ?_, by decide, by decide, by decide, rfl, rfl, ?_⟩
  · exact ⟨rfl, rfl, show 0 ≤ diffUs ⟨1000, 250000⟩ ⟨1000, 250000⟩ by decide⟩
  · rintro g ⟨⟨e, ⟨h, -⟩, -⟩, -⟩; exact absurd h (List.not_mem_nil)
  · exact ⟨rfl, _, rfl, by decide +kernel⟩

/-- A restart gap of 604,800 s and one beyond, one of a time that lies ahead, and a restore that was not below freeze. -/
theorem test_restart_gap :
    let h below restored : Heater := { Heater.reset with exposure := 7, restoredFlag := below, restoredTime := some restored }
    let gap below restored := ((h below restored).reportExit ⟨700000, 500000⟩).exposure
    gap true ⟨95200, 500000⟩ = 604807 ∧ gap true ⟨0, 0⟩ = 604807 ∧ gap true ⟨699998, 500001⟩ = 8 ∧
      gap true ⟨700001, 0⟩ = 7 ∧ gap false ⟨699998, 0⟩ = 7 := by decide +kernel

/-- The three paths of a FOLLOWING station: the least grade 3 is below its own 4, at its own, and above it. -/
theorem test_steering_paths :
    (nextOf (exec .steeringInstant (withPeer .following 4))).map (fun t => (t.tb.state, t.tb.grade, t.tb.p)) =
      some (.following, 4, -406) ∧
    (nextOf (exec .steeringInstant (withPeer .following 3))).map (fun t => (t.tb.state, t.tb.grade, t.tb.p)) =
      some (.consensus, 3, -406) ∧
    (nextOf (exec .steeringInstant (withPeer .following 2))).map (fun t => (t.tb.state, t.tb.grade, t.tb.p)) =
      some (.holdover, 2, 0) := by decide +kernel

/-- Both kinds of station at the end of an instant. -/
theorem test_witness_InstantEndsInOrder : station.listenOnly = false ∧ { station with listenOnly := true }.listenOnly = true ∧
    (endInstant station).line.queue.length = 1 := by decide +kernel

/-- Grade 2 after 1,024 s and a drift of 5.0 °C. -/
theorem test_witness_HoldoverGradeGrows :
    let s := { station with
      tb := { station.tb with state := .holdover, grade := 2, holdover := some ⟨2, 100, ⟨0, 0⟩⟩, clock := ⟨1024, 0⟩ }
      sampler := { station.sampler with latest := { station.sampler.latest with encTemp := some 50 } } }
    s.tb.state = .holdover ∧ s.tb.holdover = some ⟨2, 100, ⟨0, 0⟩⟩ ∧ (1 : Nat) ≤ 2 ∧ 0 ≤ diffUs s.tb.clock ⟨0, 0⟩ ∧
      (reformGrade s).tb.grade = 4 := by decide +kernel

/-- The station at an edge, in a time state, with local time e past a second. -/
def atEdge (enable : Bool) (state : TimeState) (aligned : Bool) (run : Nat) (clock : ArrayTime) : State :=
  { station with
    profile := { station.profile with ppsEnable := enable }
    tb := { station.tb with
      state := state, grade := (if state = .unset then 15 else 3), ppsAligned := aligned, ppsRun := run, clock := clock } }

/-- Edges at both ends of the range of e, and at and beyond the window of 100 ms. -/
theorem test_witness_PpsEdgeActs :
    usOf ⟨1000, 499999⟩ = 1000 * 1000000 + 499999 ∧ usOf ⟨1000, 500000⟩ = 1001 * 1000000 + -500000 ∧
    (nextOf (exec .ppsEdge (atEdge false .following false 0 ⟨1000, 100000⟩))).map (·.tb.clock) = some ⟨1000, 100000⟩ ∧
    (nextOf (exec .ppsEdge (atEdge true .unset false 4 ⟨1000, 499999⟩))).map (·.tb.clock) = some ⟨1000, 0⟩ ∧
    (nextOf (exec .ppsEdge (atEdge true .following false 4 ⟨1000, 500000⟩))).map (fun t => (t.tb.clock, t.tb.state)) =
      some (⟨1001, 0⟩, .anchored) ∧
    (nextOf (exec .ppsEdge (atEdge true .unset false 0 ⟨1000, 400000⟩))).map (·.tb.ppsAligned) = some true ∧
    (nextOf (exec .ppsEdge (atEdge true .unset true 0 ⟨1000, 100000⟩))).map (·.tb.clock) = some ⟨1000, 0⟩ ∧
    (nextOf (exec .ppsEdge (atEdge true .following false 3 ⟨1000, 100000⟩))).map (·.tb.state) = some .anchored ∧
    (nextOf (exec .ppsEdge (atEdge true .following false 3 ⟨1000, 100001⟩))).map (fun t => (t.tb.state, t.tb.ppsRun)) =
      some (.following, 4) := by decide +kernel

/-- A peer that is sixteen intervals old, and one a microsecond younger: at an instant that is due, at one that is not, with
the younger alone, and with a seed whose step at the instant makes both young. -/
theorem test_witness_PeersExpire :
    let old := { peer9 with last := ⟨872, 250000⟩ }
    let young := { peer9 with id := 10, last := ⟨872, 250001⟩ }
    let s es seed := { station with peers := { station.peers with entries := es }, tb := { station.tb with seed := seed } }
    let r s := (nextOf (exec .peerExpiry s)).map (fun t => (t.peers.entries.map (·.id), t.tb.seed, t.tb.nextInstant))
    let live := { peer9 with last := ⟨1000, 0⟩ }
    let seed : Seed := ⟨9, 3, ⟨980, 0⟩, ⟨1000, 100000⟩⟩
    instantDue (s [old, young] (some seed9)) ⟨1000, 250000⟩ ∧
      16 * (old.interval : Int) * 1000000 ≤ diffUs (s [old] none).tb.clock old.last ∧
      diffUs (s [young] none).tb.clock young.last < 16 * (young.interval : Int) * 1000000 ∧
      r (s [old, young] (some seed9)) = some ([10], none, some ⟨1008, 250000⟩) ∧
      r { s [old, young] (some seed9) with tb := { (s [old, young] (some seed9)).tb with nextInstant := some ⟨1000, 250001⟩ } } =
        some ([9, 10], some seed9, some ⟨1000, 250001⟩) ∧
      r (s [young] (some seed9)) = some ([10], some seed9, some ⟨1000, 250000⟩) ∧
      r (s [live, { old with id := 10 }] (some seed)) = some ([9, 10], some seed, some ⟨1000, 250000⟩) ∧
      (nextOf (exec .steeringInstant (s [live, { old with id := 10 }] (some seed)))).map (fun t =>
        (t.peers.entries.map (·.id), t.tb.clock)) = some ([9, 10], ⟨980, 150000⟩) := by
  refine ⟨⟨rfl, rfl, by decide⟩, ?_, ?_, ?_, ?_, ?_, ?_, ?_⟩ <;> decide +kernel

theorem test_no_instant (n : ArrayTime) :
    ¬instantDue { station with tb := { station.tb with nextInstant := some ⟨1000, 250001⟩ } } n := by
  rintro ⟨-, h, hd⟩; cases h; exact absurd hd (by decide)

/-! ### Received frames -/

/-- A BEACON of station 9 from where the worked entry has it, of FOLLOWING at grade 3. -/
def beacon9 : BeaconPayload := ⟨⟨1000#32, 249987#24⟩, 2, 3, 1, 0, 1, 1200, 100, 200, 500, -120⟩

theorem beacon9_fits : beaconFits beacon9 .following := by unfold beaconFits; decide +kernel

/-- A full Peer Table: stations 10 to 33, the last at a last-beacon time of its own. -/
def fullPeers (last : ArrayTime) : List PeerEntry :=
  (List.range 24).map (fun k => { peer9 with id := 10 + k, last := if k = 23 then last else ⟨1000, 0⟩ })

/-- The station with peers. -/
def havingPeers (es : List PeerEntry) : State :=
  { station with peers := { station.peers with entries := es }, tb := { station.tb with seed := some seed9 } }

theorem heard9 (es : List PeerEntry) : heardFrom (havingPeers es) 9 :=
  ⟨⟨⟨1000, 250000⟩, rfl, rfl, rfl⟩, by decide, by decide, show some 5 ≠ some 9 by decide⟩

/-- The receiver of the station is taking a frame. -/
theorem station_hears : hears station ⟨1000, 250000⟩ := ⟨rfl, rfl, rfl⟩

theorem station_hears_from (x : Nat) (h1 : 1 ≤ x) (h2 : x ≤ 254) (h3 : some 5 ≠ some x) : heardFrom station x :=
  ⟨⟨_, station_hears⟩, h1, h2, h3⟩

/-- A sender with an entry, a sender with none while there is room, and a full table whose oldest entry is at the least
age at which it is not live. -/
theorem test_witness_BeaconIsStored :
    let full := havingPeers (fullPeers ⟨976, 250000⟩)
    let old := { peer9 with id := 33, last := ⟨976, 250000⟩ }
    peersInv (havingPeers [peer9]) ∧ peersInv station ∧ peersInv full ∧ header9.sender.toNat = 9 ∧
      heardFrom (havingPeers [peer9]) 9 ∧ hears (havingPeers [peer9]) ⟨1000, 250000⟩ ∧ beaconFits beacon9 .following ∧
      (peer9.linePos = beacon9.linePos.toNat ∧ peer9.east = beacon9.east.toInt ∧ peer9.north = beacon9.north.toInt) ∧
      (∀ e ∈ full.peers.entries, e.id ≠ 9) ∧ full.peers.entries.length = 24 ∧ oldestEntry full old ∧ ¬peerLive full old := by
  refine ⟨?_, ?_, ?_, by decide, heard9 _, ⟨rfl, rfl, rfl⟩, beacon9_fits, by decide +kernel, by decide +kernel, by decide +kernel, ?_, ?_⟩
  · unfold peersInv; decide +kernel
  · unfold peersInv; decide +kernel
  · unfold peersInv; decide +kernel
  · unfold oldestEntry; decide +kernel
  · unfold peerLive; decide +kernel

/-- What the stored BEACON leaves in the three cases. -/
theorem test_beacon_stored :
    (nextOf (exec (.beaconReceived header9 beacon9) (havingPeers [peer9]))).map
      (fun t => t.peers.entries.map (fun e => (e.id, e.offset, e.interval))) = some [(9, -7, 8)] ∧
    (nextOf (exec (.beaconReceived header9 beacon9) (havingPeers []))).map
      (fun t => (t.peers.entries.map (·.id), t.tb.seed)) =
      some ([9], some ⟨9, 3, ⟨1000, 249993⟩, ⟨1000, 250000⟩⟩) ∧
    (nextOf (exec (.beaconReceived header9 beacon9) (havingPeers (fullPeers ⟨976, 250000⟩)))).map
      (fun t => (t.peers.entries.length, t.peers.entries.map (·.id) |>.head?)) = some (24, some 9) := by decide +kernel

/-- A BEACON of a tool's identifier, one of grade 15 that is not UNSET, an entry in conflict, an entry elsewhere, and a
full table whose oldest entry is live by a microsecond. -/
theorem test_witness_BeaconIsNotStored :
    let full := havingPeers (fullPeers ⟨976, 250001⟩)
    let old := { peer9 with id := 33, last := ⟨976, 250001⟩ }
    heardFrom station 240 ∧ (∀ st, ¬beaconFits { beacon9 with grade := 15 } st) ∧ peersInv full ∧ beaconFits beacon9 .following ∧
      { peer9 with conflict := true }.conflict = true ∧
      ¬(({ peer9 with linePos := 1201 } : PeerEntry).linePos = beacon9.linePos.toNat) ∧
      (∀ e ∈ full.peers.entries, e.id ≠ 9) ∧ oldestEntry full old ∧ peerLive full old := by
  refine ⟨station_hears_from 240 (by decide) (by decide) (by decide), ?_, ?_, beacon9_fits, rfl, by decide +kernel, by decide +kernel, ?_, ?_⟩
  · intro st; unfold beaconFits; cases st <;> decide +kernel
  · unfold peersInv; decide +kernel
  · unfold oldestEntry; decide +kernel
  · unfold peerLive; decide +kernel

/-- What is counted in the four cases. -/
theorem test_beacon_not_stored :
    let r s b := (nextOf (exec (.beaconReceived header9 b) s)).map
      (fun t => (t.peers.refused, t.peers.conflicts, t.peers.full, t.peers.idConflict))
    r (havingPeers [peer9]) { beacon9 with grade := 15 } = some (1, 0, 0, false) ∧
      r (havingPeers [{ peer9 with conflict := true }]) beacon9 = some (0, 1, 0, false) ∧
      r (havingPeers [{ peer9 with linePos := 1201 }]) beacon9 = some (0, 1, 0, true) ∧
      r (havingPeers (fullPeers ⟨976, 250001⟩)) beacon9 = some (0, 0, 1, false) := by decide +kernel

/-- A PICK of station 9. -/
def pick9 (t : WireTime) : PickPayload := ⟨7, t, 0, 7, 10, 0, 100, 200⟩

/-- The station with a Pick List. -/
def havingPicks (es : List PickEntry) : State := { station with picks := { station.picks with entries := es } }

/-- Thirty-two picks a second and more old, the first assigned. -/
def fullPicks : List PickEntry :=
  (List.range 32).map (fun k => { pickAt 12 k ⟨998, k⟩ 0 0 with assigned := if k = 0 then some ⟨3, ⟨900, 0⟩⟩ else none })

/-- R78, R86: the station's own pick at its own place, and into a full list. -/
theorem test_own_pick :
    let k : StationPick := ⟨7, ⟨1000, 0⟩, 3, ⟨true, false, false⟩, 10, false, false⟩
    (pickLocal (havingPicks []) k).picks.entries = [ownPick station k] ∧ (ownPick station k).origin = 5 ∧
      (pickLocal (havingPicks fullPicks) k).picks.displaced = 1 := by decide +kernel

/-- The bounds of R86 (2 s ahead; the window of 1 s and the retention of 5 s behind), a duplicate, a free place and a
full list. -/
theorem test_witness_PickIsTested :
    let r es t := (nextOf (exec (.pickFrameReceived header9 (pick9 t)) (havingPicks es))).map
      (fun u => (u.picks.entries.length, u.picks.future, u.picks.stale, u.picks.duplicate, u.picks.displaced))
    heardFrom station 9 ∧ pickFits 9 (pick9 ⟨1002#32, 250000#24⟩) ∧
      ¬pickFits 9 { pick9 ⟨1002#32, 250000#24⟩ with mask := 0 } ∧ picksInv (havingPicks fullPicks) ∧
      r [] ⟨1002#32, 250000#24⟩ = some (1, 0, 0, 0, 0) ∧ r [] ⟨1002#32, 250001#24⟩ = some (0, 1, 0, 0, 0) ∧
      r [] ⟨994#32, 250000#24⟩ = some (1, 0, 0, 0, 0) ∧ r [] ⟨994#32, 249999#24⟩ = some (0, 0, 1, 0, 0) ∧
      r [pickAt 9 7 ⟨996, 0⟩ 0 0] ⟨1000#32, 0#24⟩ = some (1, 0, 0, 1, 0) ∧
      r fullPicks ⟨1000#32, 0#24⟩ = some (32, 0, 0, 0, 1) := by
  refine ⟨station_hears_from 9 (by decide) (by decide) (by decide), ?_, ?_, ?_, ?_, ?_, ?_, ?_, ?_, ?_⟩
  · unfold pickFits; decide +kernel
  · unfold pickFits; decide +kernel
  · unfold picksInv; decide +kernel
  all_goals decide +kernel

/-- A candidate set with two members of one place and half a second apart. -/
theorem test_later_members :
    let f := pickAt 9 1 ⟨1000, 0⟩ 0 0
    let m := pickAt 12 1 ⟨1000, 100000⟩ 0 1000
    let k := pickAt 13 1 ⟨1000, 600000⟩ 0 1000
    let s := havingPicks [f, m, k]
    (candidateSet s f).map (·.origin) = [9, 12, 13] ∧
      consistent s.profile m.time (m.east, m.north) k.time (k.east, k.north) = false ∧
      consistent s.profile k.time (k.east, k.north) m.time (m.east, m.north) = false := by decide +kernel

/-- Two picks of one place, a microsecond before the slack's end and at it; and the greatest products. -/
theorem test_witness_VelocityTest :
    let p := { Profile.initial with slack := 200000, vMin := 10000, window := 30 }
    consistent p ⟨0, 0⟩ (5, 5) ⟨0, 200999⟩ (5, 5) = true ∧ consistent p ⟨0, 0⟩ (5, 5) ⟨0, 201000⟩ (5, 5) = false ∧
      consistent p ⟨0, 0⟩ (-32767, -32767) ⟨9, 400000⟩ (32767, 32767) = true ∧
      consistent p ⟨0, 0⟩ (-32767, -32767) ⟨31, 0⟩ (32767, 32767) = false ∧ p.window ≤ 30 ∧ p.vMin ≤ 10000 := by
  decide +kernel

/-- Two able stations and the own one, of a profile with K 8 and K_floor 2. -/
theorem test_k_needed :
    let s := { havingPeers [peer9, { peer9 with id := 10 }, { peer9 with id := 11, running := false }] with
      profile := { Profile.initial with kVotes := 8 }, det := { Detector.reset with running := true } }
    s.profile.kFloor ≤ s.profile.kVotes ∧ kNeeded s = 3 ∧ kNeeded { s with peers := PeerTable.reset } = 2 := by
  decide +kernel

/-- The candidates of the first of four picks: one of each other origin. -/
theorem test_witness_CandidateSetTakesOnePerOrigin :
    let f := pickAt 9 1 ⟨1000, 0⟩ 0 0
    let s := havingPicks [f, pickAt 12 1 ⟨1000, 500⟩ 10 0, pickAt 12 2 ⟨1000, 600⟩ 10 0, pickAt 13 1 ⟨1000, 700⟩ 10 0]
    (candidateSet s f).map (fun m => (m.origin, m.seq)) = [(9, 1), (12, 1), (13, 1)] ∧
      freePick s (pickAt 13 1 ⟨1000, 700⟩ 10 0) := by unfold freePick; decide +kernel

/-- The station with picks and events. -/
def havingEvents (picks : List PickEntry) (es : List EventEntry) : State :=
  { station with
    picks := { station.picks with entries := picks }
    events := { station.events with
      entries := es, nextSerial := 20, alertLine := es.any (fun e => e.active && decide (2 ≤ e.declaredBy.length)) } }

/-- Eight ACTIVE events. -/
def fullEvents : List EventEntry :=
  (List.range 8).map (fun k => { event9 with serial := k, key := ⟨40 + k, ⟨800, 0⟩⟩ })

theorem havingEvents_inv : eventsInv (havingEvents [] [event9]) ∧ eventsInv (havingEvents [] fullEvents) ∧
    eventsInv (havingEvents [] []) := by
  refine ⟨?_, ?_, ?_⟩ <;> (unfold eventsInv alertAgrees; decide +kernel)

theorem profile_station : profileInv station := by
  dsimp only [profileInv]
  refine ⟨?_, ?_, ?_, ?_, ?_, ?_, ?_, ?_, ?_⟩ <;> decide +kernel

/-- An uplink station with record 7, whose first page is programmed, up to local time 995 s. -/
def uplinked (s : State) : State :=
  { s with
    profile := { s.profile with uplinkRole := true }
    rm := { station.rm with
      map := station.rm.map.set 3 (.owned 7 0 true), nextId := 8, dir := [{ record7 with lastSet := some ⟨995, 0⟩ }] } }

/-- What a command has handed on: frames of a priority, a report, and a hold, with the record that each event names. -/
def handedOn (t : State) : List Nat × Bool × List Hold × List MarkReq × List (Option Nat) :=
  (t.line.queue.map (·.frame.priority), t.events.sending.isSome, t.rm.dir.map (·.hold), t.rm.marks,
    t.events.entries.map (·.recordId))

/-- What the declaration of two picks hands on: the ALERT frame, the OPENED report of an uplink station, and the hold of the
record that their event's span overlaps; and the same of an attachment and of a received ALERT, which send no frame. -/
theorem test_handed_on :
    let n := pickAt 14 2 ⟨995, 500000⟩ 0 500
    handedOn (evaluatePick (uplinked (havingEvents [pickAt 13 1 ⟨995, 300000⟩ 0 0, n] [])) n) =
        ([2], true, [.pending], [⟨7, 3, 0⟩], [some 7]) ∧
      handedOn (evaluatePick (uplinked (havingEvents [n] [{ event9 with position := some (500, 500) }])) n) =
        ([], false, [.pending], [⟨7, 3, 0⟩], [some 7]) ∧
      handedOn ((nextOf (exec (.alertFrameReceived header9 ⟨40, ⟨996#32, 0#24⟩, 1, 2, 2, 11, [21, 22]⟩)
        (uplinked (havingEvents [] [])))).getD station) = ([], true, [.pending], [⟨7, 3, 0⟩], [some 7]) := by
  refine ⟨?_, ?_, ?_⟩ <;> decide +kernel

/-- A new entry that the one event takes; one that makes a set of two, the first with room and the second without; and one
that does neither. -/
theorem test_witness_NewEntryIsEvaluated :
    let n := pickAt 14 2 ⟨995, 500000⟩ 0 500
    let f := pickAt 13 1 ⟨995, 300000⟩ 0 0
    let event := { event9 with position := some (500, 500) }
    let a := havingEvents [n] [event]
    let d es := havingEvents [f, n] es
    eventsInv a ∧ picksInv a ∧ eventsInv (d []) ∧ eventsInv (d fullEvents) ∧ picksInv (d []) ∧ directoryInv a ∧
      directoryInv (d fullEvents) ∧ profileInv a ∧ profileInv (d fullEvents) ∧ n ∈ a.picks.entries ∧
      n.assigned = none ∧ attachable a n event ∧ (∀ x, attachable a n x → x = event) ∧ (∀ e, ¬attachable (d []) n e) ∧
      (∀ e, ¬attachable (d fullEvents) n e) ∧ kNeeded (d []) = 2 ∧ (candidateSet (d []) f).length = 2 ∧
      (candidateSet (d fullEvents) f).length = 2 ∧ (candidateSet (havingEvents [n] []) n).length = 1 ∧
      (evaluatePick a n).events.entries.map (·.votes) = [[9, 12, 14]] ∧
      (evaluatePick (d []) n).events.entries.map (fun e => (e.key.origin, e.votes)) = [(13, [13, 14])] ∧
      (evaluatePick (d fullEvents) n).events.declRefused = 1 ∧
      evaluatePick (havingEvents [n] []) n = havingEvents [n] [] := by
  refine ⟨?_, ?_, ?_, ?_, ?_, by unfold directoryInv; decide +kernel, by unfold directoryInv; decide +kernel, profile_station,
    profile_station, by decide +kernel, rfl, ?_, ?_, ?_, ?_, by decide +kernel⟩
  · unfold eventsInv alertAgrees; decide +kernel
  · unfold picksInv; decide +kernel
  · unfold eventsInv alertAgrees; decide +kernel
  · unfold eventsInv alertAgrees; decide +kernel
  · unfold picksInv; decide +kernel
  · exact ⟨List.mem_singleton.mpr rfl, rfl, rfl, by decide, by decide, (500, 500), .inl rfl, by decide +kernel⟩
  · rintro x ⟨h, -⟩; exact List.mem_singleton.mp h
  · rintro e ⟨h, -⟩; exact absurd h (List.not_mem_nil)
  · rintro e ⟨h, -, -, -, -, pos, hp, hc⟩
    have key : ∀ e ∈ fullEvents, firstPosition (havingEvents [pickAt 13 1 ⟨995, 300000⟩ 0 0, pickAt 14 2 ⟨995, 500000⟩ 0 500] fullEvents) e = none := by
      decide +kernel
    rw [positionGiven_iff] at hp
    have hp' := (key e h).symm.trans hp
    cases hp'

/-- R92: each source of the first-pick position before the next. -/
theorem test_first_position :
    let s (picks : List PickEntry) (own : Nat) (conflict : Bool) : State := { havingPicks picks with
      ownId := some own
      profile := { station.profile with east := 7, north := 8 }
      peers := { station.peers with entries := [{ peer9 with conflict := conflict }] } }
    let held := [pickAt 9 1 ⟨995, 1⟩ 1 2, pickAt 9 2 ⟨995, 0⟩ 3 4, pickAt 9 3 ⟨995, 0⟩ 5 6]
    firstPosition (s held 9 false) { event9 with position := some (0, 0) } = some (0, 0) ∧
      firstPosition (s held 9 false) event9 = some (3, 4) ∧ firstPosition (s [] 9 false) event9 = some (7, 8) ∧
      firstPosition (s [] 5 false) event9 = some (100, 200) ∧ firstPosition (s [] 5 true) event9 = none := by
  decide +kernel

/-- A declaration whose key is held (R106): by an ACTIVE entry, which it completes, and by an ENDED one, which it replaces;
and a full table in which the ENDED entry first in key order gives way (R107). -/
theorem test_declaration_places :
    let n := pickAt 14 2 ⟨995, 500000⟩ 0 500
    let f := pickAt 13 1 ⟨995, 300000⟩ 0 0
    let key : Key := ⟨13, ⟨995, 300000⟩⟩
    let held active := { event9 with key := key, active := active, votes := [13, 14], position := some (500, 500) }
    let ended := fullEvents.map (fun e => if e.serial = 3 ∨ e.serial = 5 then { e with active := false } else e)
    let r es := (evaluatePick (havingEvents [f, n] es) n).events.entries.map (fun e =>
      (e.serial, e.key.origin, e.active, e.declaredBy, e.votes))
    r [held true] = [(3, 13, true, [9, 12, 5], [13, 14])] ∧ r [held false] = [(20, 13, true, [5], [13, 14])] ∧
      (r ended).map (·.1) = [0, 1, 2, 4, 5, 6, 7, 20] := by refine ⟨?_, ?_, ?_⟩ <;> decide +kernel

theorem test_witness_places :
    let ended := fullEvents.map (fun e => if e.serial = 3 ∨ e.serial = 5 then { e with active := false } else e)
    let key : Key := ⟨13, ⟨995, 300000⟩⟩
    noPlace (havingEvents [] fullEvents) key ∧ placeFor (havingEvents [] []) key ∧
      (∃ x, givesPlace (havingEvents [] ended) key x ∧ x.serial = 3) ∧ placeFor (havingEvents [] ended) key ∧
      givesPlace (havingEvents [] [{ event9 with key := key, active := false }]) key
        { event9 with key := key, active := false } := by
  have h : givesPlace (havingEvents [] (fullEvents.map (fun e =>
      if e.serial = 3 ∨ e.serial = 5 then { e with active := false } else e))) ⟨13, ⟨995, 300000⟩⟩
      { event9 with serial := 3, key := ⟨43, ⟨800, 0⟩⟩, active := false } := by
    refine ⟨by decide +kernel, rfl, .inr ⟨by decide +kernel, by decide +kernel, ?_⟩⟩
    unfold keyAhead; decide +kernel
  refine ⟨?_, .inr ⟨by decide +kernel, by decide⟩, ⟨_, h, rfl⟩, .inl ⟨_, h⟩, ?_⟩
  · unfold noPlace; decide +kernel
  · exact ⟨List.mem_singleton.mpr rfl, rfl, .inl rfl⟩

/-- An ALERT of station 9 of a key. -/
def alert9 (origin : Byte) (t : WireTime) : AlertPayload := ⟨origin, t, 1, 2, 2, 11, [21, 22]⟩

theorem alert9_fits : alertFits 9 (alert9 40 ⟨800#32, 0#24⟩) ∧ alertFits 9 (alert9 9 ⟨995#32, 0#24⟩) ∧
    ¬alertFits 9 { alert9 40 ⟨800#32, 0#24⟩ with count := 3 } := by unfold alertFits; decide +kernel

/-- In listen-only, a malformed one, one a microsecond outside the window with room and with none. -/
theorem test_witness_AlertMakesEntry :
    let a := alert9 40 ⟨801#32, 1#24⟩
    heardFrom (havingEvents [] []) 9 ∧ alertFits 9 a ∧ (∀ e, ¬alertCandidate (havingEvents [] fullEvents) a e) ∧
      eventsInv (havingEvents [] fullEvents) ∧ directoryInv (havingEvents [] fullEvents) ∧
      (∀ e ∈ fullEvents, e.active = true) ∧ fullEvents.length = 8 ∧
      (nextOf (exec (.alertFrameReceived header9 a) (havingEvents [] fullEvents))).map (·.events.alertRefused) = some 1 ∧
      (nextOf (exec (.alertFrameReceived header9 a) (havingEvents [] (fullEvents.take 7)))).map
        (fun t => (t.events.entries.length, t.events.alertLine)) = some (8, true) := by
  refine ⟨⟨⟨_, station_hears⟩, by decide, by decide, by decide⟩, by unfold alertFits; decide +kernel, ?_, havingEvents_inv.2.1,
    by unfold directoryInv; decide +kernel, by decide +kernel, by decide, by decide +kernel, by decide +kernel⟩
  rintro e ⟨h, hd⟩
  have key : ∀ e ∈ fullEvents, ¬alertDistance (alert9 40 ⟨801#32, 1#24⟩) e ≤ ((havingEvents [] fullEvents).profile.window : Int) * 1000000 := by
    unfold alertDistance; decide +kernel
  exact key e h hd

theorem match9 (e : EventEntry) (h : e.key = ⟨9, ⟨995, 0⟩⟩) :
    alertMatch (havingEvents [] [e]) (alert9 9 ⟨996#32, 0#24⟩) e := by
  refine ⟨⟨List.mem_singleton.mpr rfl, ?_⟩, ?_⟩
  · unfold alertDistance; rw [h]; show |diffUs ⟨995, 0⟩ ⟨996, 0⟩| ≤ ((1 : Nat) : Int) * 1000000; decide +kernel
  · rintro x ⟨hx, -⟩ hne; exact absurd (List.mem_singleton.mp hx) hne

/-- At the edge of the window: a repeat, a first ALERT of its sender, and an ENDED entry. -/
theorem test_witness_AlertIsMerged :
    let a := alert9 9 ⟨996#32, 0#24⟩
    let e := { event9 with declaredBy := [12] }
    alertFits 9 a ∧ directoryInv (havingEvents [] [event9]) ∧ eventsInv (havingEvents [] [event9]) ∧
      alertMatch (havingEvents [] [event9]) a event9 ∧ 9 ∈ event9.declaredBy ∧
      alertMatch (havingEvents [] [e]) a e ∧ 9 ∉ e.declaredBy ∧
      alertMatch (havingEvents [] [{ e with active := false }]) a { e with active := false } ∧
      (nextOf (exec (.alertFrameReceived header9 a) (havingEvents [] [event9]))).map
        (fun t => t.events.entries.map (fun e => (e.votes, e.lastActivity))) = some [([9, 12], ⟨1000, 250000⟩)] ∧
      (nextOf (exec (.alertFrameReceived header9 a) (havingEvents [] [e]))).map
        (fun t => (t.events.alertLine, t.events.entries.map (fun e => (e.votes, e.declaredBy)))) =
        some (true, [([9, 12, 21, 22], [12, 9])]) ∧
      (nextOf (exec (.alertFrameReceived header9 a) (havingEvents [] [{ e with active := false }]))).map
        (fun t => (t.events.alertLate, t.events.alertLine)) = some (1, false) :=
  ⟨by unfold alertFits; decide +kernel, by unfold directoryInv; decide +kernel, havingEvents_inv.1, match9 _ rfl, by decide,
    match9 _ rfl, by decide, match9 _ rfl, by decide +kernel⟩

/-- R111: of the new origins the first in the order carried joins, and a vote set is full at 24. -/
theorem test_joined : joined ((List.range 23).map (· + 30)) [40, 7, 8] ((List.range 23).map (· + 30) ++ [7]) ∧
    joined [9, 12] [12, 21, 9, 22] [9, 12, 21, 22] := by
  unfold joined; decide +kernel

/-- A frame with a good check: an ANSWER of station 9 with a payload of three bytes. -/
def heardGood : HeardBytes :=
  let body : List Byte := [5, 9, 1, 3, 240, 1, 0]
  ⟨body ++ crcBytes body, false, false⟩

theorem heardGood_good : frameGood heardGood :=
  ⟨rfl, rfl, 5, 9, 1, 3, [240, 1, 0], crcBytes [5, 9, 1, 3, 240, 1, 0], [], rfl, rfl, by decide +kernel, by decide,
    by decide +kernel⟩

/-- A deaf receiver, a good and a cut frame, the own identifier, and senders and kinds at the ends of their ranges. -/
theorem test_witness_FramesAreDiscarded :
    let k kind sender := (nextOf (exec (.frameNotHandedOn kind sender 5) station)).map
      (fun t => (t.line.badSender, t.line.unknownKind, t.line.lastValid))
    let bad c := (nextOf (exec c station)).map (fun t => (t.line.badFrame, t.line.rx))
    (∀ r, ¬hears State.reset r) ∧ hears station ⟨1000, 250000⟩ ∧ frameGood heardGood ∧
      ¬frameGood { heardGood with cutOff := true } ∧ station.ownId = some (⟨5, 1⟩ : FrameHeader).sender.toNat ∧
      (nextOf (exec (.beaconReceived ⟨5, 1⟩ beacon9) station)).map (·.peers.ownIdConflict) = some true ∧
      bad (.badFrame heardGood) = some (0, .taking ⟨1000, 250000⟩) ∧
      bad (.badFrame { heardGood with cutOff := true }) = some (1, .discarded) ∧
      bad (.alertFrameReceived header9 { alert9 40 ⟨800#32, 0#24⟩ with origins := [] }) = some (1, .discarded) ∧
      bad (.alertFrameReceived header9 { alert9 40 ⟨800#32, 0#24⟩ with origins := List.replicate 17 21 }) =
        some (1, .discarded) ∧
      k 3 0 = some (1, 0, some 700250000) ∧ k 3 255 = some (1, 0, some 700250000) ∧
      k 4 239 = some (1, 0, some 700250000) ∧ k 0 1 = some (0, 1, some 700250000) ∧
      k 6 254 = some (0, 1, some 700250000) ∧ k 5 254 = some (0, 0, some 1000250000) ∧
      k 4 5 = some (1, 0, some 1000250000) ∧ k 6 5 = some (0, 1, some 1000250000) :=
  ⟨fun _ h => absurd h.2.2 (by simp [State.reset, Line.reset]), station_hears, heardGood_good,
    fun h => absurd h.2.1 (by decide), by decide, by decide +kernel, by decide +kernel, by decide +kernel,
    by decide +kernel, by decide +kernel, ⟨by decide +kernel, by decide +kernel, by decide +kernel, by decide +kernel,
      by decide +kernel, by decide +kernel, by decide +kernel, by decide +kernel⟩⟩

/-! ### The line -/

/-- An ANSWER in the transmit queue. -/
def answer (seq attempts : Nat) : QFrame := ⟨.answer ⟨240, 1, 0, []⟩, seq, attempts⟩

/-- An ALERT of event 3. -/
def alertFrame : Frame := .alert ⟨3, ⟨9, ⟨995, 0⟩⟩, 1, 3, 10, [9, 12]⟩

/-- A line with a queue and an access state. -/
def lineOf (queue : List QFrame) (access : Access) : Line := { station.line with queue := queue, access := access }

/-- What became of an offer, and the queue's length after it. -/
def offered (l : Line) (f : Frame) : Offer × Nat := ((l.offer f none).2, (l.offer f none).1.queue.length)

/-- A BEACON for one in transmission, for one that waits and for none; a full queue for a frame of its own priority and
for one of higher. -/
theorem test_witness_QueueTakesFrames :
    let eight := (List.range 8).map (fun k => answer k 0)
    ((lineOf [beacon5] (.transmitting 0 none)).access = .idle ↔ (lineOf [beacon5] (.transmitting 0 none)).queue = []) ∧
      ((lineOf [] .idle).access = .idle ↔ (lineOf [] .idle).queue = []) ∧
      offered (lineOf [beacon5] (.transmitting 0 none)) beacon5.frame = (.skipped, 1) ∧
      offered (lineOf [beacon5, answer 1 0] .waiting) beacon5.frame = (.accepted, 2) ∧
      offered (lineOf (answer 1 0 :: [beacon5]) (.transmitting 0 none)) beacon5.frame = (.accepted, 2) ∧
      offered (lineOf [] .idle) beacon5.frame = (.accepted, 1) ∧
      offered (lineOf (eight.take 7) .waiting) beacon5.frame = (.accepted, 8) ∧
      offered (lineOf eight .waiting) beacon5.frame = (.refused, 8) ∧
      offered (lineOf eight .waiting) alertFrame = (.accepted, 8) ∧
      ((lineOf eight (.transmitting 0 none)).offer alertFrame none).1.queue.map (fun q => (q.seq, q.frame.priority)) =
        [(0, 0), (0, 2), (2, 0), (3, 0), (4, 0), (5, 0), (6, 0), (7, 0)] := by decide +kernel

/-- R189, R191: a stopped PICK stays before an ALERT that joined meanwhile; a later ANSWER goes behind both, and a later
ALERT behind the ALERT. -/
theorem test_stopped_frame_stays :
    let pick : QFrame := ⟨.pick ⟨1, ⟨0, 0⟩, 3, ⟨true, false, false⟩, 3, false, false⟩ 0 0, 1, 1⟩
    let l := lineOf [pick, ⟨alertFrame, 2, 0⟩] .waiting
    let order f := (l.offer f none).1.queue.map (fun q => (q.frame.priority, q.attempts))
    order (answer 0 0).frame = [(1, 1), (2, 0), (0, 0)] ∧ order alertFrame = [(1, 1), (2, 0), (2, 0)] := by
  decide +kernel

/-- The station with a queue. -/
def havingQueue (queue : List QFrame) (access : Access) : State := { station with line := lineOf queue access }

/-- The station with a queue, its line silent for some nominal microseconds. -/
def silentFor (us : Nat) (access : Access) : State :=
  { station with line := { lineOf [beacon5] access with silence := us, rx := .hunting } }

/-- A frame in the gap and at its end, in its back-off and at its end, and both under a busy line; and a delimiter heard
while hunting, after a discarded frame, and after that once the line is idle. -/
theorem test_witness_AccessProceeds :
    let s := silentFor
    let a c s := (nextOf (exec c s)).map (·.line.access)
    let rx d s := (nextOf (exec (.lineTurnsBusy d) s)).map (·.line.rx)
    let discarded us := { s us .waiting with line := { (s us .waiting).line with rx := .discarded } }
    (s 0 .waiting).awake = true ∧ (s 0 .waiting).line.queue = [beacon5] ∧ a .idleGapMet (s 735 .waiting) = some .waiting ∧
      a .idleGapMet (s 736 .waiting) ≠ some .waiting ∧ a .backoffExpiry (s 0 (.backoff 1)) = some (.backoff 1) ∧
      a .backoffExpiry (s 0 (.backoff 0)) = some (.transmitting 0 none) ∧
      a (.lineTurnsBusy false) (s 736 (.backoff 3)) = some .waiting ∧
      rx true (s 736 .waiting) = some (.taking ⟨1000, 250000⟩) ∧ rx false (s 736 .waiting) = some .hunting ∧
      rx true (discarded 159) = some .discarded ∧ rx true (discarded 160) = some (.taking ⟨1000, 250000⟩) ∧
      (s 0 (.backoff 0)).line.rx ≠ .deaf ∧ (s 0 .waiting).line.sending = false ∧
      (lineTick (s 7 .waiting)).line.silence = 8 ∧ (lineTick (s 736 (.transmitting 4960 none))).line.silence = 736 ∧
      frameUs beacon5 = 4960 := by
  refine ⟨?_, ?_, ?_, ?_, ?_, ?_, ?_, ?_, ?_, ?_, ?_, ?_, ?_, ?_, ?_, ?_⟩ <;> decide +kernel

/-- R12, R187: the stamp of a BEACON is local time 320 µs after its first start bit, as that instant finds it; R186: the first
bit of the preamble is dominant and its second recessive. -/
theorem test_beacon_stamp :
    (nextOf (exec .nominalMicrosecond sending)).map (·.line.access) =
        some (.transmitting 320 (some ⟨1000, 250001⟩)) ∧
      (nextOf (exec .nominalMicrosecond { sending with line := { sending.line with access := .transmitting 318 none } })).map
        (·.line.access) = some (.transmitting 319 none) ∧
      { sending with line := { sending.line with access := .transmitting 15 none } }.pins.line = some false ∧
      { sending with line := { sending.line with access := .transmitting 16 none } }.pins.line = some true := by
  decide +kernel

/-- R186: the two bytes 0x55 and 0x03, least significant bit first. -/
theorem test_serial_form : serialLevels [0x55#8, 0x03#8] =
    [false, true, false, true, false, true, false, true, false, true,
      false, true, true, false, false, false, false, false, false, true] := by decide +kernel

/-- A frame sent, an ALERT's, and the attempts on both sides of the two limits. -/
theorem test_witness_TransmissionEnds :
    let s q e := { station with
      line := { lineOf [q, ⟨alertFrame, 2, 0⟩] (.transmitting e none) with driven := some (frameLevels 5 q none) }
      events := { EventTable.reset with entries := [{ event9 with repeatsLeft := 2 }], nextSerial := 4 } }
    let r c q e := (nextOf (exec c (s q e))).map (fun t =>
      (t.line.queue.map (fun q => (q.seq, q.attempts)), t.line.dropped, t.events.entries.map (·.repeatDue)))
    (s (answer 1 0) 16).awake = true ∧ frameUs (answer 1 0) = 1920 ∧ (s (answer 1 0) 15).pins.line = some false ∧
      (s (answer 1 0) 16).pins.line = some true ∧
      r .frameSent (answer 1 0) 1919 = some ([(1, 0), (2, 0)], 0, [none]) ∧
      r .frameSent (answer 1 0) 1920 = some ([(2, 0)], 0, [none]) ∧
      r .frameSent ⟨alertFrame, 1, 0⟩ 3680 = some ([(2, 0)], 0, [some ⟨1002, 250000⟩]) ∧
      r .mismatch (answer 1 10) 15 = some ([(1, 10), (2, 0)], 0, [none]) ∧
      r .mismatch (answer 1 10) 16 = some ([(1, 11), (2, 0)], 0, [none]) ∧
      r .mismatch (answer 1 11) 16 = some ([(2, 0)], 1, [none]) ∧
      r .mismatch ⟨alertFrame, 1, 14⟩ 16 = some ([(1, 15), (2, 0)], 0, [none]) ∧
      r .mismatch ⟨alertFrame, 1, 15⟩ 16 = some ([(2, 0)], 1, [some ⟨1002, 250000⟩]) := by
  refine ⟨?_, ?_, ?_, ?_, ?_, ?_, ?_, ?_, ?_, ?_, ?_, ?_⟩ <;> decide +kernel

/-- 300 s after the last valid frame and a microsecond less, in FOLLOWING and in UNSET. -/
theorem test_witness_SectionResets :
    let s state v := { withPeer state 4 with line := { station.line with lastValid := some v } }
    let r state v := (nextOf (exec .sectionReset (s state v))).map (fun t =>
      (t.line.quiet, t.peers.entries.length, t.tb.state))
    (s .following 700250000).awake = true ∧ (s .following 700250000).line.quiet = false ∧
      r .following 700250000 = some (true, 0, .holdover) ∧ r .following 700250001 = some (false, 1, .following) ∧
      r .unset 700250000 = some (true, 0, .unset) ∧
      (let marked := { s .following 0 with line := { (s .following 0).line with quiet := true } }
       nextOf (exec .sectionReset marked) = some marked) := by decide +kernel

/-- R196: the time of the last valid frame moves with a step across 0, and the silence is kept. -/
theorem test_silence_across_zero :
    let s := { station with
      tb := { station.tb with clock := ⟨0, 100000⟩ }, line := { station.line with lastValid := some 100000 } }
    (stepClock s (-400000)).tb.clock = ⟨4294967295, 700000⟩ ∧
      usOf (stepClock s (-400000)).tb.clock - ((stepClock s (-400000)).line.lastValid.getD 0) = 0 := by decide +kernel

/-! ### Sampling and detection -/

/-- The inputs of a tick, with an overrange result and the extreme values. -/
def inputs : TickInput := ⟨⟨0, some .pos⟩, raw (-8388608), raw 8388607, 4095⟩

/-- A tick that is due, in a slot with a bad code: with sets, at level 3, and at level 2. -/
theorem test_witness_SampleTickConverts :
    let s shed := { station with
      bat := { station.bat with shed := shed }, sampler := { station.sampler with slot := .batTemp } }
    let r shed := (nextOf (exec (.sampleTick inputs) (s shed))).map (fun t =>
      (t.sampler.ring.map (fun x => (x.words.z.sample, x.words.n.sample, x.words.z.settling)), t.sampler.settling,
        t.sampler.batterySensor))
    (s 0).awake = true ∧ (s 0).tb.nextTick = some ⟨1000, 250000⟩ ∧ 0 ≤ diffUs (s 0).tb.clock ⟨1000, 250000⟩ ∧
      (nextOf (exec (.sampleTick inputs) (s 0))).map (·.tb.nextTick) = some (some ⟨1000, 260000⟩) ∧
      (nextOf (exec (.sampleTick inputs) (s 0))).map (fun t =>
        (t.sampler.clips, t.sampler.badBattery, t.sampler.badEnclosure)) = some (⟨1, 1, 0⟩, 1, 0) ∧
      (nextOf (exec (.sampleTick inputs) (s 2))).map (·.sampler.clips) = some ⟨1, 0, 0⟩ ∧
      r 0 = some ([(8388607, -8388607, true)], ⟨63, 63, 63⟩, true) ∧ r 3 = some ([], ⟨0, 0, 0⟩, true) ∧
      r 2 = some ([(8388607, 0, true)], ⟨63, 0, 0⟩, true) := by
  refine ⟨?_, ?_, ?_, ?_, ?_, ?_, ?_, ?_, ?_⟩ <;> decide +kernel

/-- A result at each of its readers: a shed level that rises at a voltage below v_low, a charge of 1 s at 2,000 mA, the
permit at the ends of its band, tc of R4's worked case, and the heater current 1 s after a turn-on and a turn-off. -/
theorem test_witness_HousekeepingResultsAct :
    let t : ArrayTime := ⟨1000, 250000⟩
    let volt v := { station with sampler := { station.sampler with latest := { station.sampler.latest with batVolt := some v } } }
    let charged := { station with bat := { station.bat with lastCurrent := some ⟨999, 250000⟩ } }
    let table := { station with profile := { station.profile with tempB := 400, tempC := 0, tempD := -300 } }
    let hot on since := { station with heat := { Heater.reset with on := on, openCheck := on, since := since } }
    let h s i := ((hkReaders s .heatCurr t (some i)).heat.openSince.isSome, (hkReaders s .heatCurr t (some i)).heat.stuck)
    (hkReaders (volt 11999) .batVolt t (some 11999)).bat.shed = 2 ∧
      (hkReaders (volt 12000) .batVolt t (some 12000)).bat.shed = 0 ∧
      (hkReaders charged .batCurr t (some 2000)).bat.q = 180000000 + 20 * station.profile.chargeEff ∧
      (hkReaders station .batTemp t (some (station.profile.chargeMinT + 10))).bat.permit = true ∧
      (hkReaders station .batTemp t (some (station.profile.chargeMinT + 9))).bat.permit = false ∧
      (hkReaders table .encTemp t (some (-135))).tb.tc = -270 ∧ (hkReaders table .encTemp t (some 75)).tb.tc = 112 ∧
      h (hot true ⟨999, 250000⟩) 999 = (true, false) ∧ h (hot true ⟨999, 250000⟩) 1000 = (false, false) ∧
      h (hot true ⟨999, 250001⟩) 999 = (false, false) ∧ h (hot false ⟨999, 250000⟩) 251 = (false, true) ∧
      h (hot false ⟨999, 250000⟩) 250 = (false, false) ∧ offsetAt table.profile (-135) 270 := by
  refine ⟨?_, ?_, ?_, ?_, ?_, ?_, ?_, ?_, ?_, ?_, ?_, ?_, ?_⟩
  all_goals (try decide +kernel)
  unfold offsetAt; decide +kernel

theorem test_witness_entryHolds :
    let s := { station with sampler := { station.sampler with latest := { station.sampler.latest with batVolt := some 11999 } } }
    s.bat.shed < 2 ∧ entryHolds s 2 ∧ ¬entryHolds s 3 := by
  refine ⟨by decide, .inr (.inl ⟨rfl, .inr ⟨11999, rfl, by decide +kernel⟩⟩), ?_⟩
  rintro (⟨-, h | ⟨v, hv, h⟩⟩ | ⟨h, -⟩ | ⟨h, -⟩)
  · exact absurd h (by decide +kernel)
  · cases hv; exact absurd h (by decide +kernel)
  · cases h
  · cases h

/-- Evaluations of a cold pack: HEAT off with min_off run and not, held by the quiet, its deferral begun and at its end, and
freeze-protect; HEAT on at the cutout, with no reading, at the turn-off threshold, and a stopwatch of 10 s of a gap of 11. -/
theorem test_witness_HeaterIsEvaluated :
    let t : ArrayTime := ⟨1000, 250000⟩
    let s (h : Heater) (es : List EventEntry) : State :=
      { station with heat := h, events := (havingEvents [] es).events }
    let off (since : ArrayTime) : Heater := { Heater.reset with since := since }
    let on : Heater := { Heater.reset with on := true, since := ⟨0, 0⟩ }
    let r (s : State) (x : Option Int) := ((heaterEvaluate s t x).heat.on, (heaterEvaluate s t x).heat.lastForced, (heaterEvaluate s t x).heat.deferral,
      (heaterEvaluate s t x).heat.expired)
    r (s (off ⟨880, 250000⟩) []) (some (-161)) = (true, none, none, 0) ∧
      r (s (off ⟨880, 250001⟩) []) (some (-161)) = (false, none, none, 0) ∧
      r (s (off ⟨0, 0⟩) []) (some (-160)) = (false, none, none, 0) ∧
      r (s (off ⟨0, 0⟩) [event9]) (some (-161)) = (false, none, some t, 0) ∧
      r (s { off ⟨0, 0⟩ with deferral := some ⟨880, 250000⟩ } [event9]) (some (-161)) = (true, none, none, 1) ∧
      r (s (off ⟨0, 0⟩) [event9]) (some (-251)) = (true, none, none, 0) ∧
      r (s on []) (some station.profile.cutoutT) = (false, some .cutout, none, 0) ∧
      r (s on []) none = (false, some .sensor, none, 0) ∧ r (s on []) (some (-140)) = (false, none, none, 0) ∧
      r (s on []) (some (-141)) = (true, none, none, 0) ∧
      (heaterEvaluate (s { off ⟨0, 0⟩ with accumulating := true, lastTemp := some ⟨989, 250000⟩, rem := 999 } []) t none).heat.exposure =
        10 := by
  refine ⟨?_, ?_, ?_, ?_, ?_, ?_, ?_, ?_, ?_, ?_, ?_⟩ <;> decide +kernel

/-- The premises of the same: the state after the first three steps, and what is wanted there. -/
theorem test_witness_heater_premises :
    let s : State := { station with heat := { Heater.reset with since := ⟨0, 0⟩ } }
    let t : ArrayTime := ⟨1000, 250000⟩
    let u : State := { s with heat := { s.heat with lastTemp := some t, resetDelay := ⟨some t, false⟩ } }
    s.bat.shed ≤ 3 ∧ heaterPrepared s u t (some (-161)) ∧ wantedIs u (-161) true ∧ leastTimeOver u t := by
  intro s t u
  refine ⟨by decide, ?_, ?_, by unfold leastTimeOver; decide +kernel⟩
  · refine ⟨0, 0, ⟨some t, false⟩, none, false, fun _ => rfl, ?_, rfl, ?_, by decide, fun _ => rfl, ?_, by decide +kernel⟩
    · intro v h; cases h
    · exact ⟨fun h => absurd ⟨-161, rfl, by decide +kernel⟩ h, fun _ => ⟨rfl, by decide +kernel⟩⟩
    · intro o h; cases h
  · refine ⟨-160, -140, false, ⟨?_, ?_, ?_, ?_⟩, by decide +kernel⟩
    · rintro - ⟨v, h, -⟩; cases h
    · intro _ _; exact ⟨by decide, by decide, rfl⟩
    · intro h; exact absurd h (by decide)
    · intro h; exact absurd h (by decide)

/-- A run that began at local time 1,000.2 s. -/
def run : RunMarks := ⟨⟨1000, 200000⟩, 3, 1000, false, false⟩

/-- A channel of a state, loud and with a run. -/
def loud (state : ChanState) (onRun offRun : Nat) : ChanDet :=
  ⟨state, some ⟨0, 2560000, 256⟩, 0, onRun, offRun, some run, none⟩

/-- A quiet channel. -/
def calm (state : ChanState) (warmup : Nat) : ChanDet := ⟨state, some ⟨0, 0, 256⟩, warmup, 0, 0, none, none⟩

/-- The station with its Z channel in a state and the others quiet. -/
def detecting (z : ChanDet) (prev : Option ArrayTime) : State :=
  { station with det := { Detector.reset with chan := ⟨z, calm .quiet 0, calm .quiet 0⟩, prevPick := prev } }

/-- A set whose Z sample is great, in a guard interval or not. -/
def loudSet (guard : Bool) : SampleSet :=
  ⟨⟨1000, 250000⟩, ⟨{ word 20000 with guard := guard }, word 0, word 0⟩⟩

/-- A trigger that begins: in a guard interval, within the repick gap of 1 s, at it, and none. -/
theorem test_witness_DetectorTakesSet :
    let r s x := ((detectSet s x).det.trigger, (detectSet s x).det.guardSup, (detectSet s x).det.repickSup,
      (detectSet s x).det.formed)
    station.profile.chanVote ≤ 3 ∧ r (detecting (loud .triggered 1 0) none) (loudSet true) = (true, 1, 0, 0) ∧
      r (detecting (loud .triggered 1 0) (some ⟨999, 200001⟩)) (loudSet false) = (true, 0, 1, 0) ∧
      r (detecting (loud .triggered 1 0) (some ⟨999, 200000⟩)) (loudSet false) = (true, 0, 0, 1) ∧
      r (detecting (calm .quiet 0) none) (sampleSet ⟨1000, 250000⟩ 0) = (false, 0, 0, 0) ∧
      (votingRuns (detectSet (detecting (loud .triggered 1 0) none) (loudSet true)).det.chan).map (·.onset) =
        [⟨1000, 200000⟩] := by decide +kernel

/-- R77: of two channels in trigger with one onset the pick takes the grade of the first in the order Z, N, E. -/
theorem test_equal_onsets :
    let s : State := { station with det := { Detector.reset with chan :=
      ⟨calm .quiet 0, { loud .triggered 1 0 with run := some { run with grade := 7 } }, loud .triggered 1 0⟩ } }
    (detectSet s (loudSet false)).picks.entries.map (fun e => (e.time, e.grade)) = [(⟨1000, 200000⟩, 7)] := by
  decide +kernel

/-- A channel's state, run counts and warmup count after a word at 1,000.25 s, and the end and duration of its last trigger. -/
def afterWord (d : ChanDet) (p : Profile) (w : SetWord) : ChanState × (Nat × Nat × Nat) × Option (TriggerEnd × Nat) × Bool :=
  let r := d.step p 4 ⟨1000, 250000⟩ w
  (r.1.state, (r.1.onRun, r.1.offRun, r.1.warmup), r.1.last.map (fun l => (l.ended, l.duration)), r.2)

/-- R62 to R69: each state at a word that moves it and at one that does not, with on_hold and off_hold 2 and with 1; the greatest
word is an on set, and the word 0 an off set of a run with an l of 10,000. -/
theorem test_witness_ChannelsStepAndSwitch :
    let p := { Profile.initial with onHold := 2, offHold := 2 }
    let q := Profile.initial
    let low (state : ChanState) (off : Nat) : ChanDet := ⟨state, some ⟨0, 256, 2560000⟩, 0, 2, off, some run, none⟩
    let even (state : ChanState) : ChanDet := ⟨state, some ⟨0, 2560000, 2048000⟩, 0, 2, 1, some run, none⟩
    afterWord (loud .triggered 1 0) p ⟨0, false, false, false, false, false⟩ = (.off, (0, 0, 0), some (.power, 50), false) ∧
      afterWord (loud .pending 1 0) p ⟨0, false, false, false, false, false⟩ = (.off, (0, 0, 0), none, false) ∧
      afterWord ChanDet.reset p ⟨9, true, true, false, false, false⟩ = (.settling, (0, 0, 0), none, false) ∧
      afterWord (calm .settling 0) p (word 9) = (.warmup, (0, 0, 32), none, false) ∧
      afterWord (calm .warmup 2) p (word 0) = (.warmup, (0, 0, 1), none, false) ∧
      afterWord (calm .warmup 1) p (word 0) = (.quiet, (0, 0, 0), none, false) ∧
      afterWord (low .quiet 0) p (word 0) = (.quiet, (2, 0, 0), none, false) ∧
      afterWord (calm .quiet 0) p (word 20000) = (.pending, (1, 0, 0), none, false) ∧
      afterWord (calm .quiet 0) q (word 20000) = (.triggered, (1, 0, 0), none, false) ∧
      afterWord (low .pending 0) p (word 0) = (.quiet, (0, 0, 0), none, false) ∧
      afterWord (loud .pending 1 0) p (word 20000) = (.triggered, (2, 0, 0), none, false) ∧
      afterWord (low .triggered 0) p (word 0) = (.ending, (2, 1, 0), none, false) ∧
      afterWord (low .triggered 0) q (word 0) = (.quiet, (0, 0, 0), some (.normal, 50), false) ∧
      afterWord (low .ending 1) p (word 0) = (.quiet, (0, 0, 0), some (.normal, 50), false) ∧
      afterWord (loud .ending 2 1) p (word 20000) = (.triggered, (2, 0, 0), none, false) ∧
      afterWord (even .ending) p (word 8000) = (.ending, (2, 0, 0), none, false) ∧
      afterWord { loud .triggered 2 0 with run := some { run with onset := ⟨999, 250000⟩ } } p (word 20000) =
        (.quiet, (0, 0, 0), some (.long, 1000), true) := by
  refine ⟨?_, ?_, ?_, ?_, ?_, ?_, ?_, ?_, ?_, ?_, ?_, ?_, ?_, ?_, ?_, ?_, ?_⟩ <;> decide +kernel

/-- R79: the Detector turned off in a trigger, 40 ms after its onset at the last set processed. -/
theorem test_detector_off :
    let s := detecting (loud .triggered 2 0) (some ⟨999, 0⟩)
    let t := detectorOff { s with det := { s.det with trigger := true, running := true, lastSet := some ⟨1000, 240000⟩ } }
    t.det.trigger = false ∧ t.det.running = false ∧ t.det.prevPick = some ⟨999, 0⟩ ∧
      t.det.chan.z = ⟨.off, none, 0, 0, 0, none, some ⟨⟨1000, 200000⟩, 40, 1000, .power, false⟩⟩ := by decide +kernel

/-- The Z channel's state and on-run after a command. -/
def zAfter (c : Instr) (z : ChanDet) : Option (ChanState × Nat × Option TriggerEnd) :=
  (nextOf (exec c (detecting z none))).map (fun t =>
    (t.det.chan.z.state, t.det.chan.z.onRun, t.det.chan.z.last.map (·.ended)))

/-- The loading set, the last set of WARMUP, the on set of an on_hold of 1 and that which ends PENDING. -/
theorem test_witness_ChannelEventsAct :
    (detecting (calm .quiet 0) none).awake = true ∧ detectorIsOn (detecting (calm .quiet 0) none) ∧
      (word 20000).powered = true ∧ (word 20000).settling = false ∧
      zAfter (.settlingEnd .z (word 20000)) (calm .settling 0) = some (.warmup, 0, none) ∧
      zAfter (.warmupEnd .z (word 0)) (calm .warmup 1) = some (.quiet, 0, none) ∧
      zAfter (.channelTriggered .z ⟨1000, 250000⟩ (word 20000)) (calm .quiet 0) = some (.triggered, 1, none) ∧
      zAfter (.channelTriggered .z ⟨1000, 250000⟩ (word 20000)) (loud .pending 1 0) = some (.triggered, 2, none) := by
  unfold detectorIsOn; decide +kernel

/-- The end of a trigger by its off sets, and by max_trigger of 1 s to the microsecond. -/
theorem test_trigger_ends :
    zAfter (.triggerEnd .z ⟨1001, 199999⟩ (word 0)) { loud .ending 1 0 with avg := some ⟨0, 0, 256⟩ } =
        some (.quiet, 0, some .normal) ∧
      zAfter (.maxTrigger .z ⟨1001, 200000⟩ (word 20000)) (loud .triggered 1 0) = some (.quiet, 0, some .long) := by
  decide +kernel

/-- The averages of the last case. -/
theorem test_witness_averaged : ∃ a e, averaged station.profile ⟨0, 0, 256⟩ a e 20000 false ∧ onSet station.profile a := by
  refine ⟨⟨5000, 2557568, 160096⟩, 19981, ?_, ?_⟩
  · unfold averaged; decide +kernel
  · unfold onSet; decide +kernel

/-! ### Recording -/

/-- A buffer of `count` sets on page 3, a tick apart, the last of them at 1,000.23 s. -/
def bufferOf (page : Option Nat) (count : Nat) : PageBuffer :=
  { PageBuffer.empty with
    page := page
    sets := (List.range count).map (fun k => sampleSet (ofUs (1000230000 - ((count - 1 - k : Nat) : Int) * 10000)) 5) }

/-- A capture of record 8 that has taken sets, with the next one, of 1,000.24 s, in the ring as number 0. -/
def capturing (buf : PageBuffer) (taken : Nat) (endTime : Option ArrayTime) : State :=
  { station with
    sampler := { station.sampler with ring := [sampleSet ⟨1000, 240000⟩ 5], nextSet := 1 }
    rm := { station.rm with
      dir := [⟨8, false, .loose, buf.page, 1, ⟨990, 0⟩, none, none, none⟩], nextId := 9
      cap := { Capture.reset with
        mode := .opened, recId := some 8, readPos := some 0, taken := taken, endTime := endTime, buf := buf } } }

theorem ring_zero :
    ringRead { station.sampler with ring := [sampleSet ⟨1000, 240000⟩ 5], nextSet := 1 } 0 =
      some (sampleSet ⟨1000, 240000⟩ 5) := by decide +kernel

theorem captureAt_capturing (buf : PageBuffer) (taken : Nat) (endTime : Option ArrayTime) (h : buf.busy = false) :
    captureAt (capturing buf taken endTime) 8 0 (sampleSet ⟨1000, 240000⟩ 5) := ⟨rfl, rfl, rfl, h, rfl, ring_zero⟩

/-- A set that is stored, behind others and as the first of a later page past the end time, and one that ends its record,
behind others and as the first of all. -/
theorem test_witness_storesNext :
    let x := sampleSet ⟨1000, 240000⟩ 5
    let past : Option ArrayTime := some ⟨1000, 230000⟩
    storesNext (capturing (bufferOf (some 3) 10) 2998 none) x ∧ storesNext (capturing (bufferOf (some 3) 0) 168 past) x ∧
      endsBefore (capturing (bufferOf (some 3) 10) 10 past) x ∧ endsBefore (capturing (bufferOf (some 3) 0) 0 past) x := by
  have hs : (bufferOf (some 3) 10).sets ≠ [] := by decide +kernel
  have hl : (bufferOf (some 3) 10).sets.getLast? = some (sampleSet ⟨1000, 230000⟩ 5) := by decide +kernel
  have hp : ∀ n, afterEnd (capturing (bufferOf (some 3) n) n (some ⟨1000, 230000⟩)) (sampleSet ⟨1000, 240000⟩ 5) :=
    fun _ => ⟨_, rfl, by decide +kernel⟩
  refine ⟨.inr ⟨hs, ?_, ?_⟩, .inl ⟨rfl, rfl, fun _ => by decide⟩, ⟨hp 10, .inl hs⟩, ⟨hp 0, .inr ⟨rfl, rfl, rfl⟩⟩⟩
  · rintro ⟨t, h, -⟩; cases h
  · rintro (h | ⟨y, h, hn⟩)
    · exact absurd h (by decide +kernel)
    · cases hl.symm.trans h; exact hn (by decide +kernel)

/-- A set taken, the last before the limit of 3,000 sets and the one that reaches it, and one a tick after the end time; the first
of a later page past the end time, and a record that ends with no set taken. The capture's taking stores the set and rests. -/
theorem test_witness_CaptureTakesSets :
    let b := bufferOf (some 3) 10
    let e := bufferOf (some 3) 0
    let r c s := (nextOf (exec c s)).map (fun t => (t.rm.cap.mode, t.rm.cap.buf.sets.length, t.rm.cap.taken))
    b.busy = false ∧ b.page.isSome = true ∧ b.sets ≠ [] ∧ setLimit (capturing b 2998 none) = 3000 ∧
      r .captureTakeSet (capturing e 168 (some ⟨1000, 230000⟩)) = some (.opened, 1, 169) ∧
      r .captureEndTime (capturing e 0 (some ⟨1000, 230000⟩)) = some (.idle, 0, 0) ∧
      (nextOf (exec .captureEndTime (capturing e 0 (some ⟨1000, 230000⟩)))).map (fun t =>
        (t.rm.dir, t.rm.refused, t.kindOf 3)) = some ([], 1, .freeDirty) ∧
      (captureTake (capturing b 10 none)).rm.cap.buf.sets.length = 11 ∧
      r .captureTakeSet (capturing b 2998 none) = some (.opened, 11, 2999) ∧
      r .recordMaxReached (capturing b 2999 none) = some (.closing, 11, 3000) ∧
      r .captureTakeSet (capturing b 10 (some ⟨1000, 240000⟩)) = some (.opened, 11, 11) ∧
      r .captureEndTime (capturing b 10 (some ⟨1000, 230000⟩)) = some (.closing, 10, 10) ∧
      addUs ⟨1000, 230000⟩ (1000000 / rateOf station.profile.rateCode : Nat) = ⟨1000, 240000⟩ := by decide +kernel

/-- Within a tick: a pick ages out of the list and the Detector gets the set; the displacement of the oldest set of a full ring, at
which the capture waits, closes its record OVERRUN. -/
theorem test_tick_sweeps_and_hands_on :
    let aged := havingPicks [pickAt 9 7 ⟨900, 0⟩ 0 0]
    let c := capturing { bufferOf (some 3) 1 with busy := true } 1 none
    let full := { c with
      bat := { c.bat with permission := .full }
      sampler := { c.sampler with ring := List.replicate 4096 (sampleSet ⟨1000, 240000⟩ 5), nextSet := 4096 } }
    (nextOf (exec (.sampleTick inputs) aged)).map (fun t => (t.picks.entries.length, t.det.lastSet)) =
        some (0, some ⟨1000, 250000⟩) ∧
      (nextOf (exec (.sampleTick inputs) full)).map (fun t => (t.rm.cap.mode, t.rm.closedOverrun, t.sampler.nextSet)) =
        some (.closing, 1, 4097) := by
  refine ⟨?_, ?_⟩ <;> decide +kernel

/-- A capturing station with a page map. -/
def withMap (s : State) (map : List PageKind) : State := { s with rm := { s.rm with map := map, allocPtr := 511 } }

/-- The care pages and nothing free: record 7's page 3 and pages of another record. -/
def fullMap : List PageKind :=
  (initialMap.map (fun k => if k = .care then .care else .owned 6 0 true)).set 3 (.owned 7 0 true)

theorem no_free_page (s : State) (h : s.rm.map = fullMap) : ∀ p, ¬nextFreePage s p := by
  rintro p ⟨k, hk, -, hf, -⟩
  have all : ∀ x ∈ fullMap, x ≠ .freeErased ∧ x ≠ .freeDirty := by decide +kernel
  have hm : s.kindOf p = .care ∨ s.kindOf p ∈ fullMap := by
    unfold State.kindOf; rw [h, List.getD_eq_getElem?_getD]
    cases hx : fullMap[p]? with
    | none => exact .inl rfl
    | some x => exact .inr (List.mem_of_getElem? hx)
  rcases hf with hf | hf <;> rw [hf] at hm <;> rcases hm with hm | hm
  · cases hm
  · exact (all _ hm).1 rfl
  · cases hm
  · exact (all _ hm).2 rfl

/-- The station without a capture, with a ring, a page map and a directory. -/
def uncaptured (ring : List SampleSet) (map : List PageKind) (dir : List DirEntry) : State :=
  { station with
    sampler := { station.sampler with ring := ring, nextSet := ring.length }
    rm := { station.rm with map := map, dir := dir, nextId := 65 } }

/-- Sixty-four closed records of one page, the first HELD, the others in a hold. -/
def fullDirectory (others : Hold) : List DirEntry :=
  (List.range 64).map (fun k => { record7 with id := k + 1, hold := if k = 0 then .held else others })

/-- The station CLOSING record 8, with no record that waits or one. -/
def closing8 (waiting : Option Nat) : State :=
  let s := capturing { bufferOf (some 9) 1 with busy := true } 1 none
  { s with rm := { s.rm with cap := { s.rm.cap with mode := .closing, waiting := waiting } } }

/-- A pick at an open capture, at one that is closing, at a Record Memory that wipes and at one whose identifiers are used up;
with a full directory and a full pool, with nothing to reclaim and with a record; and with room, at a ring whose walk passes the
set of just pre_s before the onset, and at an empty ring. -/
theorem test_witness_CapturesStartAndClose :
    let ring := [sampleSet ⟨1000, 240000⟩ 5, sampleSet ⟨995, 200000⟩ 5, sampleSet ⟨995, 199999⟩ 5]
    let r (s : State) := let t := capturePick s ⟨1000, 200000⟩
      (t.rm.cap.mode, t.rm.cap.readPos, t.rm.dir.getLast?.map (fun e => (e.id, e.firstSet)), t.rm.refused, t.rm.reclaimed)
    let spent := { uncaptured [] initialMap [] with rm := { (uncaptured [] initialMap []).rm with nextId := 4294967295 } }
    let wiping := { uncaptured [] initialMap [] with rm := { (uncaptured [] initialMap []).rm with wiping := true } }
    (captureOpen (capturing (bufferOf none 0) 0 none) ∧ captureOpen (closing8 (some 9)) ∧ ¬captureOpen (closing8 none) ∧
      ¬captureOpen (uncaptured ring initialMap [record7])) ∧
    (directoryInv (uncaptured ring initialMap [record7]) ∧ directoryInv (uncaptured ring initialMap (fullDirectory .loose)) ∧
      directoryInv (closing8 none) ∧ directoryInv spent) ∧
    (firstReclaimed (uncaptured ring fullMap [record7]) record7 ∧ (∀ p, ¬nextFreePage (uncaptured ring fullMap [record7]) p) ∧
      nextFreePage (uncaptured ring initialMap [record7]) 0 ∧ (∀ e ∈ fullDirectory .pending, ¬reclaimable e) ∧
      (fullDirectory .loose).length = 64 ∧ walkPasses ring 995200000 2 ∧ walkPasses [] 995200000 0) ∧
    r (uncaptured ring initialMap [record7]) = (.opened, some 1, some (65, ⟨995, 200000⟩), 0, 0) ∧
    r (uncaptured [] initialMap [record7]) = (.opened, some 0, some (65, ⟨995, 200000⟩), 0, 0) ∧
    r (uncaptured ring initialMap (fullDirectory .loose)) = (.opened, some 1, some (65, ⟨995, 200000⟩), 0, 1) ∧
    r (uncaptured ring fullMap [record7]) = (.opened, some 1, some (65, ⟨995, 200000⟩), 0, 1) ∧
    r (uncaptured ring initialMap (fullDirectory .pending)) = (.idle, none, some (64, ⟨900, 0⟩), 1, 0) ∧
    r (uncaptured ring fullMap []) = (.idle, none, none, 1, 0) ∧ r spent = (.idle, none, none, 1, 0) ∧
    r wiping = (.idle, none, none, 1, 0) ∧
    (capturePick (closing8 none) ⟨1000, 200000⟩).rm.cap.waiting = some 9 ∧
    (capturePick (capturing (bufferOf none 0) 0 (some ⟨1000, 0⟩)) ⟨1000, 200000⟩).rm.cap.endTime = none := by
  refine ⟨⟨.inl rfl, .inr ⟨rfl, rfl⟩, ?_, ?_⟩, ⟨?_, ?_, ?_, ?_⟩, ⟨⟨[], [], rfl, ⟨rfl, .inl rfl⟩, by simp⟩, no_free_page _ rfl, ?_, ?_,
    ?_, ?_, ?_⟩, ?_, ?_, ?_, ?_, ?_, ?_, ?_, ?_, ?_, ?_⟩
  · rintro (h | ⟨-, h⟩) <;> cases h
  · rintro (h | ⟨h, -⟩) <;> cases h
  · unfold directoryInv; decide +kernel
  · unfold directoryInv; decide +kernel
  · unfold directoryInv; decide +kernel
  · unfold directoryInv; decide +kernel
  · exact ⟨0, by decide, rfl, .inr rfl, by simp⟩
  · unfold reclaimable; decide +kernel
  · decide
  · refine ⟨by decide, ?_, ?_⟩
    · intro j x hj hx
      obtain rfl | rfl : j = 0 ∨ j = 1 := by omega
      · cases hx; exact ⟨by decide, fun y h => absurd h (by decide)⟩
      · cases hx; refine ⟨by decide, fun y _ hy => ?_⟩; cases hy; decide
    · intro x hx; cases hx; exact .inl (by decide)
  · exact ⟨Nat.le_refl 0, by simp, by simp⟩
  all_goals decide +kernel

/-- The end of a trigger at a capture that awaits it (post_s of 10 s) and at one that does not; the displacement of the set at
the read position, of another, and while permission is full; and the closes with sets in the buffer, with none, with one PROGRAM
in flight, before it, and of a waiting record. -/
theorem test_capture_closes :
    let awaiting := { capturing (bufferOf none 0) 0 none with rm := { (capturing (bufferOf none 0) 0 none).rm with
      cap := { (capturing (bufferOf none 0) 0 none).rm.cap with awaiting := true } } }
    let committed flight := { capturing { bufferOf (some 507) 168 with busy := true, next := some 9 } 168 none with
      rm := { (capturing { bufferOf (some 507) 168 with busy := true, next := some 9 } 168 none).rm with flight := flight } }
    let r (s : State) := (s.rm.cap.mode, s.rm.cap.buf.final, s.rm.cap.buf.tail, s.rm.dir.map (fun e => (e.id, e.closed)),
      s.rm.refused + s.rm.closedPower)
    (captureTriggerEnd awaiting ⟨1000, 0⟩).rm.cap.endTime = some ⟨1010, 0⟩ ∧
      (captureTriggerEnd station ⟨1000, 0⟩).rm.cap.endTime = none ∧
      r (announceDisplaced (capturing (bufferOf (some 9) 1) 1 none) 0) = (.closing, some .power, none, [(8, false)], 1) ∧
      r (announceDisplaced (capturing (bufferOf (some 9) 1) 1 none) 1) = (.opened, none, none, [(8, false)], 0) ∧
      (announceDisplaced { capturing (bufferOf (some 9) 1) 1 none with
        bat := { station.bat with permission := .careOnly } } 0).rm.closedOverrun = 1 ∧
      r (closeAtOnce (capturing (bufferOf none 0) 0 none) .power) = (.idle, none, none, [], 2) ∧
      r (closeAtOnce (capturing (bufferOf (some 9) 0) 168 none) .power) = (.idle, none, none, [(8, true)], 1) ∧
      (closeAtOnce (capturing (bufferOf (some 9) 0) 168 none) .power).kindOf 9 = .freeDirty ∧
      r (closeAtOnce (committed (some (.recordProgram 507 []))) .power) =
        (.closing, none, some ⟨0, .power⟩, [(8, false)], 1) ∧
      r (closeAtOnce (committed none) .power) = (.closing, some .power, none, [(8, false)], 1) ∧
      (closeAtOnce (committed none) .power).rm.dir.map (·.pages) = [0] ∧
      r (closeAtOnce (closing8 (some 9)) .power) = (.closing, none, none, [(8, false)], 2) := by
  refine ⟨?_, ?_, ?_, ?_, ?_, ?_, ?_, ?_, ?_, ?_, ?_, ?_⟩ <;> decide +kernel

/-- A hold request of an event whose span from 5 s before its key to 1 s after it meets record 7's from 900 s to 901 s at each
end, and misses it by a microsecond; whose carried pick lies at the record's end; and of two records, the later of which contains
the pick. -/
theorem test_witness_HoldRequestsAct :
    let s (e : EventEntry) (dir : List DirEntry) : State := { havingEvents [] [e] with
      rm := { station.rm with map := station.rm.map.set 3 (.owned 7 0 true), dir := dir, nextId := 8 } }
    let at_ sec us := { event9 with key := ⟨9, ⟨sec, us⟩⟩ }
    let r e picks dir := let t := requestHold (s e dir) 3 picks
      (t.rm.dir.map (fun x => (x.hold, x.eventRef.isSome)), t.rm.marks, t.events.entries.map (·.recordId))
    let long := { record7 with id := 5, lastSet := some ⟨900, 500000⟩ }
    (eventsInv (s (at_ 906 0) [record7]) ∧ directoryInv (s (at_ 906 0) [record7]) ∧ directoryInv (s (at_ 906 0) [long, record7]) ∧
      at_ 906 0 ∈ (s (at_ 906 0) [record7]).events.entries) ∧
    r (at_ 906 0) [] [record7] = ([(.pending, true)], [⟨7, 3, 0⟩], [some 7]) ∧
    r (at_ 906 1) [] [record7] = ([(.loose, false)], [], [none]) ∧
    r (at_ 899 0) [] [record7] = ([(.pending, true)], [⟨7, 3, 0⟩], [some 7]) ∧
    r (at_ 898 999999) [] [record7] = ([(.loose, false)], [], [none]) ∧
    r (at_ 950 0) [⟨901, 0⟩] [record7] = ([(.pending, true)], [⟨7, 3, 0⟩], [some 7]) ∧
    r (at_ 950 0) [⟨901, 1⟩] [record7] = ([(.loose, false)], [], [none]) ∧
    r (at_ 900 0) [] [{ record7 with hold := .released }] = ([(.released, true)], [], [none]) ∧
    r (at_ 900 0) [] [long, record7] = ([(.pending, true), (.pending, true)], [⟨5, 3, 0⟩, ⟨7, 3, 0⟩], [some 5]) ∧
    r (at_ 900 0) [⟨901, 0⟩] [long, record7] = ([(.pending, true), (.pending, true)], [⟨5, 3, 0⟩, ⟨7, 3, 0⟩], [some 7]) ∧
    r { at_ 900 0 with recordId := some 2 } [] [record7] = ([(.pending, true)], [⟨7, 3, 0⟩], [some 2]) := by
  refine ⟨⟨?_, ?_, ?_, List.mem_singleton.mpr rfl⟩, ?_, ?_, ?_, ?_, ?_, ?_, ?_, ?_, ?_, ?_⟩
  · unfold eventsInv alertAgrees; decide +kernel
  · unfold directoryInv; decide +kernel
  · unfold directoryInv; decide +kernel
  all_goals decide +kernel

/-- The first page and a commit of 168 sets, on an erased page past the map's end, a dirty one, after a reclaim, and with
nothing to reclaim: for a record that took no set, and for one that took 168. -/
theorem test_witness_PagesAreAllocated :
    let first := capturing (bufferOf none 0) 0 none
    let full := capturing (bufferOf (some 9) 168) 168 none
    let r s := (nextOf (exec .pageAllocation s)).map (fun t =>
      (t.rm.cap.buf.page, t.rm.cap.buf.next, t.rm.eraseAhead, t.rm.reclaimed, t.rm.closedFull))
    let dir s := (nextOf (exec .pageAllocation s)).map (fun t => t.rm.dir.map (fun e => (e.id, e.closed, e.endCause)))
    let held s := { s with rm := { s.rm with dir := record7 :: s.rm.dir } }
    r (withMap first (initialMap.set 0 .freeErased)) = some (some 0, none, some 1, 0, 0) ∧
      r (withMap full (initialMap.set 0 .freeErased)) = some (some 9, some 0, some 1, 0, 0) ∧
      r (withMap first initialMap) = some (none, none, some 0, 0, 0) ∧
      r (withMap (held first) fullMap) = some (none, none, some 3, 1, 0) ∧
      r (withMap first fullMap) = some (none, none, none, 0, 1) ∧
      r (withMap full fullMap) = some (some 9, none, none, 0, 1) ∧
      dir (withMap first fullMap) = some [] ∧
      dir (withMap (capturing (bufferOf none 0) 168 none) fullMap) = some [(8, true, some .full)] := by
  refine ⟨?_, ?_, ?_, ?_, ?_, ?_, ?_, ?_⟩ <;> decide +kernel

/-- The reclaim of a record that owns no page, after which nothing can be reclaimed and the capture's record closes FULL. -/
theorem test_reclaim_without_pages :
    let s := capturing (bufferOf none 0) 0 none
    let u := withMap { s with rm := { s.rm with dir := record7 :: s.rm.dir } } (fullMap.set 3 (.owned 6 0 true))
    (nextOf (exec .pageAllocation u)).map (fun t => (t.rm.cap.mode, t.rm.dir, t.rm.reclaimed, t.rm.closedFull)) =
      some (.idle, [], 1, 1) := by decide +kernel

theorem test_witness_needsPage :
    needsPage (capturing (bufferOf none 0) 0 none) (sampleSet ⟨1000, 240000⟩ 5) true ∧
      needsPage (capturing (bufferOf (some 9) 168) 168 none) (sampleSet ⟨1000, 240000⟩ 5) false ∧
      nextFreePage (withMap (capturing (bufferOf none 0) 0 none) initialMap) 0 ∧
      ∀ p, ¬nextFreePage (withMap (capturing (bufferOf none 0) 0 none) fullMap) p := by
  have hd : (capturing (bufferOf (some 9) 168) 168 none).rm.cap.buf.sets.length = 168 := by decide +kernel
  refine ⟨⟨by decide +kernel, rfl⟩, ⟨?_, ?_, .inl hd.ge⟩, ⟨1, by decide, by decide, ?_, ?_⟩, no_free_page _ rfl⟩
  · intro h; rw [h] at hd; exact absurd hd (by decide)
  · rintro ⟨t, h, -⟩; cases h
  · unfold freePage; decide +kernel
  · unfold freePage; decide +kernel

/-- The capture waits for the ERASE of page 0, and its taking leaves the request for it. -/
theorem test_witness_captureWaits :
    let s := withMap (capturing (bufferOf none 0) 0 none) initialMap
    captureWaits s ∧ (captureTake s).rm.eraseAhead = some 0 ∧ (captureTake s).rm.cap = s.rm.cap :=
  ⟨⟨8, 0, sampleSet ⟨1000, 240000⟩ 5, true, 0, ⟨rfl, rfl, rfl, rfl, ring_zero⟩, test_witness_needsPage.1,
    test_witness_needsPage.2.2.1, by decide +kernel⟩, by decide +kernel, by decide +kernel⟩

/-- A placed care snapshot at a stage. -/
def placedAt (stage : CareStage) : PlacedCare := ⟨252, 0, [0x43#8], 1, .schedule, stage⟩

/-- The station with a permission and requests of the classes from `from` on. -/
def requesting (permission : WritePerm) (care : Option CareStage) (marks : List MarkReq) (program : Bool)
    (ahead : Option Nat) (wipe : List Nat) : State :=
  let s := capturing (bufferOf (some 9) 1) 1 none
  { s with
    bat := { s.bat with permission := permission, placed := care.map placedAt }
    rm := { s.rm with marks := marks, programReq := program, eraseAhead := ahead, wipeList := wipe } }

/-- Each class first in its turn, and each reason for none. -/
theorem test_witness_EngineStartsByClass :
    let m : MarkReq := ⟨7, 3, 0⟩
    let r s := (nextOf (exec .engineOperationStart s)).map (fun t => t.rm.flight.map (fun o => (o.code, o.page)))
    r (requesting .absent (some .needErase) [m] true (some 1) [2]) = some none ∧
      r (requesting .careOnly none [m] true (some 1) [2]) = some none ∧
      r (requesting .careOnly (some .needErase) [m] true (some 1) [2]) = some (some (0, 252)) ∧
      r (requesting .full (some .needProgram) [m] true (some 1) [2]) = some (some (1, 252)) ∧
      r (requesting .full none [m] true (some 1) [2]) = some (some (2, 3)) ∧
      r (requesting .full none [] true (some 1) [2]) = some (some (1, 9)) ∧
      r (requesting .full none [] false (some 1) [2]) = some (some (0, 1)) ∧
      r (requesting .full none [] false none [2]) = some (some (0, 2)) ∧
      r (requesting .full none [] false none []) = some none := by decide +kernel

theorem test_witness_careWaits : careWaits (requesting .full (some .needErase) [] false none []) ∧
    ¬careWaits (requesting .full none [] false none []) := by
  refine ⟨⟨_, rfl, .inl rfl⟩, ?_⟩
  rintro ⟨r, h, -⟩; cases h

/-- The station with an operation in flight. -/
def inFlight (o : EngineOp) (k : PageKind) (care : Option CareStage) (owed : Option SnapCause) : State :=
  let s := capturing { bufferOf (some 9) 1 with busy := true } 1 none
  { s with
    bat := { s.bat with placed := care.map placedAt, owed := owed }
    rm := { s.rm with map := s.rm.map.set o.page k, flight := some o } }

/-- Each completion: an ahead and a wipe ERASE on the last pool page, FREE-DIRTY and no longer so, a care ERASE and PROGRAM on
the last page, a MARK,
and a record's PROGRAM. -/
theorem test_witness_OperationsComplete :
    let r c s := (nextOf (exec c s)).map (fun t =>
      (t.rm.flight, t.kindOf 507, t.bat.placed.map (·.stage), t.rm.cap.buf.busy))
    (507 : Nat) < 512 ∧ r .eraseComplete (inFlight (.aheadErase 507) .freeDirty none none) =
        some (none, .freeErased, none, true) ∧
      r .eraseComplete (inFlight (.wipeErase 507) .freeDirty none none) = some (none, .freeErased, none, true) ∧
      r .eraseComplete (inFlight (.wipeErase 507) .freeErased none none) = some (none, .freeErased, none, true) ∧
      r .eraseComplete (inFlight (.aheadErase 507) (.owned 8 0 false) none none) =
        some (none, .owned 8 0 false, none, true) ∧
      r .eraseComplete (inFlight (.careErase 511) .care (some .erasing) none) =
        some (none, .freeDirty, some .needProgram, true) ∧
      r .careSnapshotComplete (inFlight (.careProgram 511 0 [0x43#8]) .care (some .programming) none) =
        some (none, .freeDirty, none, true) ∧
      r .markComplete (inFlight (.mark ⟨7, 507, 1⟩) (.owned 7 0 true) none none) =
        some (none, .owned 7 0 true, none, true) ∧
      r .captureProgramComplete (inFlight (.recordProgram 507 [0x52#8]) (.owned 8 0 false) none none) =
        some (none, .owned 8 0 true, none, false) := by
  refine ⟨?_, ?_, ?_, ?_, ?_, ?_, ?_, ?_, ?_⟩ <;> decide +kernel

/-- R139, third row: a close decided while the committed page's PROGRAM is in flight, with its last set in the ring and
with it displaced. -/
theorem test_witness_third_row :
    let s (num : Nat) : State := { inFlight (.recordProgram 507 [0x52#8]) (.owned 8 0 false) none none with
      rm := { (inFlight (.recordProgram 507 [0x52#8]) (.owned 8 0 false) none none).rm with
        dir := [⟨8, false, .loose, some 507, 2, ⟨990, 0⟩, none, none, none⟩]
        cap := { Capture.reset with
          mode := .closing, recId := some 8
          buf := { bufferOf (some 507) 168 with busy := true, next := some 9, tail := some ⟨num, .normal⟩ } } } }
    let r (num : Nat) := (nextOf (exec .captureProgramComplete (s num))).map (fun t =>
      (t.rm.cap.mode, t.rm.cap.buf.sets.length, t.rm.cap.buf.page, t.kindOf 9))
    (s 0).rm.cap.buf.tail = some ⟨0, .normal⟩ ∧ ringRead (s 0).sampler 0 = some (sampleSet ⟨1000, 240000⟩ 5) ∧
      ringRead (s 0).sampler 7 = none ∧ r 0 = some (.closing, 1, some 9, .freeDirty) ∧
      r 7 = some (.idle, 0, none, .freeDirty) ∧
      (nextOf (exec .captureProgramComplete (s 7))).map (fun t => t.rm.dir.map (fun e => (e.closed, e.pages))) =
        some [(true, 1)] := by
  refine ⟨?_, ?_, ?_, ?_, ?_, ?_⟩ <;> decide +kernel

/-- A RESTART snapshot's completion, and one with a snapshot owed. -/
theorem test_care_completions :
    let restart := { inFlight (.careProgram 511 0 [0x43#8]) .care none none with
      bat := { station.bat with placed := some { placedAt .programming with cause := .restart } } }
    (nextOf (exec .careSnapshotComplete restart)).map (·.phase) = some .restarting ∧
      (nextOf (exec .careSnapshotComplete
        (inFlight (.careProgram 511 0 [0x43#8]) .care (some .programming) (some .shed)))).map
        (fun t => (t.bat.placed.map (·.cause), t.bat.owed)) = some (some .shed, none) := by decide +kernel

/-! ### Events -/

/-- The station with reports at its uplink port, the first begun some µs ago; the bits of 0x01 change at 104 1/6 µs each. -/
def porting (us : Nat) : State :=
  { station with events := { station.events with sending := some [1], sentUs := us, uplink := [[2], [3]] } }

/-- The sweeps at the ends of their times, and the report at the end of its 180 bit times: an event 120 s after its last activity and a microsecond more, and a repeat
that is due. -/
theorem test_witness_SweepsAct :
    let s e := havingEvents [] [e]
    let ended e := (nextOf (exec .eventEnd (s e))).map (fun t => t.events.entries.map (·.active))
    let due := { event9 with repeatDue := some ⟨1000, 250000⟩, repeatsLeft := 2 }
    let sent us := (nextOf (exec .uplinkReportSent (porting us))).map (fun t =>
      (t.events.sending, t.events.uplink, t.events.sentUs))
    (s event9).awake = true ∧ ended { event9 with lastActivity := ⟨880, 250000⟩ } = some [true] ∧
      ended { event9 with lastActivity := ⟨880, 249999⟩ } = some [false] ∧ 0 ≤ diffUs (s due).tb.clock ⟨1000, 250000⟩ ∧
      (nextOf (exec .alertRepeatDue (s due))).map (fun t =>
        (t.line.queue.length, t.events.entries.map (fun e => (e.repeatsLeft, e.repeatDue)))) = some (1, [(1, none)]) ∧
      (nextOf (exec .pickAged (havingPicks [pickAt 9 1 ⟨994, 250000⟩ 0 0, pickAt 9 2 ⟨994, 249999⟩ 0 0]))).map
        (fun t => t.picks.entries.map (·.seq)) = some [1] ∧
      sent 18749 = some (some [1], [[2], [3]], 18749) ∧ sent 18750 = some (some [2], [[3]], 0) ∧
      (porting 104).pins.uplink = false ∧ (porting 105).pins.uplink = true := by
  refine ⟨?_, ?_, ?_, ?_, ?_, ?_, ?_, ?_, ?_, ?_⟩ <;> decide +kernel

/-- R115, R118, at an uplink station with a report in transmission: two events end in the order in which they were made, and their
reports join the queue; at 15 waiting the second is dropped and counted. With nothing to end and no repeat due, nothing changes. -/
theorem test_ends_at_busy_port :
    let old k := { event9 with serial := k, key := ⟨k, ⟨800, 0⟩⟩, lastActivity := ⟨880, 249999⟩ }
    let s waiting : State := { havingEvents [] [old 1, event9, old 2] with
      profile := { station.profile with uplinkRole := true }
      events := { (havingEvents [] [old 1, event9, old 2]).events with
        sending := some [1], uplink := List.replicate waiting [2] } }
    let r waiting := (nextOf (exec .eventEnd (s waiting))).map (fun t =>
      ((t.events.uplink.drop waiting).map (fun x => x.take 4), t.events.uplinkDropped, t.events.entries.map (·.active)))
    r 0 = some ([[0xA5, 0x4C, 2, 1], [0xA5, 0x4C, 2, 2]], 0, [false, true, false]) ∧
      r 15 = some ([[0xA5, 0x4C, 2, 1]], 1, [false, true, false]) ∧
      endsNow (havingEvents [] [event9]) event9 = false ∧ repeatIsDue (havingEvents [] [event9]) event9 = false ∧
      nextOf (exec .eventEnd (havingEvents [] [event9])) = some (havingEvents [] [event9]) ∧
      nextOf (exec .alertRepeatDue (havingEvents [] [event9])) = some (havingEvents [] [event9]) := by
  refine ⟨?_, ?_, ?_, ?_, ?_, ?_⟩ <;> decide +kernel

theorem test_witness_sweeps_events : eventsInv (havingEvents [] [{ event9 with lastActivity := ⟨880, 249999⟩ }]) ∧
    eventsInv (havingEvents [] [{ event9 with repeatDue := some ⟨1000, 250000⟩, repeatsLeft := 2 }]) := by
  constructor <;> (unfold eventsInv alertAgrees; decide +kernel)

/-! ### The battery and the heater -/

/-- The station with a snapshot due at a time, one owed, and one placed. -/
def snapping (due : Option ArrayTime) (owed : Option SnapCause) (placed : Option PlacedCare) : State :=
  { station with bat := { station.bat with nextDue := due, owed := owed, placed := placed } }

/-- A due time a microsecond ahead, one reached with the log free and with a request placed, an owed snapshot, and the tick's
test of a due time 900 s ahead, of one a microsecond beyond, and of one reached. -/
theorem test_witness_SnapshotsFallDue :
    let r c s := (nextOf (exec c s)).map (fun t => (t.bat.placed.map (·.seq), t.bat.owed, t.bat.logSlot, t.bat.nextDue))
    let tested due := let t := scheduleTest (snapping (some due) none none); (t.bat.nextDue, t.bat.logSlot)
    station.awake = true ∧
      r .schedule (snapping (some ⟨1000, 250001⟩) none none) = some (none, none, 0, some ⟨1000, 250001⟩) ∧
      r .schedule (snapping (some ⟨1000, 250000⟩) none none) = some (some 0, none, 1, some ⟨1900, 250000⟩) ∧
      r .schedule (snapping (some ⟨1000, 250000⟩) none (some (placedAt .needErase))) =
        some (some 1, some .schedule, 0, some ⟨1000, 250000⟩) ∧
      r .owedSnapshot (snapping none (some .shed) none) = some (some 0, none, 1, some ⟨1900, 250000⟩) ∧
      tested ⟨1900, 250000⟩ = (some ⟨1900, 250000⟩, 0) ∧ tested ⟨1900, 250001⟩ = (some ⟨1900, 250000⟩, 0) ∧
      tested ⟨1000, 250000⟩ = (some ⟨1900, 250000⟩, 1) := by
  refine ⟨?_, ?_, ?_, ?_, ?_, ?_, ?_, ?_⟩ <;> decide +kernel

/-- The station with a charge, a pack voltage, and on-delays that have run. -/
def powered (q : Nat) (shed : Nat) (volt curr src : Int) (start : ArrayTime) : State :=
  { station with
    bat := { station.bat with
      q := q, shed := shed, exit := ⟨some start, false⟩, full := ⟨some start, false⟩, empty := ⟨some start, false⟩ }
    sampler := { station.sampler with latest :=
      { batVolt := some volt, batCurr := some curr, batTemp := none, encTemp := none, heatCurr := none
        srcVolt := some src } } }

/-- Level 1 at 45 % of charge and level 3 at 13 % with the pack 100 mV above v_crit, each for 300 s. -/
theorem test_witness_shed_exit :
    let s1 := powered 162000000 1 12500 0 0 ⟨700, 250000⟩
    let s3 := powered 46800000 3 12000 0 0 ⟨700, 250000⟩
    s1.awake = true ∧ exitHolds s1 1 ∧ ¬entryHolds s1 2 ∧ ¬entryHolds s1 3 ∧
      delayAt s1.bat.exit (exitHolds s1 1) s1.tb.clock 300000000 ⟨some ⟨700, 250000⟩, true⟩ ∧
      exitHolds s3 3 ∧ delayAt s3.bat.exit (exitHolds s3 3) s3.tb.clock 300000000 ⟨some ⟨700, 250000⟩, true⟩ ∧
      (evaluateShed s1).bat.shed = 0 ∧ (evaluateShed s3).bat.shed = 2 ∧ (evaluateShed s3).bat.permission = .full ∧
      (hkReaders s1 .batVolt s1.tb.clock (some 12500)).bat.shed = 0 ∧
      (nextOf (exec .shedExit s1)).map (·.bat.shed) = some 0 ∧
      (nextOf (exec .shedExit s3)).map (fun t => (t.bat.shed, t.tb.nextTick)) = some (2, some ⟨1000, 250000⟩) ∧
      (nextOf (exec .shedExit (powered 162000000 1 12500 0 0 ⟨700, 250001⟩))).map (·.bat.shed) = some 1 := by
  have h1 : exitHolds (powered 162000000 1 12500 0 0 ⟨700, 250000⟩) 1 := .inr (.inr ⟨rfl, by decide +kernel⟩)
  have h3 : exitHolds (powered 46800000 3 12000 0 0 ⟨700, 250000⟩) 3 := .inl ⟨rfl, by decide +kernel, 12000, rfl, by decide +kernel⟩
  refine ⟨rfl, h1, ?_, ?_, ⟨fun h => absurd h1 h, fun _ => ⟨rfl, by decide +kernel⟩⟩, h3,
    ⟨fun h => absurd h3 h, fun _ => ⟨rfl, by decide +kernel⟩⟩, by decide +kernel⟩
  · rintro (⟨h, -⟩ | ⟨-, h | ⟨v, hv, h⟩⟩ | ⟨h, -⟩)
    · cases h
    · exact absurd h (by decide +kernel)
    · cases hv; exact absurd h (by decide +kernel)
    · cases h
  · rintro (⟨-, h | ⟨v, hv, h⟩⟩ | ⟨h, -⟩ | ⟨h, -⟩)
    · exact absurd h (by decide +kernel)
    · cases hv; exact absurd h (by decide +kernel)
    · cases h
    · cases h

theorem test_witness_permission : permissionIs (powered 46800000 3 12000 0 0 ⟨700, 250000⟩) 2 .full := by
  refine ⟨fun h => absurd h (by decide +kernel), fun v h => ?_⟩
  cases h; decide +kernel

/-- The full condition at its bounds for 600 s, and the empty one for 60 s. -/
theorem test_witness_ShedAndAnchorsAct :
    let full := powered 162000000 0 14200 500 15001 ⟨400, 250000⟩
    let empty := powered 162000000 0 10999 0 0 ⟨940, 250000⟩
    fullHolds full ∧ delayAt full.bat.full (fullHolds full) full.tb.clock 600000000 ⟨some ⟨400, 250000⟩, true⟩ ∧
      emptyHolds empty ∧ delayAt empty.bat.empty (emptyHolds empty) empty.tb.clock 60000000 ⟨some ⟨940, 250000⟩, true⟩ ∧
      (nextOf (exec .fullAnchor full)).map (·.bat.q) = some 360000000 ∧
      (nextOf (exec .emptyAnchor empty)).map (·.bat.q) = some 18000000 :=
  have hf : fullHolds (powered 162000000 0 14200 500 15001 ⟨400, 250000⟩) :=
    ⟨14200, 500, 15001, rfl, rfl, rfl, by decide, by decide, by decide, by decide⟩
  have he : emptyHolds (powered 162000000 0 10999 0 0 ⟨940, 250000⟩) := ⟨10999, rfl, by decide⟩
  ⟨hf, ⟨fun h => absurd hf h, fun _ => ⟨rfl, by decide +kernel⟩⟩, he, ⟨fun h => absurd he h, fun _ => ⟨rfl, by decide +kernel⟩⟩,
    by decide +kernel⟩

/-- The station with its heater. -/
def heating (h : Heater) (temp current : Option Int) : State :=
  { station with
    heat := h
    sampler := { station.sampler with latest :=
      { station.sampler.latest with batTemp := temp, heatCurr := current } } }

/-- HEAT on for max_on, alone and with the cutout or no reading as the first test; a deferral at its end, the open latch after
its hour, the exposure reset, and both results of the open check, each at its bound. -/
theorem test_witness_HeaterEventsAct :
    let on t := { Heater.reset with on := true, since := t, openCheck := true }
    let long temp sec := { heating (on ⟨0, 0⟩) temp none with tb := { station.tb with clock := ⟨sec, 0⟩ } }
    let r c s := (nextOf (exec c s)).map (fun t =>
      (t.heat.on, t.heat.openSince.isSome, t.heat.exposure, t.heat.openCheck, t.det.guard.isSome))
    station.awake = true ∧
      r .maxOn (long (some (-200)) 1799) = some (true, false, 0, true, false) ∧
      r .maxOn (long (some (-200)) 1800) = some (false, false, 0, false, true) ∧
      r .maxOn (long (some 399) 1800) = some (false, false, 0, false, true) ∧
      r .maxOn (long (some 400) 1800) = some (true, false, 0, true, false) ∧
      r .maxOn (long none 1800) = some (true, false, 0, true, false) ∧
      r .deferralExpired (heating { Heater.reset with deferral := some ⟨880, 250000⟩ } (some (-200)) none) =
        some (false, false, 0, false, false) ∧
      r .heaterOpenClear { heating { Heater.reset with openSince := some ⟨0, 0⟩ } none none with
        tb := { station.tb with clock := ⟨3600, 0⟩ } } = some (false, false, 0, false, false) ∧
      r .exposureReset { heating { Heater.reset with resetDelay := ⟨some ⟨0, 0⟩, false⟩, exposure := 9 } (some (-200)) none
        with tb := { station.tb with clock := ⟨3600, 0⟩ } } = some (false, false, 0, false, false) ∧
      r (.openCheck 499) (heating (on ⟨999, 250000⟩) none none) = some (false, true, 0, false, true) ∧
      r (.openCheck 500) (heating (on ⟨999, 250000⟩) none none) = some (true, false, 0, false, false) ∧
      r (.openCheck 499) (heating (on ⟨999, 250001⟩) none none) = some (true, false, 0, true, false) := by
  refine ⟨?_, ?_, ?_, ?_, ?_, ?_, ?_, ?_, ?_, ?_, ?_, ?_⟩ <;> decide +kernel

/-- R177: a deferral at its end while the part is quiet-blocked switches and counts; once the event is over, below the
freeze limit, and while the switch is not wanted, DEFERRAL_EXPIRED does nothing. So with HEAT on: a turn-off is made and counted
up to max_on, and left to that test from there (R172, R175). -/
theorem test_deferral_expired :
    let s es temp := { heating { Heater.reset with deferral := some ⟨880, 250000⟩ } (some temp) none with
      events := (havingEvents [] es).events }
    let on since := { s [event9] 0 with heat := { Heater.reset with
      on := true, since := since, deferral := some ⟨880, 250000⟩ }, tb := { station.tb with clock := ⟨2000, 0⟩ } }
    let r s := (nextOf (exec .deferralExpired s)).map (fun t => (t.heat.on, t.heat.expired))
    r (s [event9] (-200)) = some (true, 1) ∧ r (s [] (-200)) = some (false, 0) ∧
      r (s [event9] (-251)) = some (false, 0) ∧ r (s [event9] 0) = some (false, 0) ∧
      r (on ⟨200, 1⟩) = some (false, 1) ∧ r (on ⟨200, 0⟩) = some (true, 0) := by
  refine ⟨?_, ?_, ?_, ?_, ?_, ?_⟩ <;> decide +kernel

/-! ### Service queries -/

theorem heard_query (s : State) (r : ArrayTime) (h : hears s r) (ho : s.ownId = some 5) : queryHeard s query :=
  ⟨⟨r, h⟩, by decide, by decide, ho, by decide⟩

/-- The result of the ANSWER that a command leaves in the queue, and the number of its data bytes. -/
def answerOf (c : Instr) (s : State) : Option (Nat × Nat) :=
  (nextOf (exec c s)).bind (fun t => (t.line.queue.head?).bind (fun q =>
    match q.frame with
    | .answer a => some (a.result, a.data.length)
    | _ => none))

/-- A station with something to answer with and nothing in its queue. -/
def asked : State := { busy with line := station.line, pending := [] }

theorem test_asked_heard : queryHeard asked query := heard_query asked _ ⟨rfl, rfl, rfl⟩ rfl

/-- The widths of the entries that the layouts speak of. -/
theorem test_witness_layouts : peerInWidths peer9 ∧ eventInWidths { event9 with repeatDue := some ⟨1000, 0⟩ } ∧
    recordInWidths { record7 with eventRef := some ⟨9, ⟨995, 0⟩⟩ } := by
  refine ⟨⟨by decide, by decide, ⟨1, by decide, by decide⟩, by decide⟩, ?_, ?_⟩
  · unfold eventInWidths; decide +kernel
  · unfold recordInWidths; decide +kernel

/-- R27, R126, R216: the first bytes of a PEER and of a RECORD answer written out, −120 of a temperature as 0xFF88. -/
theorem test_layout_bytes :
    (peerBytes peer9 ⟨1000, 250000⟩).take 8 = [9, 0x04, 0xB0, 0, 100, 0, 200, 1] ∧
      ((peerBytes peer9 ⟨1000, 250000⟩).drop 24).take 2 = [0xFF, 0x88] ∧
      (recordBytes record7).take 17 = [0, 0, 0, 7, 1, 0, 0, 3, 0, 1, 0, 0, 0x03, 0x84, 0, 0, 0] := by decide +kernel

/-- R201, R216: HEAT and the ALERT line among the flags of section 0, Q of 180,000,000 mAs in section 6, the setpoint −150 and
the time of HEAT's level in section 7; and 65,536 s of the exit on-delay, modulo its two bytes (log entry 58). -/
theorem test_status_bytes :
    let waiting := { asked with
      tb := { asked.tb with clock := ⟨66536, 0⟩ }, bat := { asked.bat with exit := ⟨some ⟨1000, 0⟩, false⟩ } }
    (statusSection asked 0).take 9 = [0, 0, 0x03, 0xE8, 0x03, 0xD0, 0x90, 2, 4] ∧
      ((statusSection asked 0).drop 20).take 2 = [5, 0] ∧ (statusSection asked 6).take 5 = [0, 0x0A, 0xBA, 0x95, 0] ∧
      (statusSection asked 7).take 9 = [0xFF, 0x6A, 0, 0, 0x03, 0xE7, 0x07, 0xA1, 0x20] ∧
      ((statusSection waiting 6).drop 6).take 3 = [1, 0, 0] := by decide +kernel

/-- R187, R216: a BEACON from its preamble to its line position, and an Alert Report but for its CRC. -/
theorem test_sent_bytes :
    (frameBytes 5 beacon5 ⟨1000, 250000⟩).take 21 =
        [0x55, 0x55, 0xB9, 3, 5, 0, 22, 0, 0, 0x03, 0xE8, 0x03, 0xD0, 0x90, 2, 4, 1, 0, 1, 0, 0] ∧
      (reportBytes 1 5 event9).take 16 = [0xA5, 0x4C, 1, 9, 0, 0, 0x03, 0xE3, 0, 0, 0, 2, 2, 3, 10, 5] := by decide +kernel

/-- Each entry by its index and past the last, each STATUS section at the ends of its range, and a PAGE slice. -/
theorem test_witness_ReadingQueriesAreAnswered :
    asked.receiving = true ∧ asked.ownId = some 5 ∧ asked.listenOnly = false ∧
      (answerOf (.status query 0) asked).map (·.1) = some 0 ∧ (answerOf (.status query 8) asked).map (·.1) = some 0 ∧
      (answerOf (.peer query 0) asked).map (·.1) = some 0 ∧ answerOf (.peer query 1) asked = some (2, 0) ∧
      (answerOf (.event query 0) asked).map (·.1) = some 0 ∧ answerOf (.event query 1) asked = some (2, 0) ∧
      (answerOf (.record query 0) asked).map (·.1) = some 0 ∧ answerOf (.record query 1) asked = some (2, 0) ∧
      answerOf (.page query 7 0 31) asked = some (0, 64) ∧ answerOf (.page query 7 1 0) asked = some (2, 0) ∧
      answerOf (.page query 7 0 0) { asked with rm := { asked.rm with flight := some (.aheadErase 255) } } =
        some (1, 0) ∧
      answerOf (.page query 7 0 0) { asked with rm := { asked.rm with flight := some (.aheadErase 256) } } =
        some (0, 64) ∧
      answerOf (.page query 7 0 0) { asked with rm := { asked.rm with wiping := true } } = some (1, 0) := by decide +kernel

/-- RELEASE of no record, of one that is not HELD, of a HELD one and again; WIPE; LATCH CLEAR; and RESTART. -/
theorem test_witness_ChangingQueriesAct :
    let held marks := { asked with rm := { asked.rm with dir := [{ record7 with hold := .held }], marks := marks } }
    answerOf (.release query 8) asked = some (3, 0) ∧ answerOf (.release query 7) asked = some (3, 0) ∧
      answerOf (.release query 7) (held []) = some (0, 0) ∧ answerOf (.release query 7) (held [⟨7, 3, 1⟩]) = some (0, 0) ∧
      (nextOf (exec (.release query 7) (held []))).map (·.rm.marks) = some [⟨7, 3, 1⟩] ∧
      answerOf (.wipe query) asked = some (0, 0) ∧
      answerOf (.wipe query) { asked with rm := { asked.rm with wiping := true } } = some (1, 0) ∧
      answerOf (.wipe query) (capturing (bufferOf none 0) 0 none) = some (3, 0) ∧
      answerOf (.latchClear query) asked = some (0, 0) ∧ answerOf (.restart query) asked = some (0, 0) ∧
      answerOf (.restart query) { asked with query := { asked.query with restartPending := true } } = some (1, 0) := by
  decide +kernel

/-- SET SECONDS in UNSET, in HOLDOVER at grade 14 and at grade 13, and in FOLLOWING. -/
theorem test_set_seconds :
    let s state grade := { asked with tb := { asked.tb with state := state, grade := grade } }
    let r state grade := (nextOf (exec (.setSeconds query 2000) (s state grade))).map (fun t =>
      (t.tb.clock, t.tb.state, t.tb.grade))
    r .unset 15 = some (⟨2000, 250000⟩, .holdover, 14) ∧ r .holdover 14 = some (⟨2000, 250000⟩, .holdover, 14) ∧
      r .holdover 13 = some (⟨1000, 250000⟩, .holdover, 13) ∧
      answerOf (.setSeconds query 2000) (s .following 4) = some (3, 0) := by decide +kernel

/-- A code that is none of the table's, wrong argument counts, a section and a slice past the last, and listen-only. -/
theorem test_witness_OtherQueriesAreTurnedAway :
    let listen := { asked with listenOnly := true }
    ¬queryTakes 0 0 ∧ ¬queryTakes 11 0 ∧ ¬queryTakes 5 6 ∧ ¬queryTakes 7 1 ∧
      answerOf (.badRequest query 11 []) asked = some (4, 0) ∧ answerOf (.badRequest query 1 [9]) asked = some (4, 0) ∧
      answerOf (.badRequest query 5 [0, 0, 0, 0, 0, 0, 32]) asked = some (4, 0) ∧
      answerOf (.status query 9) asked = some (4, 0) ∧ answerOf (.page query 7 0 32) asked = some (4, 0) ∧
      answerOf (.peer query 0) listen = none ∧ answerOf (.restart query) listen = none ∧
      answerOf (.badRequest query 11 []) listen = none ∧
      queryMalformed 1 [9] ∧ ¬queryMalformed 1 [8] ∧
      (nextOf (exec (.status query 9) listen)).map (fun t => (t.query.ignored, t.query.taken, t.query.bad)) = some (1, 0, 0) ∧
      (nextOf (exec (.badRequest query 1 [9]) listen)).map (·.query.ignored) = some 1 ∧
      nextOf (exec (.badRequest query 1 [8]) asked) = some asked ∧
      (nextOf (exec (.wipe query) listen)).map (·.query.ignored) = some 1 ∧
      (nextOf (exec (.badRequest query 11 (List.replicate 8 0)) asked)).map (·.line.badFrame) = some 0 ∧
      (nextOf (exec (.badRequest query 11 (List.replicate 9 0)) asked)).map (·.line.badFrame) = some 1 := by
  refine ⟨?_, ?_, ?_, ?_, ?_, ?_, ?_, ?_, ?_, ?_, ?_, ?_, .inr (.inl ⟨rfl, 9, rfl, by decide⟩), ?_, ?_, ?_, ?_, ?_, ?_, ?_⟩
  iterate 4 (unfold queryTakes; decide)
  iterate 8 decide +kernel
  · rintro (h | ⟨-, x, hx, h⟩ | ⟨h, -⟩)
    · exact h (.inl ⟨by decide, by decide, rfl⟩)
    · cases hx; exact absurd h (by decide)
    · cases h
  all_goals decide +kernel

end Sys2Proof.Tests
end

/-! SUPPORT. What a command can do, said once: every invariant is derived from these cases. -/

namespace Sys2Proof.Machine

/-- What a command can leave: the state as it was, or the work of its row, with the guard that the row tests. Rows that do the
same work share a case. -/
inductive Effect (s : State) : State → Prop where
  | idle : Effect s s
  | start : Effect s (startState s)
  | brownOut (supplyAllows : Bool) : Effect s (stopPart s supplyAllows)
  | profileRead (reads : List (Option (List Byte))) (hp : s.phase = .step1) :
      Effect s { loadProfile s reads with phase := .step2 }
  | careRestore (hp : s.phase = .step2) : Effect s { restoreCare s with phase := .step3 }
  | startUpScan (hp : s.phase = .step3) : Effect s { scanMemory s with phase := .step4 }
  | lineEnable (hp : s.phase = .step4) : Effect s { enableLine s with phase := .step5 }
  | samplerStart (hp : s.phase = .step5) : Effect s { startSampler s with phase := .running }
  | sampleTick (inp : TickInput) (n : ArrayTime) (ha : s.awake = true) (hn : tickDue s = some n) :
      Effect s (tickWork s inp n)
  | channelEvent (d : Detector) : Effect s { s with det := d }
  | captureMove : Effect s (moveCapture s)
  | pickAged : Effect s (ageSweep s)
  | eventEnd : Effect s (endSweep s)
  | alertRepeatDue : Effect s (repeatSweep s)
  | uplinkReportSent (hr : reportSent s = true) : Effect s (uplinkNext s)
  | schedule (hd : scheduleReached s = true) : Effect s (engineKick (snapshotDue s .schedule))
  | owedSnapshot : Effect s (engineKick (formOwed s))
  | shedExit (hd : exitDue s = true) : Effect s (engineKick (setShed s (s.bat.shed - 1)))
  | fullAnchor : Effect s (fullAnchor s)
  | emptyAnchor : Effect s (emptyAnchor s)
  | maxOn : Effect s (forceOff s s.tb.clock .maxOn)
  | deferralExpired (h : Heater) (hd : deferralDue s = true)
      (hh : h = { (makeSwitch s s.tb.clock).heat with expired := bump (makeSwitch s s.tb.clock).heat.expired }) :
      Effect s { makeSwitch s s.tb.clock with heat := h }
  | heaterOpenClear : Effect s { s with heat := s.heat.clearOldOpen s.tb.clock }
  | exposureReset : Effect s { s with heat := s.heat.exposureDelay s.profile.freezeLimit s.tb.clock s.batteryTemp }
  | openCheck (hk : BitVec 12) (hd : openCheckDue s s.tb.clock = true) :
      Effect s (heaterCurrent s s.tb.clock (HkInput.scale .heatCurr hk))
  | steeringInstant (ha : s.awake = true) (hr : instantReached s = true) : Effect s (steeringWork s)
  | ppsEdge : Effect s (ppsEdgeWork s)
  | beaconReceived (sender : Nat) (b : BeaconPayload) (r : ArrayTime) (hr : s.heard = some r) :
      Effect s (takeFrame s 3 sender (fun u => peerBeacon u sender b r))
  | pickFrameReceived (sender : Nat) (p : PickPayload) :
      Effect s (takeFrame s 2 sender (fun u => engineKick (pickRemote u sender p)))
  | alertFrameReceived (sender : Nat) (a : AlertPayload) (hl : lengthSuits 1 (12 + a.origins.length) = true) :
      Effect s (takeFrame s 1 sender (fun u => engineKick (eventAlert u sender a)))
  | badFrame (hh : s.heard.isSome = true) : Effect s (discardFrame s)
  | frameNotHandedOn (kind sender : Nat) : Effect s (takeFrame s kind sender (fun u => u))
  | readingQuery (q : QueryHeader) (code : Nat) (work : State → Reply) (hw : ∀ u, (work u).state = u) :
      Effect s (takeQuery s q (fun u => carryOut u q code work))
  | badRequest (q : QueryHeader) (code : Nat) : Effect s (takeQuery s q (fun u => badRequest u q code))
  | release (q : QueryHeader) (id : Nat) :
      Effect s (takeQuery s q (fun u => carryOut u q 6 (fun v => releaseReply v id)))
  | wipe (q : QueryHeader) : Effect s (takeQuery s q (fun u => carryOut u q 7 wipeReply))
  | setSeconds (q : QueryHeader) (n : Nat) :
      Effect s (takeQuery s q (fun u => carryOut u q 8 (fun v => secondsReply v n)))
  | latchClear (q : QueryHeader) :
      Effect s (takeQuery s q (fun u => carryOut u q 9 (fun v => ⟨latchClearWork v, .ok, []⟩)))
  | restart (q : QueryHeader) : Effect s (takeQuery s q (fun u => carryOut u q 10 restartReply))
  | idleGapMet (q : QFrame) (rest : List QFrame) (hq : s.line.queue = q :: rest) (ha : s.line.access = .waiting) :
      Effect s (drawBackoff s q)
  | backoffExpiry (q : QFrame) (rest : List QFrame) (hq : s.line.queue = q :: rest) (ha : s.line.access = .backoff 0) :
      Effect s (beginSending s q)
  | lineTurnsBusy (delimiter : Bool) (hr : s.receiving = true) : Effect s (startBit s delimiter)
  | mismatch (q : QFrame) (rest : List QFrame) (hq : s.line.queue = q :: rest) (hl : s.line.level = some true) :
      Effect s (frameMismatch s q)
  | frameSent (q : QFrame) (rest : List QFrame) (e : Nat) (stamp : Option ArrayTime) (hq : s.line.queue = q :: rest)
      (ha : s.line.access = .transmitting e stamp) (he : frameUs q ≤ e) : Effect s (frameDone s q)
  | sectionReset : Effect s (quietTest s)
  | engineStart : Effect s (engineKick s)
  | careErased (p : Nat) (hf : s.rm.flight = some (.careErase p)) (hp : p < pageCount) :
      Effect s (engineKick (careErased s p))
  | aheadErased (p : Nat) (hf : s.rm.flight = some (.aheadErase p)) (hp : p < pageCount) :
      Effect s (engineKick (captureTake (lookAhead (poolErased s p))))
  | wipeErased (p : Nat) (hf : s.rm.flight = some (.wipeErase p)) (hp : p < pageCount) :
      Effect s (engineKick (wipeErased s p))
  | captureProgramComplete (p : Nat) (bytes : List Byte) (hf : s.rm.flight = some (.recordProgram p bytes))
      (hp : p < pageCount) : Effect s (engineKick (recordProgramDone s p bytes))
  | careSnapshotComplete (p offset : Nat) (bytes : List Byte) (hf : s.rm.flight = some (.careProgram p offset bytes))
      (hp : p < pageCount) : Effect s (engineKick (careProgramDone s p offset bytes))
  | markComplete (m : MarkReq) (hf : s.rm.flight = some (.mark m)) (hp : m.page < pageCount) :
      Effect s (engineKick (markDone s m))
  | nominalMicrosecond (ha : s.awake = true) : Effect s (lineTick (uplinkTick { s with tb := s.tb.nominal }))

theorem next_inj {s t : State} (h : (.next s : Result) = .next t) : t = s := by cases h; rfl

/-- A row's work, done where its guard holds. -/
theorem doWhen_effect {c : Bool} {s t : State} {work : State → State} (h : doWhen c s work = .next t)
    (hw : c = true → Effect s (work s)) : Effect s t := by
  unfold doWhen at h
  cases next_inj h
  split
  · exact hw ‹_›
  · exact .idle

/-- The completion of an operation on a page of the memory. -/
theorem completeOn_effect {s u t : State} {p : Nat} (h : completeOn p u = .next t)
    (hw : p < pageCount → Effect s (engineKick u)) : Effect s t := by
  unfold completeOn at h
  split at h
  · cases h
  · cases next_inj h
    exact hw (Nat.lt_of_not_le ‹_›)

theorem channelEvent_effect {s t : State} {c : Channel} {n : ArrayTime} {w : SetWord}
    {hit : ChanState → ChanDet × Bool → Bool} (h : channelEvent s c n w hit = .next t) : Effect s t := by
  unfold channelEvent at h
  exact doWhen_effect h fun _ => .channelEvent _

/-- A query that is answered from the state as it stands, or as a bad request. -/
theorem readingQuery_effect {s : State} (q : QueryHeader) (code : Nat) (bad : Prop) [Decidable bad] (work : State → Reply)
    (hw : ∀ u, (work u).state = u) :
    Effect s (takeQuery s q (fun u => if bad then badRequest u q code else carryOut u q code work)) := by
  by_cases h : bad
  · simpa only [if_pos h] using .badRequest q code
  · simpa only [if_neg h] using .readingQuery q code work hw

/-- Every command leaves one of the effects. -/
theorem exec_effect {c : Instr} {s t : State} (h : exec c s = .next t) : Effect s t := by
  cases c with
  | powerOn => cases next_inj h; exact .start
  | brownOut a =>
    unfold exec execBrownOut at h
    exact doWhen_effect h fun _ => .brownOut a
  | brownOutRecovery | restartTakesEffect =>
    unfold exec execBrownOut at h
    exact doWhen_effect h fun _ => .start
  | profileRead r1 r2 r3 =>
    unfold exec execProfileRead at h
    exact doWhen_effect h fun hc => .profileRead _ (by simpa using hc)
  | careRestore =>
    unfold exec execCareRestore at h
    exact doWhen_effect h fun hc => .careRestore (by simpa using hc)
  | startUpScan =>
    unfold exec execStartUpScan at h
    exact doWhen_effect h fun hc => .startUpScan (by simpa using hc)
  | lineEnable =>
    unfold exec execLineEnable at h
    exact doWhen_effect h fun hc => .lineEnable (by simpa using hc)
  | samplerStart =>
    unfold exec execSamplerStart at h
    exact doWhen_effect h fun hc => .samplerStart (by simpa using hc)
  | sampleTick inp =>
    simp only [exec, execSampleTick] at h
    split at h
    · cases next_inj h; exact .idle
    · exact doWhen_effect h fun hc => .sampleTick inp _ hc ‹_›
  | settlingEnd c w => unfold exec execSettlingEnd at h; exact channelEvent_effect h
  | warmupEnd c w => unfold exec execWarmupEnd at h; exact channelEvent_effect h
  | channelTriggered c n w => unfold exec execChannelTriggered at h; exact channelEvent_effect h
  | triggerEnd c n w => unfold exec execTriggerEnd at h; exact channelEvent_effect h
  | maxTrigger c n w => unfold exec execMaxTrigger at h; exact channelEvent_effect h
  | captureTakeSet | captureEndTime | recordMaxReached | pageAllocation => exact doWhen_effect h fun _ => .captureMove
  | pickAged => exact doWhen_effect h fun _ => .pickAged
  | eventEnd => exact doWhen_effect h fun _ => .eventEnd
  | alertRepeatDue => exact doWhen_effect h fun _ => .alertRepeatDue
  | uplinkReportSent => exact doWhen_effect h fun hc => .uplinkReportSent (Bool.and_eq_true_iff.1 hc).2
  | schedule =>
    unfold exec execSchedule at h
    exact doWhen_effect h fun hc => .schedule (Bool.and_eq_true_iff.1 hc).2
  | owedSnapshot =>
    unfold exec execOwedSnapshot at h
    exact doWhen_effect h fun _ => .owedSnapshot
  | shedExit =>
    unfold exec execShedExit at h
    exact doWhen_effect h fun hc => .shedExit (Bool.and_eq_true_iff.1 hc).2
  | fullAnchor => exact doWhen_effect h fun _ => .fullAnchor
  | emptyAnchor => exact doWhen_effect h fun _ => .emptyAnchor
  | maxOn =>
    unfold exec execMaxOn at h
    exact doWhen_effect h fun _ => .maxOn
  | deferralExpired =>
    unfold exec execDeferralExpired at h
    exact doWhen_effect h fun hc => .deferralExpired _ (Bool.and_eq_true_iff.1 hc).2 rfl
  | heaterOpenClear =>
    unfold exec execHeaterOpenClear at h
    exact doWhen_effect h fun _ => .heaterOpenClear
  | exposureReset =>
    unfold exec execExposureReset at h
    exact doWhen_effect h fun _ => .exposureReset
  | openCheck hk =>
    unfold exec execOpenCheck at h
    exact doWhen_effect h fun hc => .openCheck hk (Bool.and_eq_true_iff.1 hc).2
  | steeringInstant =>
    exact doWhen_effect h fun hc => .steeringInstant (Bool.and_eq_true_iff.1 hc).1 (Bool.and_eq_true_iff.1 hc).2
  | peerExpiry =>
    refine doWhen_effect h fun hc => ?_
    obtain ⟨⟨ha, hr⟩, -⟩ : (s.awake = true ∧ instantReached s = true) ∧ instantExpires s = true := by simpa using hc
    exact .steeringInstant ha hr
  | ppsEdge => exact doWhen_effect h fun _ => .ppsEdge
  | beaconReceived f b =>
    simp only [exec, execBeaconReceived] at h
    split at h
    · cases next_inj h; exact .idle
    · cases next_inj h; exact .beaconReceived _ b _ ‹_›
  | pickFrameReceived f p => cases next_inj h; exact .pickFrameReceived _ p
  | alertFrameReceived f a =>
    simp only [exec, execAlertFrameReceived] at h
    split at h
    · cases next_inj h; exact .alertFrameReceived _ a ‹_›
    · exact doWhen_effect h .badFrame
  | badFrame f => exact doWhen_effect h fun hc => .badFrame (Bool.and_eq_true_iff.1 hc).1
  | frameNotHandedOn k f n =>
    unfold exec execFrameNotHandedOn at h
    exact doWhen_effect h fun _ => .frameNotHandedOn _ _
  | status q sect => cases next_inj h; exact readingQuery_effect q 1 _ _ fun _ => rfl
  | peer q i => cases next_inj h; exact .readingQuery q 2 _ fun _ => entryReply_state _ _
  | event q i => cases next_inj h; exact .readingQuery q 3 _ fun _ => entryReply_state _ _
  | record q i => cases next_inj h; exact .readingQuery q 4 _ fun _ => entryReply_state _ _
  | page q id i sl => cases next_inj h; exact readingQuery_effect q 5 _ _ fun _ => pageReply_state _ _ _ _
  | release q id => cases next_inj h; exact .release q _
  | wipe q => cases next_inj h; exact .wipe q
  | setSeconds q n => cases next_inj h; exact .setSeconds q _
  | latchClear q => cases next_inj h; exact .latchClear q
  | restart q => cases next_inj h; exact .restart q
  | badRequest q code args =>
    simp only [exec, execBadRequest] at h
    split at h
    · exact doWhen_effect h fun _ => .badRequest q _
    · exact doWhen_effect h .badFrame
  | idleGapMet =>
    simp only [exec, execIdleGapMet] at h
    split at h
    · exact doWhen_effect h fun _ => .idleGapMet _ _ ‹_› ‹_›
    · cases next_inj h; exact .idle
  | backoffExpiry =>
    simp only [exec, execBackoffExpiry] at h
    split at h
    · exact doWhen_effect h fun _ => .backoffExpiry _ _ ‹_› ‹_›
    · cases next_inj h; exact .idle
  | lineTurnsBusy d =>
    unfold exec execLineTurnsBusy at h
    exact doWhen_effect h (.lineTurnsBusy d)
  | mismatch =>
    simp only [exec, execMismatch] at h
    split at h
    · exact doWhen_effect h fun _ => .mismatch _ _ ‹_› ‹_›
    · cases next_inj h; exact .idle
  | frameSent =>
    simp only [exec, execFrameSent] at h
    split at h
    · exact doWhen_effect h fun hc => .frameSent _ _ _ _ ‹_› ‹_› (by simpa using (Bool.and_eq_true_iff.1 hc).2)
    · cases next_inj h; exact .idle
  | sectionReset => exact doWhen_effect h fun _ => .sectionReset
  | engineOperationStart => exact doWhen_effect h fun _ => .engineStart
  | eraseComplete =>
    simp only [exec, execEraseComplete] at h
    split at h
    · exact completeOn_effect h (.careErased _ ‹_›)
    · exact completeOn_effect h (.aheadErased _ ‹_›)
    · exact completeOn_effect h (.wipeErased _ ‹_›)
    · cases next_inj h; exact .idle
  | captureProgramComplete =>
    simp only [exec, execCaptureProgramComplete] at h
    split at h
    · exact completeOn_effect h (.captureProgramComplete _ _ ‹_›)
    · cases next_inj h; exact .idle
  | careSnapshotComplete =>
    simp only [exec, execCareSnapshotComplete] at h
    split at h
    · exact completeOn_effect h (.careSnapshotComplete _ _ _ ‹_›)
    · cases next_inj h; exact .idle
  | markComplete =>
    simp only [exec, execMarkComplete] at h
    split at h
    · exact completeOn_effect h (.markComplete _ ‹_›)
    · cases next_inj h; exact .idle
  | nominalMicrosecond =>
    unfold exec execNominalMicrosecond at h
    exact doWhen_effect h .nominalMicrosecond

/-- A step leaves one of the effects of the front command on the state with the queue's rest, or nothing. -/
theorem step_effect {s t : State} (h : step s = .next t) :
    t = s ∨ ∃ rest, Effect { s with pending := rest } t := by
  unfold step at h
  split at h
  · exact .inl (next_inj h)
  · exact .inr ⟨_, exec_effect h⟩

end Sys2Proof.Machine

/-! SUPPORT. The Timebase under every operation: the grade that agrees with the time state, and the ranges (R1 to R5). -/

namespace Sys2Proof.Machine

/-! ### What an operation of the Timebase keeps -/

/-- The Timebase's ranges (R1 to R3). -/
def Timebase.ranged (b : Timebase) : Prop :=
  b.clock.sec ≤ 4294967295 ∧ b.clock.us ≤ 999999 ∧ |b.residual| ≤ 999999999 ∧
    |b.steerF| ≤ 100000 ∧ |b.p| ≤ 50000 ∧ |b.tc| ≤ 50000

theorem clockInv_iff (s : State) : clockInv s ↔ s.tb.ranged := Iff.rfl

/-- A Timebase `b` meets each of the two invariants that a Timebase `a` meets. -/
structure Timebase.Keeps (a b : Timebase) : Prop where
  grade : gradeAgrees a.state a.grade = true → gradeAgrees b.state b.grade = true
  range : a.ranged → b.ranged

/-- What the two invariants read of a Timebase. -/
def Timebase.values (b : Timebase) : TimeState × Nat × ArrayTime × Int × Int × Int × Int :=
  (b.state, b.grade, b.clock, b.residual, b.steerF, b.p, b.tc)

theorem Timebase.Keeps.of_values {a b : Timebase} (h : b.values = a.values) : a.Keeps b := by
  simp only [Timebase.values, Prod.mk.injEq] at h
  obtain ⟨h1, h2, h3, h4, h5, h6, h7⟩ := h
  exact ⟨by rw [h1, h2]; exact id, by unfold Timebase.ranged; rw [h3, h4, h5, h6, h7]; exact id⟩

theorem Timebase.Keeps.of_eq {a b : Timebase} (h : b = a) : a.Keeps b := by subst h; exact ⟨id, id⟩

/-- A Timebase whose time state and grade alone are new keeps its ranges. -/
theorem Timebase.Keeps.of_state {a b : Timebase} (hg : gradeAgrees a.state a.grade = true → gradeAgrees b.state b.grade = true)
    (hc : b.clock = a.clock) (hr : b.residual = a.residual) (hs : b.steerF = a.steerF) (hp : b.p = a.p) (ht : b.tc = a.tc) :
    a.Keeps b :=
  ⟨hg, by unfold Timebase.ranged; rw [hc, hr, hs, hp, ht]; exact id⟩

theorem Timebase.Keeps.of_grade (b : Timebase) (g : Nat)
    (h : gradeAgrees b.state b.grade = true → gradeAgrees b.state g = true) : b.Keeps { b with grade := g } :=
  .of_state h rfl rfl rfl rfl rfl

theorem Timebase.Keeps.trans {a b c : Timebase} (h : a.Keeps b) (k : b.Keeps c) : a.Keeps c :=
  ⟨k.grade ∘ h.grade, k.range ∘ h.range⟩

/-! ### Operations that leave the values -/

@[simp] theorem dropSeed_values (b : Timebase) (gone : Nat → Bool) : (b.dropSeed gone).values = b.values := by
  unfold Timebase.dropSeed
  split
  · rfl
  · split <;> rfl

@[simp] theorem offerSeed_values (t : Timebase) (p : Profile) (sender : Nat) (b : BeaconPayload) (r : ArrayTime) :
    (t.offerSeed p sender b r).values = t.values := by
  unfold Timebase.offerSeed
  dsimp only
  generalize (_ && _ : Bool) = c
  cases c <;> rfl

@[simp] theorem rescheduleTick_values (s : State) : (rescheduleTick s).tb.values = s.tb.values := by
  unfold rescheduleTick
  split <;> rfl

@[simp] theorem detectorOff_tb (s : State) : (detectorOff s).tb = s.tb := by simp

@[simp] theorem announceShed_values (s : State) (old : Nat) : (announceShed s old).tb.values = s.tb.values := by
  unfold announceShed
  split
  · simp
  · split <;> simp

@[simp] theorem setShed_values (s : State) (level : Nat) : (setShed s level).tb.values = s.tb.values := by
  simp [setShed]

@[simp] theorem evaluateShed_values (s : State) : (evaluateShed s).tb.values = s.tb.values := by
  unfold evaluateShed exitRule
  split
  · simp
  · split
    · rfl
    · dsimp only
      split <;> simp

@[simp] theorem removePeers_values (s : State) (gone : PeerEntry → Bool) :
    (removePeers s gone).tb.values = s.tb.values := by simp [removePeers]

@[simp] theorem createPeer_values (s : State) (sender : Nat) (b : BeaconPayload) (r : ArrayTime) :
    (createPeer s sender b r).tb.values = s.tb.values := by simp [createPeer]

@[simp] theorem peerBeacon_values (s : State) (sender : Nat) (b : BeaconPayload) (r : ArrayTime) :
    (peerBeacon s sender b r).tb.values = s.tb.values := by
  unfold peerBeacon
  (repeat' split) <;> simp

@[simp] theorem latchClearWork_values (s : State) : (latchClearWork s).tb.values = s.tb.values := by
  simp [latchClearWork, clearCounters, Timebase.values]

/-! ### Operations that move the values -/

theorem abs_clampInt_le {k : Int} (hk : 0 ≤ k) (x : Int) : |clampInt (-k) k x| ≤ k :=
  abs_le.2 (clampInt_range (by omega) x)

/-- The accumulator stays within its range at a nominal microsecond, since the correction never exceeds 150,000 (R2, R3). -/
theorem nominal_residual (b : Timebase) (h : |b.residual| ≤ 999999999) : |b.nominal.residual| ≤ 999999999 := by
  have hc := correction_range b
  rw [abs_le] at h ⊢
  simp only [Timebase.nominal]
  split_ifs <;> dsimp only <;> omega

theorem nominal_keeps (b : Timebase) : b.Keeps b.nominal := by
  have hg : b.nominal.state = b.state ∧ b.nominal.grade = b.grade ∧ b.nominal.steerF = b.steerF ∧ b.nominal.p = b.p ∧
      b.nominal.tc = b.tc ∧ (b.nominal.clock = b.clock ∨ ∃ d, b.nominal.clock = addUs b.clock d) := by
    simp only [Timebase.nominal]
    split_ifs <;> simp
  obtain ⟨h1, h2, h3, h4, h5, h6⟩ := hg
  refine ⟨by rw [h1, h2]; exact id, fun ⟨r1, r2, r3, r4, r5, r6⟩ => ?_⟩
  have hclock : b.nominal.clock.sec ≤ 4294967295 ∧ b.nominal.clock.us ≤ 999999 := by
    rcases h6 with h | ⟨d, h⟩ <;> rw [h]
    · exact ⟨r1, r2⟩
    · exact addUs_range _ _
  exact ⟨hclock.1, hclock.2, nominal_residual b r3, by rwa [h3], by rwa [h4], by rwa [h5]⟩

theorem stepClock_keeps (s : State) (d : Int) : s.tb.Keeps (stepClock s d).tb :=
  ⟨id, fun ⟨_, _, _, h4, _, h6⟩ =>
    ⟨(addUs_range _ _).1, (addUs_range _ _).2, by simp [stepClock], h4, by simp [stepClock], h6⟩⟩

theorem piUpdate_keeps (b : Timebase) (e t : Int) : b.Keeps (b.piUpdate e t) :=
  ⟨id, fun ⟨h1, h2, h3, _, _, h6⟩ =>
    ⟨h1, h2, h3, abs_clampInt_le (by decide) _, abs_clampInt_le (by decide) _, h6⟩⟩

theorem correctBy_keeps (s : State) (e t : Int) : s.tb.Keeps (correctBy s e t).tb := by
  unfold correctBy
  split
  · exact stepClock_keeps s _
  · exact piUpdate_keeps s.tb e t

theorem clearP_keeps (s : State) : s.tb.Keeps (clearP s).tb :=
  ⟨id, fun ⟨h1, h2, h3, h4, _, h6⟩ => ⟨h1, h2, h3, h4, by simp [clearP], h6⟩⟩

theorem formTc_keeps (b : Timebase) (p : Profile) (temp : Int) : b.Keeps (b.formTc p temp) :=
  ⟨id, fun ⟨h1, h2, h3, h4, h5, _⟩ => ⟨h1, h2, h3, h4, h5, abs_clampInt_le (by decide) _⟩⟩

/-- A time state entered with a grade that agrees with it where the former grade agreed with the former state. -/
theorem enterState_keeps (s : State) (state : TimeState) (grade : Nat)
    (h : gradeAgrees s.tb.state s.tb.grade = true → gradeAgrees state grade = true) :
    s.tb.Keeps (enterState s state grade).tb := .of_state h rfl rfl rfl rfl rfl

theorem leaveUnset_values (s : State) : (leaveUnset s).tb.values = s.tb.values := rfl

theorem gradeAgrees_holdover {g : Nat} (h : 1 ≤ g ∧ g ≤ 14) : gradeAgrees .holdover g = true := by
  simp [gradeAgrees, h.1, h.2]

theorem enterHoldover_keeps (s : State) (g : Nat) : s.tb.Keeps (enterHoldover s g).tb :=
  .of_state (fun _ => gradeAgrees_holdover (holdoverGrade_range _ _ _)) rfl rfl rfl rfl rfl

/-- The HOLDOVER grade is formed anew in HOLDOVER alone (R6). -/
theorem reformGrade_cases (s : State) :
    reformGrade s = s ∨ ∃ h, s.tb.state = .holdover ∧ s.tb.holdover = some h ∧
      reformGrade s = { s with tb := { s.tb with grade := holdoverGrade h s.sampler.latest.encTemp s.tb.clock } } := by
  unfold reformGrade
  split
  · exact .inr ⟨_, ‹_›, ‹_›, rfl⟩
  · exact .inl rfl

theorem reformGrade_keeps (s : State) : s.tb.Keeps (reformGrade s).tb := by
  obtain h | ⟨h, hs, -, he⟩ := reformGrade_cases s
  · rw [h]; exact .of_eq rfl
  · rw [he]
    refine Timebase.Keeps.of_grade s.tb _ fun _ => ?_
    rw [hs]
    exact gradeAgrees_holdover (holdoverGrade_range _ _ _)

/-! ### The paths of an instant -/

theorem gradeAgrees_following (g : Nat) : gradeAgrees .following (min (g + 1) 14) = true := by
  simp [gradeAgrees]

theorem seedStep_keeps (s : State) (seed : Seed) (g : Nat) : s.tb.Keeps (seedStep s seed g).tb := by
  unfold seedStep
  exact (stepClock_keeps s _).trans ((enterState_keeps _ _ _ fun _ => gradeAgrees_following g).trans (.of_values (leaveUnset_values _)))

theorem unsetPath_keeps (s : State) : s.tb.Keeps (unsetPath s).tb := by
  unfold unsetPath
  split
  · exact seedStep_keeps _ _ _
  · exact clearP_keeps s

theorem holdoverPath_keeps (s : State) (g : Nat) : s.tb.Keeps (holdoverPath s g).tb := by
  unfold holdoverPath
  split
  · exact clearP_keeps s
  · exact (enterHoldover_keeps s g).trans (clearP_keeps _)

/-- The own grade on the paths outside UNSET lies from 1 to 14, as CONSENSUS asks (R5, R16). -/
theorem peerPath_keeps (s : State) (own : Nat) (h : gradeAgrees s.tb.state s.tb.grade = true → 1 ≤ own ∧ own ≤ 14) :
    s.tb.Keeps (peerPath s own).tb := by
  unfold peerPath
  split
  · exact holdoverPath_keeps s own
  · split
    · exact (enterState_keeps s .following _ fun _ => gradeAgrees_following _).trans (correctBy_keeps _ _ _)
    · split
      · refine (enterState_keeps s .consensus own fun hs => ?_).trans (correctBy_keeps _ _ _)
        simp [gradeAgrees, h hs]
      · exact holdoverPath_keeps s own

theorem steerPath_keeps (s : State) : s.tb.Keeps (steerPath s).tb := by
  unfold steerPath
  split
  · exact unsetPath_keeps s
  · split
    · exact peerPath_keeps s 1 fun _ => by decide
    · exact clearP_keeps s
  · refine peerPath_keeps s s.tb.grade fun h => ?_
    cases hs : s.tb.state <;> simp_all [gradeAgrees]

theorem clearStepped_keeps (s : State) : s.tb.Keeps (clearStepped s).tb := .of_values rfl

theorem shiftedInstant_keeps (s : State) : s.tb.Keeps (shiftedInstant s).tb :=
  (clearStepped_keeps s).trans ((reformGrade_keeps (clearStepped s)).trans (steerPath_keeps _))

theorem steeringWork_values (s : State) : (steeringWork s).tb.values = (shiftedInstant s).tb.values := by
  unfold steeringWork
  calc (askBeacon (scheduleInstant (emptySeed (expirePeers (shiftedInstant s))))).tb.values
      _ = (scheduleInstant (emptySeed (expirePeers (shiftedInstant s)))).tb.values := by simp
      _ = (expirePeers (shiftedInstant s)).tb.values := rfl
      _ = (shiftedInstant s).tb.values := removePeers_values _ _

theorem steeringWork_keeps (s : State) : s.tb.Keeps (steeringWork s).tb :=
  (shiftedInstant_keeps s).trans (.of_values (steeringWork_values s))

/-! ### The PPS edge, SET SECONDS and the section reset -/

theorem ppsReacquire_keeps (s : State) (e : Int) : s.tb.Keeps (ppsReacquire s e).tb := by
  unfold ppsReacquire
  refine (stepClock_keeps s (-e)).trans ?_
  dsimp only
  split
  · exact .of_values rfl
  · exact enterState_keeps _ _ _ fun _ => rfl

theorem ppsAlign_keeps (s : State) (e : Int) : s.tb.Keeps (ppsAlign s e).tb := by
  unfold ppsAlign
  split
  · exact .of_values rfl
  · exact (stepClock_keeps s (-e)).trans (.of_values rfl)

theorem ppsAnchor_keeps (s : State) (e : Int) : s.tb.Keeps (ppsAnchor s e).tb := by
  unfold ppsAnchor
  refine (enterState_keeps s .anchored 0 fun _ => rfl).trans ?_
  dsimp only
  split
  · exact .of_eq rfl
  · exact correctBy_keeps _ _ _

theorem ppsTaken_keeps (s : State) : s.tb.Keeps (ppsTaken s).tb := .of_values rfl

theorem ppsRejected_keeps (s : State) : s.tb.Keeps (ppsRejected s).tb := .of_values rfl

theorem ppsEdgeWork_keeps (s : State) : s.tb.Keeps (ppsEdgeWork s).tb := by
  unfold ppsEdgeWork
  dsimp only
  split_ifs
  · exact (ppsReacquire_keeps s _).trans (ppsTaken_keeps _)
  · exact (ppsAlign_keeps s _).trans (ppsTaken_keeps _)
  · exact ppsRejected_keeps s
  · exact (ppsAnchor_keeps s _).trans (ppsTaken_keeps _)
  · exact ppsRejected_keeps s

theorem setSecondsWork_keeps (s : State) (n : Nat) : s.tb.Keeps (setSecondsWork s n).tb := by
  unfold setSecondsWork
  dsimp only
  refine (stepClock_keeps s (((n : Int) - s.tb.clock.sec) * 1000000)).trans ((enterHoldover_keeps _ 14).trans ?_)
  split
  · exact .of_values (leaveUnset_values _)
  · exact .of_eq rfl

theorem secondsReply_keeps (s : State) (n : Nat) : s.tb.Keeps (secondsReply s n).state.tb := by
  unfold secondsReply
  split
  · exact setSecondsWork_keeps s n
  · exact .of_eq rfl

theorem sectionTime_keeps (s : State) : s.tb.Keeps (sectionTime s).tb := by
  unfold sectionTime
  split
  · exact (enterHoldover_keeps s _).trans (clearP_keeps _)
  · exact .of_eq rfl

theorem quietTest_keeps (s : State) : s.tb.Keeps (quietTest s).tb := by
  unfold quietTest sectionResetWork
  split
  · exact Timebase.Keeps.trans (.of_values (by simp)) (sectionTime_keeps _)
  · exact .of_eq rfl

/-! ### The sample tick -/

theorem tickSweeps_keeps (s : State) : s.tb.Keeps (tickSweeps s).tb := by
  simpa [tickSweeps] using quietTest_keeps (scheduleTest (repeatSweep (endSweep (ageSweep s))))

theorem enclosureWork_keeps (s : State) (r : Option Int) : s.tb.Keeps (enclosureWork s r).tb := by
  unfold enclosureWork
  cases r with
  | none => exact reformGrade_keeps s
  | some v => exact (formTc_keeps s.tb s.profile v).trans (reformGrade_keeps { s with tb := s.tb.formTc s.profile v })

theorem hkReaders_keeps (s : State) (i : HkInput) (n : ArrayTime) (r : Option Int) : s.tb.Keeps (hkReaders s i n r).tb := by
  cases i with
  | batVolt => exact .of_values (by simp [hkReaders, batteryVoltage])
  | batCurr => exact .of_values (by simp [hkReaders, batteryCurrent])
  | batTemp => exact .of_values (by simp [hkReaders])
  | encTemp => exact enclosureWork_keeps s r
  | heatCurr => exact .of_values (by simp [hkReaders])
  | srcVolt => exact .of_eq rfl

theorem samplerWork_keeps (s : State) (inp : TickInput) (n : ArrayTime) : s.tb.Keeps (samplerWork s inp n).tb := by
  unfold samplerWork
  dsimp only
  rw [show ∀ u, (engineKick u).tb = u.tb from fun u => by simp]
  refine Timebase.Keeps.trans (.of_values ?_) (hkReaders_keeps _ _ n _)
  split <;> simp [channelPower]

theorem tickWork_keeps (s : State) (inp : TickInput) (n : ArrayTime) : s.tb.Keeps (tickWork s inp n).tb := by
  unfold tickWork
  exact Timebase.Keeps.trans (b := (issueTick s n).tb) (.of_values rfl)
    ((tickSweeps_keeps _).trans (samplerWork_keeps _ inp n))

/-! ### Heard frames and queries -/

/-- A heard frame keeps the Timebase where its work does. -/
theorem takeFrame_keepsTime (s : State) (kind sender : Nat) (work : State → State) (h : ∀ u : State, u.tb.Keeps (work u).tb) :
    s.tb.Keeps (takeFrame s kind sender work).tb := by
  rcases takeFrame_cases s kind sender work with hc | hc | hc <;> rw [hc]
  · exact .of_eq rfl
  · exact .of_eq (by simp)
  · simpa using h (screenFrame (endFrame s) kind sender)

/-- A query keeps the Timebase where its work does. -/
theorem takeQuery_keepsTime (s : State) (q : QueryHeader) (code : Nat) (work : State → Reply)
    (h : ∀ u : State, u.tb.Keeps (work u).state.tb) : s.tb.Keeps (takeQuery s q (fun u => carryOut u q code work)).tb := by
  unfold takeQuery
  refine takeFrame_keepsTime s _ _ _ fun u => ?_
  split
  · unfold carryOut
    dsimp only
    split
    · exact .of_eq (by simp)
    · simpa using h u
  · exact .of_eq rfl

/-! ### Every command -/

theorem Effect.keepsTime {s t : State} (h : Effect s t) : s.tb.Keeps t.tb := by
  cases h with
  | start => exact ⟨fun _ => rfl, fun _ => by simp [startState, State.reset, Timebase.reset, timeZero, Timebase.ranged]⟩
  | lineEnable | samplerStart => exact .of_values rfl
  | sampleTick inp n => exact tickWork_keeps s inp n
  | shedExit => exact .of_values (by simp)
  | steeringInstant => exact steeringWork_keeps s
  | ppsEdge => exact ppsEdgeWork_keeps s
  | beaconReceived sender b r => exact takeFrame_keepsTime s _ _ _ fun u => .of_values (peerBeacon_values u _ _ _)
  | readingQuery q code work hw => exact takeQuery_keepsTime s q code work fun u => .of_eq (by rw [hw])
  | setSeconds q n => exact takeQuery_keepsTime s q 8 _ fun u => secondsReply_keeps u n
  | latchClear q => exact takeQuery_keepsTime s q 9 _ fun u => .of_values (latchClearWork_values u)
  | sectionReset => exact quietTest_keeps s
  | nominalMicrosecond => simpa using nominal_keeps s.tb
  | _ => exact .of_eq (by simp)

end Sys2Proof.Machine

namespace Sys2Proof.Proofs

open Sys2Proof.Machine

/-- Settles O4: each command's work on the Timebase keeps both invariants. -/
theorem timebaseStaysInRange : Obligations.TimebaseStaysInRange := by
  have keeps : ∀ s t : State, step s = .next t → s.tb.Keeps t.tb := by
    intro s t h
    rcases step_effect h with rfl | ⟨rest, he⟩
    · exact .of_eq rfl
    · exact he.keepsTime
  exact ⟨fun s t hs h => (keeps s t h).grade hs, fun s t hs h => (keeps s t h).range hs⟩

end Sys2Proof.Proofs

/-! SUPPORT. The transmit queue, access to the line and the ring under every operation: their bounds (R12, R52, R189, R190). -/

namespace Sys2Proof.Machine

/-! ### The bounds of the line -/

/-- The bounds of the transmit queue, of access and of the frame in transmission. -/
structure Line.Bounded (l : Line) : Prop where
  length : l.queue.length ≤ 8
  beacons : (l.queue.filter QFrame.isBeacon).length ≤ 1
  idle : l.access = .idle ↔ l.queue = []
  driven : l.driven.isSome = l.sending
  silence : l.silence ≤ 736
  sent : ∀ e stamp q rest, l.access = .transmitting e stamp → l.queue = q :: rest →
    e ≤ frameUs q ∧ (stamp.isSome = true ↔ q.isBeacon = true ∧ 320 ≤ e)

theorem queueInv_iff (s : State) : queueInv s ↔ s.line.Bounded :=
  ⟨fun ⟨h1, h2, h3, h4, h5, h6⟩ => ⟨h1, h2, h3, h4, h5, h6⟩, fun ⟨h1, h2, h3, h4, h5, h6⟩ => ⟨h1, h2, h3, h4, h5, h6⟩⟩

theorem Line.sending_iff (l : Line) : l.sending = true ↔ ∃ e stamp, l.access = .transmitting e stamp := by
  unfold Line.sending
  cases l.access <;> simp

theorem Line.sending_congr {a b : Line} (h : b.access = a.access) : b.sending = a.sending := by
  unfold Line.sending; rw [h]

/-- The bounds read the queue, the access, the driven levels and the silence alone. -/
theorem Line.Bounded.congr {a b : Line} (h : a.Bounded) (hq : b.queue = a.queue) (ha : b.access = a.access)
    (hd : b.driven = a.driven) (hs : b.silence = a.silence) : b.Bounded where
  length := hq ▸ h.length
  beacons := hq ▸ h.beacons
  idle := by rw [hq, ha]; exact h.idle
  driven := by rw [hd, Line.sending_congr ha]; exact h.driven
  silence := hs ▸ h.silence
  sent := by rw [hq, ha]; exact h.sent

/-- The bounds where nothing is in transmission. -/
theorem Line.Bounded.of_unsent {l : Line} (hl : l.queue.length ≤ 8) (hb : (l.queue.filter QFrame.isBeacon).length ≤ 1)
    (hi : l.access = .idle ↔ l.queue = []) (hn : l.sending = false) (hd : l.driven = none) (hs : l.silence ≤ 736) :
    l.Bounded where
  length := hl
  beacons := hb
  idle := hi
  driven := by rw [hn, hd]; rfl
  silence := hs
  sent e stamp q rest ha _ := by
    rw [(l.sending_iff).2 ⟨e, stamp, ha⟩] at hn
    cases hn

theorem Line.Bounded.driven_none {l : Line} (h : l.Bounded) (hn : l.sending = false) : l.driven = none := by
  have := h.driven
  rw [hn] at this
  simpa using this

/-- A frame in transmission stands at the head of the queue. -/
theorem Line.Bounded.head_of_sending {l : Line} (h : l.Bounded) (hs : l.sending = true) : l.queue ≠ [] := by
  intro hq
  obtain ⟨e, stamp, ha⟩ := (l.sending_iff).1 hs
  rw [h.idle.2 hq] at ha
  cases ha

theorem freshAccess_idle_iff (queue : List QFrame) : freshAccess queue = .idle ↔ queue = [] := by
  unfold freshAccess
  split <;> simp [*]

theorem sending_of_freshAccess {l : Line} {queue : List QFrame} (h : l.access = freshAccess queue) : l.sending = false := by
  unfold Line.sending freshAccess at *
  rw [h]
  cases queue <;> rfl

/-- The bounds where the head of the queue stays, and access and the driven levels with it. -/
theorem Line.Bounded.of_head {l : Line} (h : l.Bounded) {x : QFrame} {rest tail : List QFrame} (hq : l.queue = x :: rest)
    (hl : tail.length ≤ 7) (hb : ((x :: tail).filter QFrame.isBeacon).length ≤ 1) :
    Line.Bounded { l with queue := x :: tail } where
  length := Nat.succ_le_succ hl
  beacons := hb
  idle := by simp [h.idle, hq]
  driven := h.driven
  silence := h.silence
  sent e stamp y t ha hy := by
    cases hy
    exact h.sent e stamp x rest ha hq

/-! ### The queue under the acceptance and the removal of a frame -/

/-- Where a frame is placed does not matter to what stands in the queue (R189). -/
theorem placeNewest_perm (q : QFrame) (queue : List QFrame) : (placeNewest q queue).Perm (q :: queue) := by
  induction queue with
  | nil => exact .refl _
  | cons x rest ih =>
    unfold placeNewest
    split
    · exact (ih.cons x).trans (.swap q x rest)
    · exact .refl _

theorem placeNewest_length (q : QFrame) (queue : List QFrame) : (placeNewest q queue).length = queue.length + 1 :=
  (placeNewest_perm q queue).length_eq

/-- How many BEACONs a queue holds. -/
def beaconCount (queue : List QFrame) : Nat := (queue.filter QFrame.isBeacon).length

theorem beaconCount_cons (q : QFrame) (queue : List QFrame) :
    beaconCount (q :: queue) = (if q.isBeacon then 1 else 0) + beaconCount queue := by
  unfold beaconCount
  rw [List.filter_cons]
  split <;> simp [Nat.add_comm]

theorem beaconCount_placeNewest (q : QFrame) (queue : List QFrame) :
    beaconCount (placeNewest q queue) = (if q.isBeacon then 1 else 0) + beaconCount queue := by
  rw [← beaconCount_cons]
  exact ((placeNewest_perm q queue).filter _).length_eq

/-- A frame accepted where there is room for it keeps the bounds. -/
theorem accept_bounded {l : Line} (h : l.Bounded) (q : QFrame) (hroom : l.queue.length ≤ 7)
    (hb : (if q.isBeacon then 1 else 0) + beaconCount l.queue ≤ 1) : (l.accept q).Bounded := by
  unfold Line.accept
  split
  · rename_i hq
    have hn : l.sending = false := by
      cases hs : l.sending
      · rfl
      · exact absurd hq (h.head_of_sending hs)
    refine .of_unsent (by simp) ?_ (by simp) rfl (h.driven_none hn) h.silence
    exact (List.length_filter_le _ _).trans (by simp)
  · rename_i x rest hq
    rw [hq] at hb hroom
    have hlen : rest.length + 1 ≤ 7 := hroom
    split
    · refine h.of_head hq (by rw [placeNewest_length]; exact hlen) ?_
      change beaconCount (x :: placeNewest q rest) ≤ 1
      rw [beaconCount_cons, beaconCount_placeNewest]
      rw [beaconCount_cons] at hb
      omega
    · rename_i hs
      have hn : l.sending = false := by simpa using hs
      refine .of_unsent ?_ ?_ ?_ ?_ (h.driven_none hn) h.silence
      · simp only [placeNewest_length, List.length_cons]; omega
      · exact (beaconCount_placeNewest q (x :: rest)).trans_le hb
      · have hne : placeNewest q (x :: rest) ≠ [] := by
          intro he
          simpa [he] using placeNewest_length q (x :: rest)
        dsimp only
        split <;> simp [h.idle, hq, hne]
      · cases standsBehind q (x :: rest)
        · rfl
        · exact hn

/-- What the removal of the first waiting frame that satisfies a test leaves: the head stays, or it leaves unsent. -/
theorem dropFirst_cases (l : Line) (p : QFrame → Bool) :
    (l.queue = [] ∧ l.dropFirst p = l) ∨
    (∃ x rest, l.queue = x :: rest ∧ (l.sending = true ∨ p x = false) ∧
      l.dropFirst p = { l with queue := x :: rest.eraseP p }) ∨
    ∃ x rest, l.queue = x :: rest ∧ l.sending = false ∧ p x = true ∧
      l.dropFirst p = { l with queue := rest, access := freshAccess rest } := by
  unfold Line.dropFirst
  split
  · exact .inl ⟨‹_›, rfl⟩
  · rename_i x rest hq
    refine .inr ?_
    cases hs : l.sending
    · cases hp : p x
      · exact .inl ⟨x, rest, hq, .inr hp, by simp⟩
      · exact .inr ⟨x, rest, hq, rfl, hp, by simp⟩
    · exact .inl ⟨x, rest, hq, .inl rfl, by simp⟩

theorem dropFirst_bounded {l : Line} (h : l.Bounded) (p : QFrame → Bool) : (l.dropFirst p).Bounded := by
  have hlen := h.length
  have hbeacons := h.beacons
  obtain ⟨-, he⟩ | ⟨x, rest, hq, -, he⟩ | ⟨x, rest, hq, hn, -, he⟩ := dropFirst_cases l p <;> rw [he]
  · exact h
  · rw [hq] at hlen hbeacons
    have hsub : (rest.eraseP p).Sublist rest := List.eraseP_sublist
    exact h.of_head hq (hsub.length_le.trans (Nat.le_of_succ_le_succ hlen))
      (((hsub.cons_cons x).filter _).length_le.trans hbeacons)
  · rw [hq] at hlen hbeacons
    have hsub : rest.Sublist (x :: rest) := List.sublist_cons_self x rest
    exact .of_unsent (hsub.length_le.trans hlen) ((hsub.filter _).length_le.trans hbeacons) (freshAccess_idle_iff rest)
      (sending_of_freshAccess (queue := rest) rfl) (h.driven_none hn) h.silence

/-- A frame leaves where a waiting frame satisfies the test. -/
theorem dropFirst_length {l : Line} {p : QFrame → Bool} (h : ∃ x ∈ l.waitingFrames, p x = true) :
    (l.dropFirst p).queue.length + 1 = l.queue.length := by
  obtain ⟨y, hy, hpy⟩ := h
  have herase : ∀ queue : List QFrame, y ∈ queue → (queue.eraseP p).length + 1 = queue.length := by
    intro queue hm
    have hpos := List.length_pos_of_mem hm
    rw [List.length_eraseP_of_mem hm hpy]
    omega
  unfold Line.waitingFrames at hy
  obtain ⟨hq, -⟩ | ⟨x, rest, hq, hor, he⟩ | ⟨x, rest, hq, hn, -, he⟩ := dropFirst_cases l p
  · simp [hq] at hy
  · rw [he, hq]
    have hm : y ∈ rest := by
      rcases hor with hs | hp
      · simpa [hs, hq] using hy
      · cases hs : l.sending <;> simp only [hs, hq] at hy
        · rcases List.mem_cons.1 hy with rfl | hm
          · rw [hp] at hpy; cases hpy
          · exact hm
        · exact hy
    exact congrArg (· + 1) (herase rest hm)
  · rw [he, hq]; rfl

/-- The removal of the first BEACON of a queue that holds at most one leaves none. -/
theorem beaconCount_eraseP {queue : List QFrame} (hb : beaconCount queue ≤ 1) (h : ∃ x ∈ queue, x.isBeacon = true) :
    beaconCount (queue.eraseP QFrame.isBeacon) = 0 := by
  obtain ⟨y, hm, hy⟩ := h
  obtain ⟨a, l₁, l₂, -, ha, hq, he⟩ := List.exists_of_eraseP hm hy
  unfold beaconCount at *
  rw [hq] at hb
  rw [he]
  simp only [List.filter_append, List.filter_cons, ha, if_true, List.length_append, List.length_cons] at hb ⊢
  omega

/-- A BEACON's replacement removes the former one (R189). -/
theorem dropFirst_beaconCount {l : Line} (hb : beaconCount l.queue ≤ 1) (h : ∃ x ∈ l.waitingFrames, x.isBeacon = true) :
    beaconCount (l.dropFirst QFrame.isBeacon).queue = 0 := by
  obtain ⟨y, hy, hpy⟩ := h
  unfold Line.waitingFrames at hy
  obtain ⟨hq, -⟩ | ⟨x, rest, hq, hor, he⟩ | ⟨x, rest, hq, hn, hp, he⟩ := dropFirst_cases l QFrame.isBeacon
  · simp [hq] at hy
  · rw [he]
    rw [hq] at hb hy
    change beaconCount (x :: rest.eraseP QFrame.isBeacon) = 0
    rw [beaconCount_cons] at hb ⊢
    have hm : y ∈ rest := by
      rcases hor with hs | hp
      · simpa [hs] using hy
      · have hm : y ∈ x :: rest := by
          split at hy
          · exact List.mem_cons_of_mem x hy
          · exact hy
        rcases List.mem_cons.1 hm with rfl | hm
        · rw [hp] at hpy; cases hpy
        · exact hm
    have hpos : 0 < beaconCount rest := List.length_pos_of_mem (List.mem_filter.2 ⟨hm, hpy⟩)
    rw [beaconCount_eraseP (by omega) ⟨y, hm, hpy⟩]
    omega
  · rw [hq, beaconCount_cons, hp] at hb
    rw [he]
    simp only [if_true] at hb
    show beaconCount rest = 0
    omega

/-- Some waiting frame has the lowest priority, where it is below that of some frame (R189). -/
theorem lowestPriority_attained {l : Line} (h : l.lowestPriority < 3) :
    ∃ x ∈ l.waitingFrames, x.frame.priority = l.lowestPriority := by
  have key : ∀ (frames : List QFrame) (m : Nat), frames.foldl (fun m q => min m q.frame.priority) m = m ∨
      ∃ x ∈ frames, x.frame.priority = frames.foldl (fun m q => min m q.frame.priority) m := by
    intro frames
    induction frames with
    | nil => exact fun m => .inl rfl
    | cons x rest ih =>
      intro m
      simp only [List.foldl_cons]
      rcases ih (min m x.frame.priority) with h | ⟨y, hy, h⟩
      · rw [h]
        rcases Nat.le_total m x.frame.priority with hm | hm
        · exact .inl (Nat.min_eq_left hm)
        · exact .inr ⟨x, List.mem_cons_self, (Nat.min_eq_right hm).symm⟩
      · exact .inr ⟨y, List.mem_cons_of_mem x hy, h⟩
  rcases key l.waitingFrames 3 with h3 | h3
  · exact absurd h (by unfold Line.lowestPriority; rw [h3]; exact Nat.lt_irrefl 3)
  · exact h3

theorem priority_le (f : Frame) : f.priority ≤ 2 := by cases f <;> simp [Frame.priority]

theorem priority_of_isBeacon {f : Frame} (h : f.isBeacon = true) : f.priority = 0 := by
  cases f with
  | beacon _ => rfl
  | _ => cases h

theorem numbered_frame (l : Line) (f : Frame) (n : Option Nat) : (l.numbered f n).2.frame = f := by cases n <;> rfl

theorem numbered_isBeacon (l : Line) (f : Frame) (n : Option Nat) : (l.numbered f n).2.isBeacon = f.isBeacon := by
  unfold QFrame.isBeacon Frame.isBeacon
  rw [numbered_frame]

/-- A frame entered where there is room for it keeps the bounds. -/
theorem enter_bounded {l : Line} (h : l.Bounded) (f : Frame) (n : Option Nat) (hroom : l.queue.length ≤ 7)
    (hb : (if f.isBeacon then 1 else 0) + beaconCount l.queue ≤ 1) : (l.enter f n).Bounded := by
  unfold Line.enter
  rw [← numbered_isBeacon l f n] at hb
  cases n with
  | none => exact accept_bounded (l := (l.numbered f none).1) (h.congr rfl rfl rfl rfl) _ hroom hb
  | some n => exact accept_bounded h _ hroom hb

/-- A frame handed to the transmit queue keeps its bounds (R189). -/
theorem offer_bounded {l : Line} (h : l.Bounded) (f : Frame) (n : Option Nat) : (l.offer f n).1.Bounded := by
  have hlen := h.length
  unfold Line.offer
  split_ifs with hreplace hleaving hroom hlow
  · exact h.congr rfl rfl rfl rfl
  · obtain ⟨hf, x, hx, hbx⟩ : f.isBeacon = true ∧ ∃ x ∈ l.queue, x.isBeacon = true := by simpa using hreplace
    have hwaits : ∃ x ∈ l.waitingFrames, x.isBeacon = true := by
      refine ⟨x, ?_, hbx⟩
      unfold Line.waitingFrames
      split
      · rename_i hs
        cases hq : l.queue with
        | nil => rw [hq] at hx; cases hx
        | cons y rest =>
          rw [hq] at hx
          rcases List.mem_cons.1 hx with rfl | hm
          · simp [Line.beaconLeaving, hs, hq, hbx] at hleaving
          · exact hm
      · exact hx
    have hl : Line.Bounded { l with replaced := bump l.replaced } := h.congr rfl rfl rfl rfl
    have hcount := dropFirst_length (l := { l with replaced := bump l.replaced }) hwaits
    have hnone := dropFirst_beaconCount (l := { l with replaced := bump l.replaced }) h.beacons hwaits
    refine enter_bounded (dropFirst_bounded hl _) f n (by simp only at hcount; omega) ?_
    rw [hnone, hf]
    decide
  · refine enter_bounded h f n (by omega) ?_
    cases hf : f.isBeacon
    · simpa [beaconCount] using h.beacons
    · have hnone : l.queue.any QFrame.isBeacon = false := by simpa [hf] using hreplace
      have : beaconCount l.queue = 0 := by simpa [beaconCount] using hnone
      simp [this]
  · have hf : f.isBeacon = false := by
      cases hf : f.isBeacon
      · rfl
      · rw [priority_of_isBeacon hf] at hlow
        exact absurd hlow (Nat.not_lt_zero _)
    obtain ⟨x, hx, hpx⟩ := lowestPriority_attained (lt_of_lt_of_le hlow (Nat.le_succ_of_le (priority_le f)))
    have hl : Line.Bounded { l with displaced := bump l.displaced } := h.congr rfl rfl rfl rfl
    have hcount := dropFirst_length (l := { l with displaced := bump l.displaced })
      (p := fun q => q.frame.priority == l.lowestPriority) ⟨x, hx, by simpa using hpx⟩
    have hd := dropFirst_bounded hl (fun q => q.frame.priority == l.lowestPriority)
    refine enter_bounded hd f n (by simp only at hcount; omega) ?_
    rw [hf]
    simpa [beaconCount] using hd.beacons
  · exact h.congr rfl rfl rfl rfl

/-! ### The blocks that hand frames to the queue -/

/-- Two states, the second with its line in bounds where the first has. -/
def LineKept (s t : State) : Prop := s.line.Bounded → t.line.Bounded

theorem LineKept.of_eq {s t : State} (h : t.line = s.line) : LineKept s t := by unfold LineKept; rw [h]; exact id

theorem LineKept.trans {s t u : State} (h : LineKept s t) (k : LineKept t u) : LineKept s u := k ∘ h

/-- An operation that comes after one that leaves the line alone. -/
theorem LineKept.after {s t u : State} (k : LineKept t u) (h : t.line = s.line) : LineKept s u :=
  LineKept.trans (.of_eq h) k

/-- The fields that the bounds do not read may change. -/
theorem LineKept.congr {s t : State} (hq : t.line.queue = s.line.queue) (ha : t.line.access = s.line.access)
    (hd : t.line.driven = s.line.driven) (hs : t.line.silence = s.line.silence) : LineKept s t :=
  fun h => h.congr hq ha hd hs

/-- What leaves the line as another state has it is kept where that is. -/
theorem lineKept_congr {s t u : State} (h : u.line = t.line) : LineKept s u ↔ LineKept s t := by
  unfold LineKept; rw [h]

theorem requestHold_line (s : State) (serial : Nat) (picks : List ArrayTime) :
    (requestHold s serial picks).line = s.line := by simp

theorem engineKick_line (s : State) : (engineKick s).line = s.line := by simp

theorem hkReaders_line (s : State) (i : HkInput) (n : ArrayTime) (r : Option Int) : (hkReaders s i n r).line = s.line := by
  simp

theorem offerFrame_lineKept (s : State) (f : Frame) (n : Option Nat) : LineKept s (offerFrame s f n) :=
  fun h => offer_bounded h f n

theorem askBeacon_lineKept (s : State) : LineKept s (askBeacon s) := by
  unfold askBeacon
  split
  · exact id
  · exact offerFrame_lineKept s _ _

theorem handAlert_lineKept (s : State) (serial : Nat) : LineKept s (handAlert s serial) := by
  unfold handAlert
  split
  · exact id
  · refine fun h => ?_
    dsimp only
    split <;> simpa using offer_bounded h _ _

theorem startAlerts_lineKept (s : State) (serial : Nat) : LineKept s (startAlerts s serial) := by
  unfold startAlerts
  exact (handAlert_lineKept _ _).after (by simp)

theorem openDeclared_lineKept (s : State) (d : Declaration) : LineKept s (openDeclared s d) := by
  unfold openDeclared
  dsimp only
  rw [lineKept_congr (requestHold_line _ _ _)]
  exact (startAlerts_lineKept _ _).after (by simp)

theorem completeDeclared_lineKept (s : State) (d : Declaration) (serial : Nat) :
    LineKept s (completeDeclared s d serial) := by
  unfold completeDeclared
  dsimp only
  rw [lineKept_congr (requestHold_line _ _ _)]
  exact (startAlerts_lineKept _ _).after (by simp)

theorem declareEvent_lineKept (s : State) (d : Declaration) : LineKept s (declareEvent s d).1 := by
  unfold declareEvent
  split
  · split
    · exact completeDeclared_lineKept s d _
    · exact LineKept.after (openDeclared_lineKept _ d) rfl
  · split
    · rename_i u hu
      exact (openDeclared_lineKept u d).after (by simp [eventRoom_frame s u hu])
    · exact .of_eq rfl

theorem declareSearch_lineKept (s : State) : LineKept s (declareSearch s) := by
  unfold declareSearch
  split
  · exact id
  · rename_i f _
    have h := declareEvent_lineKept s (declarationOf s f ((candidateSet s f).take 24))
    dsimp only
    split
    · exact h.trans (.of_eq (by simp))
    · exact h

theorem evaluatePick_lineKept (s : State) (n : PickEntry) : LineKept s (evaluatePick s n) := by
  unfold evaluatePick
  split
  · exact id
  · split
    · exact .of_eq (by simp)
    · exact declareSearch_lineKept s

theorem offerPick_lineKept (s : State) (n : PickEntry) : LineKept s (offerPick s n) := by
  unfold offerPick
  dsimp only
  split
  · exact .of_eq (by simp)
  · split
    · exact .of_eq (by simp)
    · split
      · exact .of_eq (by simp)
      · exact (evaluatePick_lineKept _ n).after (by simp)

theorem pickRemote_lineKept (s : State) (sender : Nat) (p : PickPayload) : LineKept s (pickRemote s sender p) := by
  unfold pickRemote
  split
  · exact .of_eq rfl
  · exact offerPick_lineKept s _

theorem handPick_lineKept (s : State) (k : StationPick) : LineKept s (handPick s k) := by
  unfold handPick pickLocal
  exact ((offerPick_lineKept _ _).after (by simp)).trans (offerFrame_lineKept _ _ _)

theorem voteMet_lineKept (s : State) (guard : Bool) : LineKept s (voteMet s guard) := by
  unfold voteMet
  split
  · exact .of_eq rfl
  · split
    · exact id
    · split
      · exact .of_eq rfl
      · exact (handPick_lineKept (spendPick s _) _).after rfl

theorem detectSet_lineKept (s : State) (x : SampleSet) : LineKept s (detectSet s x) := by
  unfold detectSet
  dsimp only
  split
  · exact (voteMet_lineKept _ _).after (by simp)
  · split <;> exact .of_eq (by simp)

theorem sendRepeat_lineKept (s : State) (serial : Nat) : LineKept s (sendRepeat s serial) := by
  unfold sendRepeat
  exact (handAlert_lineKept _ _).after (by simp)

theorem repeatSweep_lineKept (s : State) : LineKept s (repeatSweep s) := by
  unfold repeatSweep
  generalize s.events.entries.filter _ = due
  induction due generalizing s with
  | nil => exact id
  | cons e rest ih => exact (sendRepeat_lineKept s e.serial).trans (ih _)

/-! ### Time and the tick -/

theorem stepClock_lineKept (s : State) (d : Int) : LineKept s (stepClock s d) := .congr rfl rfl rfl rfl

theorem correctBy_lineKept (s : State) (e t : Int) : LineKept s (correctBy s e t) := by
  unfold correctBy
  split
  · exact stepClock_lineKept s _
  · exact .of_eq rfl

theorem peerPath_lineKept (s : State) (own : Nat) : LineKept s (peerPath s own) := by
  unfold peerPath
  split
  · exact .of_eq (by simp)
  · split
    · exact (correctBy_lineKept _ _ _).after (by simp)
    · split
      · exact (correctBy_lineKept _ _ _).after (by simp)
      · exact .of_eq (by simp)

theorem unsetPath_lineKept (s : State) : LineKept s (unsetPath s) := by
  unfold unsetPath
  split
  · exact (stepClock_lineKept s _).trans (.of_eq rfl)
  · exact .of_eq (by simp)

theorem steerPath_lineKept (s : State) : LineKept s (steerPath s) := by
  unfold steerPath
  split
  · exact unsetPath_lineKept s
  · split
    · exact peerPath_lineKept s 1
    · exact .of_eq (by simp)
  · exact peerPath_lineKept s _

theorem steeringWork_lineKept (s : State) : LineKept s (steeringWork s) := by
  have hpath : LineKept s (shiftedInstant s) := by
    unfold shiftedInstant
    rw [lineKept_congr (t := steerPath (reformGrade (clearStepped s))) (by simp)]
    exact (steerPath_lineKept _).after (by simp)
  exact hpath.trans ((askBeacon_lineKept _).after (by simp))

theorem ppsEdgeWork_lineKept (s : State) : LineKept s (ppsEdgeWork s) := by
  have hstep : ∀ e u, u.line = (stepClock s e).line → LineKept s u := fun e u h =>
    (stepClock_lineKept s e).trans (.of_eq h)
  unfold ppsEdgeWork
  dsimp only
  generalize ppsError s.tb.clock = e
  split_ifs
  · refine hstep (-e) _ ?_
    unfold ppsReacquire
    dsimp only
    split <;> simp
  · unfold ppsAlign
    split
    · exact .of_eq (by simp)
    · exact hstep (-e) _ (by simp)
  · exact .of_eq (by simp)
  · unfold ppsAnchor
    dsimp only
    split
    · exact .of_eq (by simp)
    · rw [lineKept_congr (t := correctBy (enterState s .anchored 0) e 1) (by simp)]
      exact (correctBy_lineKept _ _ _).after (by simp)
  · exact .of_eq (by simp)

theorem secondsReply_lineKept (s : State) (n : Nat) : LineKept s (secondsReply s n).state := by
  unfold secondsReply setSecondsWork
  dsimp only
  split
  · refine (stepClock_lineKept s (((n : Int) - s.tb.clock.sec) * 1000000)).trans (.of_eq ?_)
    dsimp only
    split <;> simp
  · exact .of_eq rfl

theorem quietTest_lineKept (s : State) : LineKept s (quietTest s) := by
  unfold quietTest sectionResetWork
  split
  · exact .congr (by simp) (by simp) (by simp) (by simp)
  · exact id

theorem tickSweeps_lineKept (s : State) : LineKept s (tickSweeps s) := by
  unfold tickSweeps
  rw [lineKept_congr (engineKick_line _)]
  exact LineKept.trans (t := repeatSweep (endSweep (ageSweep s))) ((repeatSweep_lineKept _).after (by simp))
    ((quietTest_lineKept _).after (by simp))

theorem seismicWork_lineKept (s : State) (inp : TickInput) (n : ArrayTime) : LineKept s (seismicWork s inp n) := by
  unfold seismicWork
  dsimp only
  rw [lineKept_congr (engineKick_line _)]
  exact (detectSet_lineKept _ _).after (by simp)

theorem samplerWork_lineKept (s : State) (inp : TickInput) (n : ArrayTime) : LineKept s (samplerWork s inp n) := by
  unfold samplerWork
  dsimp only
  rw [lineKept_congr (engineKick_line _), lineKept_congr (hkReaders_line _ _ _ _)]
  split
  · exact (seismicWork_lineKept _ inp n).after (by simp)
  · exact .of_eq (by simp)

theorem tickWork_lineKept (s : State) (inp : TickInput) (n : ArrayTime) : LineKept s (tickWork s inp n) := by
  unfold tickWork
  exact ((tickSweeps_lineKept (issueTick s n)).after (by simp)).trans (samplerWork_lineKept _ inp n)

/-! ### Access -/

theorem drawBackoff_lineKept (s : State) (q : QFrame) (rest : List QFrame) (hq : s.line.queue = q :: rest)
    (ha : s.line.access = .waiting) : LineKept s (drawBackoff s q) := fun h =>
  have hn : s.line.sending = false := by unfold Line.sending; rw [ha]
  .of_unsent h.length h.beacons (by simp [drawBackoff, hq]) rfl (h.driven_none hn) h.silence

theorem beginSending_lineKept (s : State) (q : QFrame) (rest : List QFrame) (hq : s.line.queue = q :: rest) :
    LineKept s (beginSending s q) := fun h =>
  { length := h.length
    beacons := h.beacons
    idle := by simp [beginSending, hq]
    driven := rfl
    silence := Nat.zero_le _
    sent := fun e stamp x tail ha _ => by
      cases ha
      simp }

theorem startBit_lineKept (s : State) (delimiter : Bool) (hr : s.receiving = true) : LineKept s (startBit s delimiter) := by
  intro h
  have hn : s.line.sending = false := by
    simp only [State.receiving, Bool.and_eq_true, Bool.not_eq_true'] at hr
    exact hr.2
  refine .of_unsent h.length h.beacons ?_ ?_ (h.driven_none hn) (Nat.zero_le _)
  · rw [← show s.line.queue = (startBit s delimiter).line.queue from rfl, ← h.idle]
    simp only [startBit]
    cases s.line.access <;> simp
  · unfold Line.sending at hn ⊢
    simp only [startBit]
    cases ha : s.line.access <;> simp_all

/-- The head leaves the queue: the next one begins access afresh. -/
theorem leaveQueue_bounded {l : Line} (h : l.Bounded) : (leaveQueue l).Bounded :=
  have hsub : (l.queue.drop 1).Sublist l.queue := List.drop_sublist 1 l.queue
  .of_unsent (hsub.length_le.trans h.length) ((hsub.filter _).length_le.trans h.beacons) (freshAccess_idle_iff _)
    (sending_of_freshAccess (queue := l.queue.drop 1) rfl) rfl h.silence

theorem reportFrame_lineKept (s : State) (q : QFrame) (failed : Bool) : LineKept s (reportFrame s q failed) :=
  .of_eq (by simp)

theorem frameDone_lineKept (s : State) (q : QFrame) : LineKept s (frameDone s q) := fun h =>
  reportFrame_lineKept { s with line := { leaveQueue s.line with sent := bump s.line.sent } } q false
    ((leaveQueue_bounded h).congr rfl rfl rfl rfl)

theorem frameDropped_lineKept (s : State) (q : QFrame) : LineKept s (frameDropped s q) := fun h =>
  reportFrame_lineKept { s with line := { leaveQueue s.line with dropped := bump s.line.dropped } } q true
    ((leaveQueue_bounded h).congr rfl rfl rfl rfl)

theorem frameFailed_lineKept (s : State) (q : QFrame) (rest : List QFrame) (hq : s.line.queue = q :: rest) :
    LineKept s (frameFailed s q) := by
  intro h
  have hl := h.length
  have hb := h.beacons
  rw [hq] at hl hb
  refine .of_unsent ?_ ?_ ?_ rfl rfl h.silence
  · simpa [frameFailed, hq] using hl
  · have hbeacon : QFrame.isBeacon { q with attempts := q.attempts + 1 } = q.isBeacon := rfl
    simp only [frameFailed, hq, List.drop_succ_cons, List.drop_zero]
    change beaconCount (_ :: rest) ≤ 1
    rw [beaconCount_cons, hbeacon, ← beaconCount_cons]
    exact hb
  · simp [frameFailed]

theorem frameMismatch_lineKept (s : State) (q : QFrame) (rest : List QFrame) (hq : s.line.queue = q :: rest) :
    LineKept s (frameMismatch s q) := by
  unfold frameMismatch
  dsimp only
  refine LineKept.trans (t := { s with line := { s.line with collisions := bump s.line.collisions } })
    (.congr rfl rfl rfl rfl) ?_
  split
  · exact frameDropped_lineKept _ q
  · exact frameFailed_lineKept _ q rest hq

/-! ### The nominal microsecond -/

/-- A frame is sent beyond its start delimiter, whose start bit follows two bytes. -/
theorem frameUs_gt (q : QFrame) : 320 < frameUs q := by
  unfold frameUs Frame.size
  omega

/-- The stamp is due where a BEACON has sent its 320 µs and has none (R12). -/
def Line.stampDue (l : Line) (q : QFrame) : Prop := l.access = .transmitting 320 none ∧ q.isBeacon = true

theorem takeStamp_due {s : State} {q : QFrame} {rest : List QFrame} (hq : s.line.queue = q :: rest)
    (h : s.line.stampDue q) : takeStamp s = { s with line := { s.line with
      access := .transmitting 320 (some s.tb.clock), driven := some (frameLevels s.own q (some s.tb.clock)) } } := by
  unfold takeStamp
  rw [h.1, hq]
  simp [h.2]

theorem takeStamp_not_due {s : State} (h : ∀ q rest, s.line.queue = q :: rest → ¬s.line.stampDue q) : takeStamp s = s := by
  unfold takeStamp
  split
  · rename_i e q rest ha hq
    split
    · rename_i hb
      obtain ⟨hb, he⟩ : q.isBeacon = true ∧ e = 320 := by simpa using hb
      exact absurd ⟨he ▸ ha, hb⟩ (h q rest hq)
    · rfl
  · rfl

/-- Nothing is due where nothing is in transmission. -/
theorem not_stampDue {l : Line} (hn : l.sending = false) (q : QFrame) : ¬l.stampDue q := by
  rintro ⟨ha, -⟩
  rw [(l.sending_iff).2 ⟨320, none, ha⟩] at hn
  cases hn

theorem tick_deaf {l : Line} (h : l.rx = .deaf) : l.tick = l := by
  unfold Line.tick
  rw [if_pos h]

/-- A microsecond of a frame in transmission (R186, R190). -/
theorem tick_transmitting {l : Line} {e : Nat} {stamp : Option ArrayTime} {q : QFrame} {rest : List QFrame}
    (hx : l.rx ≠ .deaf) (ha : l.access = .transmitting e stamp) (hq : l.queue = q :: rest) :
    l.tick = { l with
      silence := if l.startsByte then 0 else min (l.silence + 1) 736
      access := .transmitting (min (e + 1) (frameUs q)) stamp } := by
  unfold Line.tick Line.accessTick
  rw [if_neg hx, ha, hq]

/-- The access state of a microsecond in which nothing is in transmission. -/
theorem accessTick_unsent {l : Line} (hn : l.sending = false) :
    l.accessTick = match l.access with
      | .backoff left => .backoff (left - 1)
      | a => a := by
  unfold Line.accessTick Line.sending at *
  cases ha : l.access <;> simp_all

theorem tick_unsent {l : Line} (hx : l.rx ≠ .deaf) (hn : l.sending = false) :
    l.tick = { l with silence := min (l.silence + 1) 736, access := l.accessTick } := by
  have hs : l.startsByte = false := by
    unfold Line.startsByte
    unfold Line.sending at hn
    cases ha : l.access <;> simp_all
  unfold Line.tick
  rw [if_neg hx, hs]
  rfl

theorem lineTick_lineKept (s : State) : LineKept s (lineTick s) := by
  intro h
  unfold lineTick
  by_cases hx : s.line.rx = .deaf
  · rw [tick_deaf hx, takeStamp_not_due]
    · exact h
    · rintro q rest hq ⟨ha, hb⟩
      exact absurd ((h.sent _ _ q rest ha hq).2.2 ⟨hb, le_refl _⟩) Bool.false_ne_true
  cases hn : s.line.sending
  · have hsame : s.line.accessTick = .idle ↔ s.line.queue = [] := by
      rw [← h.idle, accessTick_unsent hn]
      cases s.line.access <;> simp
    have hunsent : s.line.tick.sending = false := by
      rw [tick_unsent hx hn]
      unfold Line.sending at hn ⊢
      dsimp only
      rw [accessTick_unsent (by unfold Line.sending; exact hn)]
      cases ha : s.line.access <;> simp_all
    rw [takeStamp_not_due fun q _ _ => not_stampDue hunsent q]
    rw [tick_unsent hx hn] at hunsent ⊢
    exact .of_unsent h.length h.beacons hsame hunsent (h.driven_none hn) (Nat.min_le_right _ _)
  obtain ⟨e, stamp, ha⟩ := (s.line.sending_iff).1 hn
  obtain ⟨q, rest, hq⟩ := List.exists_cons_of_ne_nil (h.head_of_sending hn)
  obtain ⟨hle, hstamp⟩ := h.sent e stamp q rest ha hq
  have hsilence : s.line.tick.silence ≤ 736 := by
    rw [tick_transmitting hx ha hq]
    dsimp only
    split
    · exact Nat.zero_le _
    · exact Nat.min_le_right _ _
  rw [tick_transmitting hx ha hq] at hsilence ⊢
  have hdriven : s.line.driven.isSome = true := h.driven.trans hn
  by_cases hdue : stamp = none ∧ e + 1 = 320 ∧ q.isBeacon = true
  · obtain ⟨rfl, he, hb⟩ := hdue
    have hlong := frameUs_gt q
    have hmin : min (e + 1) (frameUs q) = 320 := by rw [he, Nat.min_eq_left hlong.le]
    rw [hmin] at hsilence ⊢
    rw [takeStamp_due (q := q) (rest := rest) (by exact hq) (by exact ⟨rfl, hb⟩)]
    refine ⟨h.length, h.beacons, by simp [hq], rfl, hsilence, fun e' stamp' x tail ha' hx' => ?_⟩
    cases ha'
    cases hq.symm.trans hx'
    simp [hb, hlong.le]
  · rw [takeStamp_not_due]
    · refine ⟨h.length, h.beacons, by simp [hq], hdriven, hsilence, fun e' stamp' x tail ha' hx' => ?_⟩
      cases ha'
      cases hq.symm.trans hx'
      refine ⟨Nat.min_le_right _ _, hstamp.trans ⟨fun ⟨hb, he⟩ => ⟨hb, ?_⟩, fun ⟨hb, he⟩ => ⟨hb, ?_⟩⟩⟩
      · have := frameUs_gt q; omega
      · cases stamp with
        | none => simp only [hb, true_and, and_true] at hdue; omega
        | some t => exact (hstamp.1 rfl).2
    · rintro x tail hx' ⟨ha', hb⟩
      cases hq.symm.trans hx'
      have hlong := frameUs_gt q
      simp only [Access.transmitting.injEq] at ha'
      exact hdue ⟨ha'.2, by omega, hb⟩

/-! ### Heard frames, queries and every command -/

/-- A heard frame keeps the line in bounds where its work does. -/
theorem takeFrame_lineKept (s : State) (kind sender : Nat) (work : State → State) (h : ∀ u : State, LineKept u (work u)) :
    LineKept s (takeFrame s kind sender work) := by
  have hscreen : LineKept s (screenFrame (endFrame s) kind sender) := by
    unfold screenFrame countDiscard
    refine .congr ?_ ?_ ?_ ?_ <;> (dsimp only; split_ifs <;> rfl)
  rcases takeFrame_cases s kind sender work with hc | hc | hc <;> rw [hc]
  · exact id
  · exact hscreen
  · exact hscreen.trans (h _)

/-- A query keeps the line in bounds where its work does. -/
theorem takeQuery_lineKept (s : State) (q : QueryHeader) (handler : State → State) (h : ∀ u : State, LineKept u (handler u)) :
    LineKept s (takeQuery s q handler) := by
  unfold takeQuery
  refine takeFrame_lineKept s _ _ _ fun u => ?_
  split
  · rw [lineKept_congr (engineKick_line _)]
    exact h u
  · exact id

theorem carryOut_lineKept (s : State) (q : QueryHeader) (code : Nat) (work : State → Reply)
    (h : LineKept s (work s).state) : LineKept s (carryOut s q code work) := by
  unfold carryOut
  split
  · exact .of_eq (by simp)
  · exact h.trans ((offerFrame_lineKept _ _ _).after (by simp))

theorem badRequest_lineKept (s : State) (q : QueryHeader) (code : Nat) : LineKept s (badRequest s q code) := by
  unfold badRequest
  split
  · exact .of_eq (by simp)
  · exact (offerFrame_lineKept _ _ _).after rfl

theorem latchClearWork_lineKept (s : State) : LineKept s (latchClearWork s) := .congr rfl rfl rfl rfl

theorem reset_bounded : Line.reset.Bounded :=
  .of_unsent (by decide) (by decide) (by decide) rfl rfl (by decide)

theorem stopPart_lineKept (s : State) (a : Bool) : LineKept s (stopPart s a) := fun h =>
  .of_unsent (by simp [stopPart]) (by simp [stopPart]) (by simp [stopPart]) rfl rfl h.silence

theorem Effect.lineKept {s t : State} (h : Effect s t) : LineKept s t := by
  cases h with
  | start => exact fun _ => reset_bounded
  | brownOut a => exact stopPart_lineKept s a
  | lineEnable => exact .congr rfl rfl rfl rfl
  | sampleTick inp n => exact tickWork_lineKept s inp n
  | alertRepeatDue => exact repeatSweep_lineKept s
  | steeringInstant => exact steeringWork_lineKept s
  | ppsEdge => exact ppsEdgeWork_lineKept s
  | beaconReceived sender b r => exact takeFrame_lineKept s _ _ _ fun u => .of_eq (by simp)
  | pickFrameReceived sender p =>
    exact takeFrame_lineKept s _ _ _ fun u => (pickRemote_lineKept u sender p).trans (.of_eq (by simp))
  | alertFrameReceived sender a => exact takeFrame_lineKept s _ _ _ fun u => .of_eq (by simp)
  | badFrame => exact .congr rfl rfl rfl rfl
  | frameNotHandedOn kind sender => exact takeFrame_lineKept s _ _ _ fun _ => id
  | readingQuery q code work hw =>
    exact takeQuery_lineKept s q _ fun u => carryOut_lineKept u q code work (.of_eq (by rw [hw]))
  | badRequest q code => exact takeQuery_lineKept s q _ fun u => badRequest_lineKept u q code
  | release q id => exact takeQuery_lineKept s q _ fun u => carryOut_lineKept u q 6 _ (.of_eq (by simp))
  | wipe q => exact takeQuery_lineKept s q _ fun u => carryOut_lineKept u q 7 _ (.of_eq (by simp))
  | setSeconds q n => exact takeQuery_lineKept s q _ fun u => carryOut_lineKept u q 8 _ (secondsReply_lineKept u n)
  | latchClear q => exact takeQuery_lineKept s q _ fun u => carryOut_lineKept u q 9 _ (latchClearWork_lineKept u)
  | restart q => exact takeQuery_lineKept s q _ fun u => carryOut_lineKept u q 10 _ (.of_eq (by simp))
  | idleGapMet q rest hq ha => exact drawBackoff_lineKept s q rest hq ha
  | backoffExpiry q rest hq ha => exact beginSending_lineKept s q rest hq
  | lineTurnsBusy d hr => exact startBit_lineKept s d hr
  | mismatch q rest hq hl => exact frameMismatch_lineKept s q rest hq
  | frameSent q rest e stamp hq ha he => exact frameDone_lineKept s q
  | sectionReset => exact quietTest_lineKept s
  | nominalMicrosecond => exact (lineTick_lineKept _).after (by simp)
  | _ => exact .of_eq (by simp)

/-! ### The ring (R52) -/

theorem ringWrite_length (m : Sampler) (x : SampleSet) : (ringWrite m x).ring.length ≤ 4096 := by
  simp only [ringWrite, ringSize, List.length_cons, List.length_take]
  omega

/-- A set that enters the ring, whatever the displacement announced before it does. -/
theorem ringEnter_sampler (s : State) (x : SampleSet) : (ringEnter s x).sampler = ringWrite s.sampler x := by
  unfold ringEnter
  dsimp only
  split <;> simp

theorem seismicWork_sampler (s : State) (inp : TickInput) (n : ArrayTime) :
    ∃ x, (seismicWork s inp n).sampler = ringWrite (afterSet s.sampler x) x :=
  ⟨formSet s.sampler inp n (insideGuard s.det.guard n) s.tb.stepped, by simp [seismicWork, ringEnter_sampler]⟩

theorem convertHk_ring (m : Sampler) (code : BitVec 12) : (convertHk m code).ring = m.ring := by
  simp only [convertHk, Sampler.latch, Sampler.countBad]
  cases m.slot <;> split <;> rfl

/-- A tick leaves the ring as it was, or writes one set into it. -/
theorem samplerWork_ring (s : State) (inp : TickInput) (n : ArrayTime) :
    (samplerWork s inp n).sampler.ring = s.sampler.ring ∨ (samplerWork s inp n).sampler.ring.length ≤ 4096 := by
  unfold samplerWork
  dsimp only
  split
  · refine .inr ?_
    obtain ⟨x, hx⟩ := seismicWork_sampler { channelPower s with
      sampler := convertHk (channelPower s).sampler inp.hk } inp n
    rw [show ∀ u, (engineKick u).sampler = u.sampler from fun u => by simp,
      show ∀ u i r, (hkReaders u i n r).sampler = u.sampler from fun u i r => by simp, hx]
    exact ringWrite_length _ _
  · exact .inl (by simp [channelPower, applyPower, convertHk_ring])

theorem latchClearWork_ring (s : State) : (latchClearWork s).sampler.ring = s.sampler.ring := rfl

theorem takeQuery_ring (s : State) (q : QueryHeader) (work : State → Reply) (code : Nat)
    (h : ∀ u, (work u).state.sampler.ring = u.sampler.ring) :
    (takeQuery s q (fun u => carryOut u q code work)).sampler.ring = s.sampler.ring :=
  takeQuery_keeps (fun s => s.sampler.ring) s q _ (by simp) (by simp) fun u =>
    carryOut_keeps (fun s => s.sampler.ring) u q code work (by simp) (by simp) (h u)

theorem Effect.ringInv {s t : State} (h : Effect s t) (hs : ringInv s) : ringInv t := by
  unfold Sys2Proof.ringInv at *
  cases h with
  | start => exact Nat.zero_le _
  | sampleTick inp n =>
    have hsame : (tickSweeps (issueTick s n)).sampler = s.sampler := by simp
    rcases samplerWork_ring (tickSweeps (issueTick s n)) inp n with h | h
    · unfold tickWork; rw [h, hsame]; exact hs
    · exact h
  | latchClear q => rw [takeQuery_ring s q _ 9 latchClearWork_ring]; exact hs
  | readingQuery q code work hw => rw [takeQuery_ring s q work code fun u => by rw [hw]]; exact hs
  | _ => simpa using hs

end Sys2Proof.Machine

namespace Sys2Proof.Proofs

open Sys2Proof.Machine

/-- Settles O5: each command's work keeps the bounds of the line, and a tick alone writes into the ring. -/
theorem queueAndRingStayBounded : Obligations.QueueAndRingStayBounded := by
  refine ⟨fun s t hs h => ?_, fun s t hs h => ?_⟩
  · rw [queueInv_iff] at *
    rcases step_effect h with rfl | ⟨rest, he⟩
    · exact hs
    · exact he.lineKept hs
  · rcases step_effect h with rfl | ⟨rest, he⟩
    · exact hs
    · exact he.ringInv hs

end Sys2Proof.Proofs

/-! SUPPORT. The Timebase's own operations: local time, its steps, HOLDOVER and the end of an instant (R1 to R6, R20 to R22). -/

namespace Sys2Proof.Machine

/-! ### Array time -/

/-- The multiple of a period in the window at or after a count is the least one. -/
theorem eq_multipleFrom {p x n : Int} (hp : 0 < p) (hd : p ∣ n) (h0 : x ≤ n) (h1 : n < x + p) : n = multipleFrom p x := by
  obtain ⟨hdm, hm0, hm1⟩ := multipleFrom_spec hp x
  obtain ⟨k, rfl⟩ := hd
  obtain ⟨j, hj⟩ := hdm
  rw [hj] at hm0 hm1 ⊢
  have h2 : p * (k - j) < p * 1 := by rw [mul_sub]; linarith
  have h3 : p * (j - k) < p * 1 := by rw [mul_sub]; linarith
  have h4 := lt_of_mul_lt_mul_left h2 hp.le
  have h5 := lt_of_mul_lt_mul_left h3 hp.le
  rw [show k = j by omega]

theorem tickPeriod_pos (p : Profile) (shed : Nat) : 0 < tickPeriod p shed := by
  unfold tickPeriod rateOf
  split
  · decide
  · split <;> decide

/-- A microsecond past 999,999 raises the seconds, which return to 0 after the last (R1). -/
theorem addUs_one {t : ArrayTime} (hs : t.sec ≤ 4294967295) (hu : t.us ≤ 999999) :
    addUs t 1 =
      if t.us < 999999 then ⟨t.sec, t.us + 1⟩ else if t.sec < 4294967295 then ⟨t.sec + 1, 0⟩ else ⟨0, 0⟩ := by
  obtain ⟨a, b⟩ := t
  simp only at hs hu
  simp only [addUs, ofUs, usOf, timeSpan]
  split_ifs <;> simp only [ArrayTime.mk.injEq] <;> omega

/-- A difference of readings in range is negative exactly where the first is earlier (R1). -/
theorem diffUs_neg_iff {t u : ArrayTime} (ht : t.us ≤ 999999) (hu : u.us ≤ 999999) :
    diffUs t u < 0 ↔ t.sec < u.sec ∨ (t.sec = u.sec ∧ t.us < u.us) := by
  simp only [diffUs, usOf]
  omega

/-- A reading moved within the span of array time lies that far from where it was. -/
theorem diffUs_addUs {t : ArrayTime} {d : Int} (h0 : 0 ≤ usOf t + d) (h1 : usOf t + d ≤ 4294967295999999) :
    diffUs (addUs t d) t = d := by
  unfold diffUs addUs
  rw [usOf_ofUs_of_range h0 (by unfold timeSpan; omega)]
  omega

/-- What a nominal microsecond does to local time and the accumulator, by their sum with the correction (R2). -/
theorem nominal_cases (b : Timebase) (sum : Int) (hsum : sum = b.residual + b.correction) :
    (1000000000 ≤ sum → b.nominal = { b with residual := sum - 1000000000, clock := addUs b.clock 2 }) ∧
    (sum ≤ -1000000000 → b.nominal = { b with residual := sum + 1000000000 }) ∧
    (-1000000000 < sum → sum < 1000000000 → b.nominal = { b with residual := sum, clock := addUs b.clock 1 }) := by
  subst hsum
  refine ⟨fun h => ?_, fun h => ?_, fun h0 h1 => ?_⟩ <;> unfold Timebase.nominal <;> dsimp only
  · rw [if_pos h]
  · rw [if_neg (by omega), if_pos h]
  · rw [if_neg (by omega), if_neg (by omega)]

/-- The tick after a step is the least multiple of the period at or after the new time, or the next one (R22). -/
theorem tickAfterStep_eq {p : Int} (hp : 0 < p) {now : ArrayTime} {last : Option ArrayTime} {n : Int} (hd : p ∣ n)
    (h0 : usOf now ≤ n) (h1 : n < usOf now + p) :
    tickAfterStep p now last = if last = some (ofUs n) then addUs (ofUs n) p else ofUs n := by
  rw [eq_multipleFrom hp hd h0 h1]
  rfl

/-! ### HOLDOVER -/

/-- The drift of the enclosure temperature since the entry, in units of 5.0 °C (R6). -/
def driftOf (h : Holdover) (enc : Option Int) : Int :=
  match enc with
  | none => 0
  | some x => |x - h.temp| / 50

theorem driftOf_nonneg (h : Holdover) (enc : Option Int) : 0 ≤ driftOf h enc := by
  cases enc with
  | none => exact le_refl 0
  | some x => exact Int.ediv_nonneg (abs_nonneg _) (by decide)

theorem holdoverGrade_eq (h : Holdover) (enc : Option Int) (now : ArrayTime) :
    holdoverGrade h enc now =
      (clampInt 1 14 ((h.grade : Int) + diffUs now h.time / 1000000 / 1024 + driftOf h enc)).toNat := rfl

/-- From a grade of at least 1 and at no negative age, the grade grows up to 14 (R6). -/
theorem holdoverGrade_grows {h : Holdover} {now : ArrayTime} (enc : Option Int) (hg : 1 ≤ h.grade)
    (ha : 0 ≤ diffUs now h.time) :
    (holdoverGrade h enc now : Int) = min 14 (h.grade + diffUs now h.time / 1000000 / 1024 + driftOf h enc) := by
  have hd := driftOf_nonneg h enc
  have hage : 0 ≤ diffUs now h.time / 1000000 / 1024 :=
    Int.ediv_nonneg (Int.ediv_nonneg ha (by decide)) (by decide)
  rw [holdoverGrade_eq]
  simp only [clampInt]
  omega

/-- On the entry the grade is the entry grade, at least 1 (R6). -/
theorem holdoverGrade_entry {g : Nat} (hg : g ≤ 14) (enc : Option Int) (now : ArrayTime) :
    holdoverGrade ⟨max 1 g, enc.getD 0, now⟩ enc now = max 1 g := by
  have hdrift : driftOf ⟨max 1 g, enc.getD 0, now⟩ enc = 0 := by cases enc <;> simp [driftOf]
  rw [holdoverGrade_eq, hdrift]
  simp only [clampInt, diffUs_self]
  omega

theorem enterHoldover_tb {g : Nat} (s : State) (hg : g ≤ 14) : (enterHoldover s g).tb =
    { s.tb with
      state := .holdover, grade := max 1 g
      holdover := some ⟨max 1 g, s.sampler.latest.encTemp.getD 0, s.tb.clock⟩ } := by
  have hmax : (if g = 0 then 1 else g) = max 1 g := by split <;> omega
  unfold enterHoldover
  simp only [hmax, holdoverGrade_entry hg]

theorem reformGrade_holdover {s : State} {h : Holdover} (hs : s.tb.state = .holdover) (hh : s.tb.holdover = some h) :
    reformGrade s = { s with tb := { s.tb with grade := holdoverGrade h s.sampler.latest.encTemp s.tb.clock } } := by
  unfold reformGrade
  rw [hs, hh]

/-! ### The end of an instant -/

@[simp] theorem dropSeed_seed_none (b : Timebase) (gone : Nat → Bool) :
    { b.dropSeed gone with seed := none } = { b with seed := none } := by
  unfold Timebase.dropSeed
  split
  · rfl
  · split <;> rfl

/-- An entry with its fresh mark moved into the heard history (R36). -/
def PeerEntry.shifted (e : PeerEntry) : PeerEntry :=
  { e with heardA := e.heardB, heardB := e.heardC, heardC := e.fresh, fresh := false }

theorem PeerEntry.shifted_last (e : PeerEntry) : e.shifted.last = e.last := rfl

theorem PeerEntry.shifted_interval (e : PeerEntry) : e.shifted.interval = e.interval := rfl

/-- An entry stays where its age is below sixteen of its intervals (R37). -/
theorem not_expired (e : PeerEntry) (now : ArrayTime) :
    (!e.expired now) = decide (diffUs now e.last < 16 * (e.interval : Int) * 1000000) := by
  unfold PeerEntry.expired PeerEntry.age
  rw [← decide_not]
  exact decide_eq_decide.2 (by omega)

/-- The entries that an instant leaves: those that have not expired, shifted (R36, R37). -/
theorem expire_shift_entries (entries : List PeerEntry) (now : ArrayTime) :
    (entries.map PeerEntry.shifted).filter (fun e => !e.expired now) =
      (entries.filter (fun e => decide (diffUs now e.last < 16 * (e.interval : Int) * 1000000))).map
        PeerEntry.shifted := by
  rw [List.filter_map]
  congr 1
  refine List.filter_congr fun e _ => ?_
  rw [Function.comp_apply, not_expired, PeerEntry.shifted_last, PeerEntry.shifted_interval]

/-- The Timebase at the end of an instant (R11, R20). -/
def endTimebase (s : State) : Timebase :=
  { s.tb with
    seed := none, interval := intervalNow s
    nextInstant := s.tb.nextInstant.map (addUs · ((intervalNow s : Int) * 1000000)) }

theorem beaconInterval_eq (s : State) : beaconInterval s.profile s.bat.shed = intervalNow s := rfl

theorem scheduleInstant_tb (s : State) : (scheduleInstant s).tb = { s.tb with
    nextInstant := s.tb.nextInstant.map (addUs · ((intervalNow s : Int) * 1000000)), interval := intervalNow s } := by
  unfold scheduleInstant
  dsimp only
  rw [beaconInterval_eq]

theorem askBeacon_tb (s : State) : (askBeacon s).tb = s.tb := by simp

theorem emptySeed_expirePeers_tb (s : State) : (emptySeed (expirePeers s)).tb = { s.tb with seed := none } :=
  dropSeed_seed_none s.tb _

theorem endInstant_tb (s : State) : (endInstant s).tb = endTimebase s := by
  have hn : ∀ u : State, intervalNow (emptySeed (expirePeers u)) = intervalNow u := fun _ => rfl
  unfold endInstant
  rw [askBeacon_tb, scheduleInstant_tb, emptySeed_expirePeers_tb, hn]
  rfl

theorem endInstant_peers (s : State) : (endInstant s).peers = { s.peers with
    entries := (s.peers.entries.filter (fun e =>
      decide (diffUs s.tb.clock e.last < 16 * (e.interval : Int) * 1000000))).map PeerEntry.shifted } := by
  rw [← expire_shift_entries]
  unfold endInstant
  simp [expirePeers, removePeers, shiftHeard]
  rfl

/-- The BEACON of what now stands (R11, R188). -/
theorem endInstant_line (s : State) : (endInstant s).line = if s.listenOnly then s.line else
    (s.line.offer (.beacon
      { state := s.tb.state, grade := s.tb.grade, code := intervalCode (intervalNow s), shed := s.bat.shed
        running := s.det.running, linePos := s.profile.linePos, east := s.profile.east, north := s.profile.north
        soc := s.soc, temp := s.sampler.latest.batTemp }) none).1 := by
  have hcontent : ∀ u : State, beaconContent (scheduleInstant (emptySeed (expirePeers u))) =
      { beaconContent u with code := intervalCode (intervalNow u) } := by
    intro u
    simp only [beaconContent, scheduleInstant_tb, emptySeed_expirePeers_tb]
    rfl
  unfold endInstant askBeacon
  rw [hcontent]
  simp only [apply_ite State.line]
  rfl

/-- The end of an instant leaves everything but the Timebase, the Peer Table and the line. -/
theorem endInstant_frame (s : State) :
    endInstant s = { s with tb := (endInstant s).tb, peers := (endInstant s).peers, line := (endInstant s).line } := by
  unfold endInstant askBeacon
  split <;> rfl

/-- The end of an instant empties the seed whether or not its path has (R20). -/
theorem endInstant_emptySeed (s : State) : endInstant { s with tb := { s.tb with seed := none } } = endInstant s := by
  rw [endInstant_frame, endInstant_frame s, endInstant_tb, endInstant_tb, endInstant_peers, endInstant_peers,
    endInstant_line, endInstant_line]
  rfl

end Sys2Proof.Machine

namespace Sys2Proof.Proofs

open Sys2Proof.Machine

/-- Settles O22: the three cases of the sum, and array time as a count of microseconds. -/
theorem nominalMicrosecondCounts : Obligations.NominalMicrosecondCounts := by
  refine ⟨fun s sum ha hr hsum => ⟨s.tb.nominal, ?_, nominal_residual s.tb hr, nominal_cases s.tb sum hsum⟩,
    fun t hs hu => ⟨addUs_one hs hu, fun _ => diffUs_addUs, fun u hv => diffUs_neg_iff hu hv⟩⟩
  unfold exec execNominalMicrosecond doWhen
  rw [if_pos ha]

/-- Settles O23: the next tick is the one of `tickAfterStep`, where a tick is scheduled. -/
theorem stepMovesLocalTime : Obligations.StepMovesLocalTime := by
  intro s d hp
  refine ⟨s.tb.nextTick.map (fun _ => tickAfterStep s.period (addUs s.tb.clock d) s.tb.lastTick), rfl, fun h => ?_,
    fun n hn hd h0 h1 => ?_⟩
  · rw [h]; rfl
  · obtain ⟨t, ht⟩ := Option.isSome_iff_exists.1 hn
    rw [ht, Option.map_some, tickAfterStep_eq hp hd h0 h1]

/-- Settles O25: each block that the end of an instant touches, and its frame. -/
theorem instantEndsInOrder : Obligations.InstantEndsInOrder := by
  refine fun s => ⟨endInstant s, rfl, endInstant_tb s, endInstant_peers s, fun h => ?_, fun h => ?_, endInstant_frame s⟩
  · rw [endInstant_line, if_pos h]
  · rw [endInstant_line, h]; rfl

/-- Settles O26: the grade on the entry, and its growth with age and drift. -/
theorem holdoverGradeGrows : Obligations.HoldoverGradeGrows := by
  refine ⟨fun s g hg => enterHoldover_tb s hg, fun s h hs hh hg => ?_⟩
  rw [reformGrade_holdover hs hh]
  exact ⟨fun ha => holdoverGrade_grows s.sampler.latest.encTemp hg ha, rfl⟩

end Sys2Proof.Proofs

/-! SUPPORT. What a steering instant, a PPS edge and a section reset do (R7 to R10, R15 to R20, R24, R37). -/

namespace Sys2Proof.Machine

/-! ### Corrections and the PPS edge -/

theorem exec_steeringInstant (s : State) :
    exec .steeringInstant s = doWhen (s.awake && instantReached s) s steeringWork := rfl

theorem exec_ppsEdge (s : State) : exec .ppsEdge s = doWhen (s.awake && s.profile.ppsEnable) s ppsEdgeWork := rfl

/-- The correction of R18 for a reference that is ahead by v is the one for an error of −v. -/
theorem corrected_eq (s : State) (v t : Int) : corrected s v t = correctBy s (-v) t := by
  unfold corrected correctBy
  rw [abs_neg, neg_neg]
  rfl

/-- The error of an edge is the signed distance from the nearest whole second (R7). -/
theorem ppsError_eq {t : ArrayTime} {k e : Int} (hu : t.us ≤ 999999) (ht : usOf t = k * 1000000 + e) (h0 : -500000 ≤ e)
    (h1 : e ≤ 499999) : ppsError t = e := by
  unfold ppsError
  unfold usOf at ht
  split <;> omega

theorem markAligned_of_aligned {s : State} (h : s.tb.ppsAligned = true) : markAligned s = s := by
  unfold markAligned
  rw [← h]

/-- What an edge does, by the run of rejections, the time state and the error (R7 to R9). -/
theorem ppsEdgeWork_cases (s : State) {e : Int} (he : ppsError s.tb.clock = e) :
    (s.tb.ppsRun = 4 → ppsEdgeWork s = ppsTaken (ppsReacquire s e)) ∧
    (s.tb.ppsRun ≠ 4 →
      (s.tb.state = .unset → (s.tb.ppsAligned = false ∨ |e| ≤ (s.profile.ppsWindow : Int) * 1000) →
        ppsEdgeWork s = ppsTaken (ppsAlign s e)) ∧
      (s.tb.state ≠ .unset → |e| ≤ (s.profile.ppsWindow : Int) * 1000 → ppsEdgeWork s = ppsTaken (ppsAnchor s e)) ∧
      ((s.tb.state = .unset → s.tb.ppsAligned = true) → (s.profile.ppsWindow : Int) * 1000 < |e| →
        ppsEdgeWork s = ppsRejected s)) := by
  unfold ppsEdgeWork
  simp only [he]
  refine ⟨fun h => if_pos h, fun h => ?_⟩
  rw [if_neg h]
  refine ⟨fun hs hc => ?_, fun hs hw => ?_, fun ha hw => ?_⟩
  · rw [if_pos hs, if_pos]
    simpa using hc
  · rw [if_neg hs, if_pos hw]
  · by_cases hs : s.tb.state = .unset
    · rw [if_pos hs, if_neg]
      simp [ha hs, hw]
    · rw [if_neg hs, if_neg (not_le.2 hw)]

/-! ### The reference set -/

/-- Liveness, as R35 words it. -/
theorem live_iff (e : PeerEntry) (now : ArrayTime) :
    e.live now = true ↔ diffUs now e.last < 3 * (e.interval : Int) * 1000000 := by
  unfold PeerEntry.live
  exact decide_eq_true_iff

/-- Expiry, as R37 words it. -/
theorem expired_iff (e : PeerEntry) (now : ArrayTime) :
    e.expired now = true ↔ 16 * (e.interval : Int) * 1000000 ≤ diffUs now e.last := by
  unfold PeerEntry.expired
  exact decide_eq_true_iff

theorem mem_qualifying (s : State) (e : PeerEntry) : e ∈ qualifying s ↔ peerQualifies s e := by
  simp only [qualifying, peerQualifies, peerLive, PeerEntry.qualifies, ← live_iff, List.mem_filter, Bool.and_eq_true,
    decide_eq_true_eq, Bool.not_eq_true', and_assoc]

/-- The least grade of a list of peers is attained and bounds every grade. -/
theorem leastGrade_eq_some {es : List PeerEntry} {g : Nat} (h : leastGrade es = some g) :
    (∃ e ∈ es, e.grade = g) ∧ ∀ e ∈ es, g ≤ e.grade := by
  induction es generalizing g with
  | nil => cases h
  | cons x rest ih =>
    unfold leastGrade at h
    split at h
    · rename_i hrest
      cases h
      have hnil : rest = [] := by
        cases rest with
        | nil => rfl
        | cons y tail => unfold leastGrade at hrest; split at hrest <;> cases hrest
      subst hnil
      simp
    · rename_i k hrest
      cases h
      obtain ⟨⟨y, hy, hk⟩, hle⟩ := ih hrest
      refine ⟨?_, fun e he => ?_⟩
      · rcases Nat.le_total x.grade k with hx | hx
        · exact ⟨x, List.mem_cons_self, (Nat.min_eq_left hx).symm⟩
        · exact ⟨y, List.mem_cons_of_mem x hy, hk.trans (Nat.min_eq_right hx).symm⟩
      · rcases List.mem_cons.1 he with rfl | he
        · exact Nat.min_le_left _ _
        · exact (Nat.min_le_right _ _).trans (hle e he)

theorem leastGrade_eq_none {es : List PeerEntry} (h : leastGrade es = none) : es = [] := by
  cases es with
  | nil => rfl
  | cons x rest => unfold leastGrade at h; split at h <;> cases h

/-- g* of the model is the least grade of R15. -/
theorem leastGrade_eq_iff (s : State) (g : Nat) : leastGrade (qualifying s) = some g ↔ bestGrade s g := by
  have hbest : ∀ k, leastGrade (qualifying s) = some k → bestGrade s k := by
    intro k hk
    obtain ⟨⟨e, he, heg⟩, hle⟩ := leastGrade_eq_some hk
    exact ⟨⟨e, (mem_qualifying s e).1 he, heg⟩, fun x hx => hle x ((mem_qualifying s x).2 hx)⟩
  refine ⟨hbest g, fun ⟨⟨e, he, heg⟩, hle⟩ => ?_⟩
  cases hk : leastGrade (qualifying s) with
  | none =>
    have hm := (mem_qualifying s e).2 he
    rw [leastGrade_eq_none hk] at hm
    cases hm
  | some k =>
    obtain ⟨⟨x, hx, hxk⟩, hkle⟩ := hbest k hk
    have h1 := hle x hx
    have h2 := hkle e he
    rw [show k = g by omega]

theorem leastGrade_none_of {s : State} (h : ∀ g, ¬bestGrade s g) : leastGrade (qualifying s) = none := by
  cases hk : leastGrade (qualifying s) with
  | none => rfl
  | some k => exact absurd ((leastGrade_eq_iff s k).1 hk) (h k)

/-! ### The lower median -/

theorem insertAsc_perm (x : Int) (xs : List Int) : (insertAsc x xs).Perm (x :: xs) := by
  induction xs with
  | nil => exact .refl _
  | cons y rest ih =>
    unfold insertAsc
    split
    · exact .refl _
    · exact (ih.cons y).trans (.swap x y rest)

theorem insertAsc_sorted (x : Int) {xs : List Int} (h : xs.Pairwise (· ≤ ·)) : (insertAsc x xs).Pairwise (· ≤ ·) := by
  induction xs with
  | nil => simp [insertAsc]
  | cons y rest ih =>
    obtain ⟨hy, hrest⟩ := List.pairwise_cons.1 h
    unfold insertAsc
    split
    · rename_i hxy
      exact List.pairwise_cons.2 ⟨fun z hz => by
        rcases List.mem_cons.1 hz with rfl | hz
        · exact hxy
        · exact hxy.trans (hy z hz), h⟩
    · rename_i hxy
      refine List.pairwise_cons.2 ⟨fun z hz => ?_, ih hrest⟩
      rcases List.mem_cons.1 ((insertAsc_perm x rest).subset hz) with rfl | hz
      · omega
      · exact hy z hz

theorem sortAsc_perm (xs : List Int) : (sortAsc xs).Perm xs := by
  induction xs with
  | nil => exact .refl _
  | cons x rest ih => exact (insertAsc_perm x _).trans (ih.cons x)

theorem sortAsc_sorted (xs : List Int) : (sortAsc xs).Pairwise (· ≤ ·) := by
  induction xs with
  | nil => exact .nil
  | cons x rest ih => exact insertAsc_sorted x ih

/-- The lower median does not depend on the order of the values (R17). -/
theorem lowerMedian_eq {xs ys : List Int} {v : Int} (h : isLowerMedian xs v) (hp : ys.Perm xs) : lowerMedian ys = v := by
  obtain ⟨zs, hz, hsorted, hv⟩ := h
  have hsame : sortAsc ys = zs :=
    ((sortAsc_perm ys).trans (hp.trans hz.symm)).eq_of_pairwise (fun _ _ _ _ => le_antisymm) (sortAsc_sorted ys) hsorted
  unfold lowerMedian
  rw [hsame, hp.length_eq, List.getD_eq_getElem?_getD, hv]
  rfl

/-- The model's offsets of the reference set are those of R15, in some order. -/
theorem referenceOffsets_perm {s : State} {g : Nat} {xs : List Int} (hn : s.peers.entries.Nodup) (h : offsetsOf s g xs) :
    (referenceOffsets s g).Perm xs := by
  obtain ⟨es, hes, hmem, rfl⟩ := h
  refine List.Perm.map _ ((List.perm_ext_iff_of_nodup ((hn.filter _).filter _) hes).2 fun e => ?_)
  rw [hmem, List.mem_filter, beq_iff_eq]
  exact and_congr_left' (mem_qualifying s e)

/-! ### The instant -/

/-- Steps 1 and 2 leave what the path reads: the peers, local time, the time state and the seed (R20). -/
theorem beginInstant_tb (s : State) :
    ∃ g, (beginInstant s).tb = { s.tb with stepped := false, grade := g } := by
  unfold beginInstant
  obtain h | ⟨_, _, _, h⟩ := reformGrade_cases { s with tb := { s.tb with stepped := false } }
  · rw [h]; exact ⟨_, rfl⟩
  · rw [h]; exact ⟨_, rfl⟩

theorem beginInstant_peers (s : State) : (beginInstant s).peers = s.peers := by simp [beginInstant]

theorem beginInstant_profile (s : State) : (beginInstant s).profile = s.profile := by simp [beginInstant]

theorem instantReached_iff (s : State) :
    instantReached s = true ↔ ∃ n, s.tb.nextInstant = some n ∧ 0 ≤ diffUs s.tb.clock n := by
  unfold instantReached
  cases s.tb.nextInstant <;> simp

/-- An instant that is due: its path after the first steps of R20, and its end. -/
theorem exec_steeringInstant_due {s : State} {n : ArrayTime} (h : instantDue s n) :
    exec .steeringInstant s = .next (endInstant (steerPath (beginInstant s))) := by
  obtain ⟨ha, hn, hd⟩ := h
  rw [exec_steeringInstant, ha, (instantReached_iff s).2 ⟨n, hn, hd⟩]
  rfl

theorem beginInstant_ppsPresent (s : State) : ppsPresent (beginInstant s) ↔ ppsPresent s := by
  obtain ⟨g, hg⟩ := beginInstant_tb s
  unfold ppsPresent
  rw [hg, beginInstant_profile]

theorem beginInstant_qualifies (s : State) (e : PeerEntry) : peerQualifies (beginInstant s) e ↔ peerQualifies s e := by
  obtain ⟨g, hg⟩ := beginInstant_tb s
  unfold peerQualifies peerLive
  rw [hg, beginInstant_peers]

theorem beginInstant_offsetsOf (s : State) (g : Nat) (xs : List Int) :
    offsetsOf (beginInstant s) g xs ↔ offsetsOf s g xs := by
  simp only [offsetsOf, beginInstant_qualifies]

theorem beginInstant_bestGrade (s : State) (g : Nat) : bestGrade (beginInstant s) g ↔ bestGrade s g := by
  simp only [bestGrade, beginInstant_qualifies]

theorem ppsLost_iff (s : State) : ppsLost s = false ↔ ppsPresent s := by
  unfold ppsLost ppsPresent
  cases s.tb.ppsLast <;> simp

/-! ### The paths (R16) -/

theorem steerPath_anchored {s : State} (hs : s.tb.state = .anchored) (hp : ppsPresent s) : steerPath s = withoutP s := by
  unfold steerPath
  rw [hs, (ppsLost_iff s).2 hp]
  rfl

theorem steerPath_seed {s : State} {g : Nat} {x : Seed} (hs : s.tb.state = .unset) (hg : bestGrade s g)
    (hx : s.tb.seed = some x) : steerPath s = seedStep s x g := by
  unfold steerPath unsetPath
  rw [hs, (leastGrade_eq_iff s g).2 hg, hx]

theorem steerPath_unseeded {s : State} (hs : s.tb.state = .unset) (h : (∀ g, ¬bestGrade s g) ∨ s.tb.seed = none) :
    steerPath s = withoutP s := by
  unfold steerPath unsetPath
  rw [hs]
  rcases h with h | h
  · rw [leastGrade_none_of h]; rfl
  · rw [h]
    cases leastGrade (qualifying s) <;> rfl

/-- The seed step, which the end of the instant does not tell from one that leaves the seed (R17, R20). -/
theorem endInstant_seedStep (s : State) (x : Seed) (g : Nat) :
    let v := stepClock s (diffUs (addUs x.reckoned (diffUs s.tb.clock x.arrival)) s.tb.clock)
    endInstant (seedStep s x g) =
      endInstant { withState v .following (min (g + 1) 14) with heat := v.heat.reportExit v.tb.clock } := by
  intro v
  have hleft : ∀ w : State, leaveUnset (enterState w .following (min (g + 1) 14)) =
      { withState w .following (min (g + 1) 14) with
        heat := w.heat.reportExit w.tb.clock
        tb := { (withState w .following (min (g + 1) 14)).tb with seed := none } } := fun _ => rfl
  rw [← endInstant_emptySeed { withState v .following (min (g + 1) 14) with heat := v.heat.reportExit v.tb.clock }]
  unfold seedStep
  dsimp only
  rw [hleft]

/-- Outside UNSET, and outside ANCHORED with PPS, the path is that of the station's grade (R16). -/
theorem steerPath_peerPath {s : State} (hs : s.tb.state ≠ .unset) (hp : s.tb.state = .anchored → ¬ppsPresent s) :
    steerPath s = peerPath s (if s.tb.state = .anchored then 1 else s.tb.grade) := by
  unfold steerPath
  split
  · exact absurd ‹_› hs
  · rename_i ha
    have hlost : ppsLost s = true := by
      cases h : ppsLost s with
      | true => rfl
      | false => exact absurd ((ppsLost_iff s).1 h) (hp ha)
    rw [hlost, if_pos ha]
    rfl
  · rename_i ha
    rw [if_neg ha]

theorem peerPath_following {s : State} {g own : Nat} (hg : bestGrade s g) (hlt : g < own) : peerPath s own =
    corrected (withState s .following (min (g + 1) 14)) (lowerMedian (referenceOffsets s g)) s.tb.interval := by
  unfold peerPath
  rw [(leastGrade_eq_iff s g).2 hg, corrected_eq]
  exact if_pos hlt

theorem peerPath_consensus {s : State} {own : Nat} (hg : bestGrade s own) : peerPath s own =
    corrected (withState s .consensus own) (lowerMedian (0 :: referenceOffsets s own)) s.tb.interval := by
  unfold peerPath
  rw [(leastGrade_eq_iff s own).2 hg, corrected_eq]
  dsimp only
  rw [if_neg (Nat.lt_irrefl own), if_pos rfl]
  rfl

theorem peerPath_holdover {s : State} {own : Nat} (h : (∀ g, ¬bestGrade s g) ∨ ∃ g, bestGrade s g ∧ own < g) :
    peerPath s own = withoutP (if s.tb.state = .holdover then s else enterHoldover s own) := by
  unfold peerPath
  rcases h with h | ⟨g, hg, hlt⟩
  · rw [leastGrade_none_of h]; rfl
  · rw [(leastGrade_eq_iff s g).2 hg]
    dsimp only
    rw [if_neg (Nat.not_lt.2 hlt.le), if_neg (Nat.ne_of_gt hlt)]
    rfl

/-! ### Expiry -/

theorem exec_peerExpiry (s : State) :
    exec .peerExpiry s = doWhen (s.awake && instantReached s && instantExpires s) s steeringWork := rfl

theorem exec_peerExpiry_due {s : State} {n : ArrayTime} (h : instantDue s n) :
    exec .peerExpiry s = doWhen (instantExpires s) s (fun s => endInstant (steerPath (beginInstant s))) := by
  obtain ⟨ha, hn, hd⟩ := h
  rw [exec_peerExpiry, ha, (instantReached_iff s).2 ⟨n, hn, hd⟩]
  rfl

theorem steerPath_peers (s : State) : (steerPath s).peers = s.peers := by simp

/-- An instant removes an entry exactly where one has reached sixteen intervals by local time after the path (R37). -/
theorem instantExpires_iff (s : State) : instantExpires s = true ↔
    ∃ e ∈ s.peers.entries, 16 * (e.interval : Int) * 1000000 ≤ diffUs (steerPath (beginInstant s)).tb.clock e.last := by
  have hentries : (shiftedInstant s).peers.entries = s.peers.entries.map PeerEntry.shifted := by
    rw [← beginInstant_peers s, ← steerPath_peers (beginInstant s)]
    rfl
  have hclock : (shiftedInstant s).tb.clock = (steerPath (beginInstant s)).tb.clock := rfl
  unfold instantExpires
  rw [hentries, hclock, List.any_map, List.any_eq_true]
  exact exists_congr fun e => and_congr_right fun _ => by
    rw [Function.comp_apply, expired_iff, PeerEntry.shifted_interval, PeerEntry.shifted_last]

/-! ### Start -/

/-- The channels that the shed level powers (R43). -/
theorem powerWanted_iff (shed : Nat) (listenOnly : Bool) (c : Channel) :
    powerWanted shed listenOnly c = true ↔ listenOnly = false ∧ (shed ≤ 1 ∨ (shed = 2 ∧ c = .z)) := by
  unfold powerWanted
  split <;> simp [*]

theorem isCarePage_iff (p : Nat) : isCarePage p = true ↔ (252 ≤ p ∧ p ≤ 255) ∨ (508 ≤ p ∧ p ≤ 511) := by
  simp [isCarePage]

theorem initialMap_length : initialMap.length = 512 := by
  simp only [initialMap, List.length_append, List.length_replicate]

/-- Before the scan exactly the care pages are CARE (R123). -/
theorem initialMap_care {p : Nat} (hp : p < 512) : initialMap.getD p .care = .care ↔ isCarePage p = true := by
  rw [isCarePage_iff, List.getD_eq_getElem?_getD]
  simp only [initialMap, List.getElem?_append, List.getElem?_replicate, List.length_replicate]
  split_ifs <;> simp <;> omega

/-- The restart gap joins the exposure where the restored flag is set (R25, R183). -/
theorem reportExit_gapCounted (h : Heater) (now : ArrayTime) : gapCounted h now (h.reportExit now) := by
  refine ⟨(h.reportExit now).exposure, rfl, fun hf => ?_, fun hf => ⟨fun hr => ?_, fun r hr => ?_⟩⟩
  · simp [Heater.reportExit, hf]
  · simp [Heater.reportExit, hf, hr, exposureMax]
  · simp [Heater.reportExit, hf, hr, exposureMax, clampInt]

end Sys2Proof.Machine

namespace Sys2Proof.Proofs

open Sys2Proof.Machine

/-- Settles O27, by the run of rejections, the time state and e. -/
theorem ppsEdgeActs : Obligations.PpsEdgeActs := by
  intro s k e ha hu ht h0 h1 accept hacc
  have hn := ppsError_eq hu ht h0 h1
  obtain ⟨hfour, hother⟩ := ppsEdgeWork_cases s hn
  have htaken : ∀ u, accept u = ppsTaken u := fun u => by rw [hacc]; rfl
  have hexec : s.profile.ppsEnable = true → exec .ppsEdge s = .next (ppsEdgeWork s) := fun h => by
    rw [exec_ppsEdge, ha, h]; rfl
  simp only [htaken]
  refine ⟨fun h => ?_, fun hp => ⟨fun h4 => ⟨rfl, rfl, rfl, fun hs => ?_, fun hs => ?_⟩, fun h4 => ?_⟩⟩
  · rw [exec_ppsEdge, ha, h]; rfl
  · rw [hexec hp, hfour h4, ppsReacquire, if_pos (by exact hs)]; rfl
  · rw [hexec hp, hfour h4, ppsReacquire, if_neg (by exact hs)]; rfl
  obtain ⟨hunset, hanchor, hreject⟩ := hother h4
  rw [hexec hp]
  refine ⟨fun hs hal => ?_, fun hs hal hw => ?_, fun hs hw => ?_, fun hs hw => ?_⟩
  · rw [hunset hs (.inl hal), ppsAlign, if_neg (by simp [hal])]; rfl
  · rw [hunset hs (.inr hw), ppsAlign]
    simp only [hal, Bool.and_true, decide_eq_true_eq]
    rw [markAligned_of_aligned (by split <;> exact hal)]
  · rw [hanchor hs hw, ppsAnchor, corrected_eq, neg_neg]; rfl
  · rw [hreject hs hw]; rfl

/-- Settles O11, invariant by invariant. -/
theorem resetMeetsInvariants : Obligations.ResetMeetsInvariants := by
  have hqueue := (queueInv_iff State.reset).2 reset_bounded
  have hmap : pageMapInv State.reset :=
    ⟨initialMap_length, fun p hp => initialMap_care hp, fun _ h => (nomatch h), fun _ h => (nomatch h)⟩
  refine ⟨⟨.nil, fun _ h => by cases h⟩, rfl, by simp [clockInv, Timebase.reset, timeZero], hqueue,
    ⟨by decide, .nil, fun _ h => by cases h⟩, ⟨by decide, .nil, .nil⟩, ?_, ?_, hmap, ?_, ?_, Nat.zero_le _, ?_⟩
  · simp [eventsInv, alertAgrees, EventTable.reset, Line.reset, Timebase.reset]
  · simp [directoryInv, RecordMem.reset]
  · simp [chargeInv, Battery.reset, restoredPhase]
  · simp [heaterInv, Heater.reset]
  · simp [profileInv, Profile.initial, rateOf]

/-- Settles O21: the schedule of the first instant, and the first tick as the least multiple after local time. -/
theorem lineAndSamplerStart : Obligations.LineAndSamplerStart := by
  refine fun s => ⟨fun h n hn => ?_, fun h n h0 h1 hd => ?_⟩
  · unfold exec execLineEnable doWhen
    rw [if_pos (by simp [h]), hn]
    rfl
  · refine ⟨{ startSampler s with phase := .running }, ?_, rfl, ?_, fun c => ?_⟩
    · unfold exec execSamplerStart doWhen
      rw [if_pos (by simp [h])]
    · have hn : n = multipleAfter s.period (usOf s.tb.clock) :=
        eq_multipleFrom (tickPeriod_pos _ _) hd (by omega) (by omega)
      rw [hn]
      rfl
    · refine ⟨if powerWanted s.bat.shed s.listenOnly c then .settling else .off, ?_, ?_, ?_⟩
      · simp only [startSampler, get_ofFn]; rfl
      · rw [← powerWanted_iff]
        split <;> simp [*]
      · split <;> simp

/-- Settles O28: expiry within the instant, and PEER_EXPIRY as the instant at which an entry expires. -/
theorem peersExpire : Obligations.PeersExpire := by
  intro s
  refine ⟨fun h => ?_, fun n h => ⟨endInstant (steerPath (beginInstant s)), exec_steeringInstant_due h, ?_, ?_, ?_, ?_⟩⟩
  · rw [exec_peerExpiry, doWhen, if_neg]
    intro hc
    obtain ⟨⟨ha, hr⟩, -⟩ : (s.awake = true ∧ instantReached s = true) ∧ instantExpires s = true := by simpa using hc
    obtain ⟨n, hn, hd⟩ := (instantReached_iff s).1 hr
    exact h n ⟨ha, hn, hd⟩
  · rw [endInstant_tb]; rfl
  · rw [endInstant_peers, endInstant_tb, steerPath_peers, beginInstant_peers]; rfl
  · rintro ⟨e, he, hage⟩
    rw [endInstant_tb] at hage
    rw [exec_peerExpiry_due h, (instantExpires_iff s).2 ⟨e, he, hage⟩]
    rfl
  · intro hnone
    rw [exec_peerExpiry_due h]
    cases hx : instantExpires s with
    | false => rfl
    | true =>
      obtain ⟨e, he, hage⟩ := (instantExpires_iff s).1 hx
      have := hnone e he
      rw [endInstant_tb] at this
      exact absurd hage (not_le.2 this)

/-- Settles O24: the paths of R16 by the time state and the best grade. -/
theorem steeringInstantTakesItsPath : Obligations.SteeringInstantTakesItsPath := by
  refine ⟨reportExit_gapCounted, fun s u n G hdue hnodup hu hG => ?_⟩
  obtain ⟨g₀, htb⟩ := beginInstant_tb s
  have hgrade : u.tb.grade = g₀ := by rw [hu, htb]
  rw [exec_steeringInstant_due hdue, ← hu]
  rw [← hu] at htb
  have hpps : ppsPresent u ↔ ppsPresent s := by rw [hu]; exact beginInstant_ppsPresent s
  have hbest : ∀ g, bestGrade u g ↔ bestGrade s g := by rw [hu]; exact beginInstant_bestGrade s
  have hoffsets : ∀ g xs, offsetsOf s g xs → (referenceOffsets u g).Perm xs := by
    rw [hu]; exact fun g xs h => referenceOffsets_perm (by rwa [beginInstant_peers]) ((beginInstant_offsetsOf s g xs).2 h)
  have hstate : u.tb.state = s.tb.state := by rw [htb]
  have hinterval : u.tb.interval = s.tb.interval := by rw [htb]
  refine ⟨fun hs hp => ?_, fun hs g x hg hx v hv => ?_, fun hs hno => ?_, fun hs hp => ?_⟩
  · rw [steerPath_anchored (hstate.trans hs) (hpps.2 hp)]
  · have hseed : u.tb.seed = some x := by rw [htb]; exact hx
    have hclock : u.tb.clock = s.tb.clock := by rw [htb]
    rw [steerPath_seed (hstate.trans hs) ((hbest g).2 hg) hseed, endInstant_seedStep, hclock, ← hv]
  · have hseed : (∀ g, ¬bestGrade u g) ∨ u.tb.seed = none := by
      rw [htb]; simpa only [hbest] using hno
    rw [steerPath_unseeded (hstate.trans hs) hseed]
  · have hpath : steerPath u = peerPath u G := by
      rw [hG, ← hstate]
      exact steerPath_peerPath (hstate ▸ hs) fun ha hpres => hp (hstate ▸ ha) (hpps.1 hpres)
    rw [hpath]
    refine ⟨fun g xs v hg hlt ho hm => ?_, fun xs v hg ho hm => ?_, fun hno => ?_⟩
    · rw [peerPath_following ((hbest g).2 hg) hlt, lowerMedian_eq hm (hoffsets g xs ho), hinterval]
    · rw [peerPath_consensus ((hbest G).2 hg), lowerMedian_eq hm ((hoffsets G xs ho).cons 0), hinterval]
    · rw [peerPath_holdover (by simpa only [hbest] using hno), hstate]

end Sys2Proof.Proofs

/-! SUPPORT. Frames and queries that are heard: what the receiver hands on, and what the Peer Table and the query handler make of
it (R28 to R34, R194 to R196, R200 to R208). -/

namespace Sys2Proof.Machine

/-! ### What is heard -/

theorem heard_of_hears {s : State} {r : ArrayTime} (h : hears s r) : s.heard = some r := by
  obtain ⟨ha, hs, hr⟩ := h
  have hrec : s.receiving = true := by
    unfold State.receiving
    rw [ha, hs, hr]
    rfl
  unfold State.heard
  rw [hrec, hr]

/-- The frames of another station, of a kind that is handed on, pass the tests of R195. -/
theorem framePasses_station {s : State} {kind x : Nat} (hk : kind = 1 ∨ kind = 2 ∨ kind = 3) (h : heardFrom s x) :
    framePasses s kind x = true := by
  obtain ⟨-, h0, h1, hown⟩ := h
  have hsender : badSenderOf kind x = false := by
    unfold badSenderOf
    rw [show (kind == 4) = false by rcases hk with rfl | rfl | rfl <;> rfl]
    simp
    omega
  have hkind : knownKind kind = true := by rcases hk with rfl | rfl | rfl <;> rfl
  unfold framePasses ownSender
  rw [hsender, hkind, beq_eq_false_iff_ne.2 hown]
  rfl

/-- The QUERY of a service tool to the part passes them too (R195). -/
theorem framePasses_query {s : State} {q : QueryHeader} (h : queryHeard s q) :
    framePasses s 4 q.sender.toNat = true := by
  obtain ⟨-, h0, h1, hown, ht⟩ := h
  have hsender : badSenderOf 4 q.sender.toNat = false := by
    simp [badSenderOf]
    omega
  have hne : q.target.toNat ≠ q.sender.toNat := by omega
  simp [framePasses, ownSender, hsender, hown, hne, knownKind]

theorem takeFrame_station {s : State} {kind x : Nat} {r : ArrayTime} (hr : hears s r) (hx : heardFrom s x)
    (hk : kind = 1 ∨ kind = 2 ∨ kind = 3) (work : State → State) : takeFrame s kind x work = work (renewed s) :=
  takeFrame_heard s kind x work (by rw [heard_of_hears hr]; rfl) (framePasses_station hk hx)

/-- A heard query outside listen-only is carried out and answered (R200). -/
theorem takeQuery_answered {s : State} {q : QueryHeader} (h : queryHeard s q) (hl : s.listenOnly = false) (code : Nat)
    (work : State → Reply) : takeQuery s q (fun u => carryOut u q code work) =
      answered (work (renewed s)).state q code (work (renewed s)).result.code (work (renewed s)).data := by
  obtain ⟨r, hr⟩ := h.1
  have ht := h.2.2.2.1
  rw [takeQuery_heard s q _ (by rw [heard_of_hears hr]; rfl) (framePasses_query h) ht]
  unfold carryOut
  rw [if_neg]
  · rfl
  · rw [show (renewValid (endFrame s)).listenOnly = false from hl]
    exact Bool.false_ne_true

/-! ### The Peer Table -/

theorem timeStateOf_code {n : Nat} {st : TimeState} (h : n = st.code) : timeStateOf n = some st := by
  subst h
  cases st <;> rfl

theorem intervalOf_le {n : Nat} (h : n ≤ 7) : intervalOf n = some (4 * 2 ^ n) := if_pos (Nat.lt_succ_of_le h)

theorem beaconGood_of_fits {b : BeaconPayload} {st : TimeState} {x : Nat} (h : beaconFits b st) (hx : x ≤ 239) :
    beaconGood x b = true := by
  obtain ⟨hc, ht, hu, ha, ho, hs, hl, he, hn, hq⟩ := h
  have hgrade : gradeAgrees st b.grade.toNat = true := by
    cases st <;> simp_all [gradeAgrees]
  unfold beaconGood
  rw [timeStateOf_code ht, intervalOf_le hc]
  simp [hgrade, hs, hl, he, hn, hq]
  omega

theorem refill_eq_filledBy {s : State} {b : BeaconPayload} {st : TimeState} (h : beaconFits b st) (r : ArrayTime)
    (e : PeerEntry) : e.refill b r (beaconOffset s.profile b r) = filledBy s b r st e := by
  obtain ⟨hc, ht, -⟩ := h
  unfold PeerEntry.refill filledBy
  rw [timeStateOf_code ht, intervalOf_le hc]
  rfl

theorem newPeer_eq_madeBy {s : State} {b : BeaconPayload} {st : TimeState} (h : beaconFits b st) (r : ArrayTime) (x : Nat) :
    newPeer x b r (beaconOffset s.profile b r) = madeBy s x b r st := by
  unfold newPeer
  rw [refill_eq_filledBy h]
  rfl

/-- The BEACON is of a station out of UNSET, of a grade that may seed, and no worse than the seed that stands (R14). -/
def seedOffered (t : Timebase) (st : TimeState) (grade : Nat) : Prop :=
  t.state = .unset ∧ st ≠ .unset ∧ grade ≤ 14 ∧ ∀ y, t.seed = some y → grade ≤ y.grade

theorem offerSeed_cases {b : BeaconPayload} {st : TimeState} (hc : b.timeState.toNat = st.code) (t : Timebase) (p : Profile)
    (x : Nat) (r : ArrayTime) :
    (seedOffered t st b.grade.toNat → t.offerSeed p x b r = { t with
      seed := some ⟨x, b.grade.toNat, ofUs (usOf (wireTime b.departure) + cableDelay p b.linePos.toNat), r⟩ }) ∧
    (¬seedOffered t st b.grade.toNat → t.offerSeed p x b r = t) := by
  unfold Timebase.offerSeed seedOffered
  rw [timeStateOf_code hc]
  cases t.seed <;> refine ⟨fun h => if_pos ?_, fun h => if_neg ?_⟩ <;> simpa [and_assoc] using h

/-- The seed after a BEACON stored fresh (R14). -/
theorem offerSeed_after {s : State} {b : BeaconPayload} {st : TimeState} (h : beaconFits b st) (t : Timebase)
    (ht : t.state = s.tb.state) (x : Nat) (r : ArrayTime) :
    ∃ seed, seedAfter s x b r st t.seed seed ∧ t.offerSeed s.profile x b r = { t with seed := seed } := by
  obtain ⟨hpos, hneg⟩ := offerSeed_cases h.2.1 t s.profile x r
  unfold seedAfter
  rw [← ht]
  by_cases hc : seedOffered t st b.grade.toNat
  · exact ⟨_, ⟨fun _ => rfl, fun hn => absurd hc hn⟩, hpos hc⟩
  · exact ⟨t.seed, ⟨fun hp => absurd hp hc, fun _ => rfl⟩, hneg hc⟩

/-- Entries of one table with one identifier are the same. -/
theorem entry_unique {s : State} (h : peersInv s) {e x : PeerEntry} (he : e ∈ s.peers.entries) (hx : x ∈ s.peers.entries)
    (hid : x.id = e.id) : x = e := by
  have hd : (s.peers.entries.map PeerEntry.id).Nodup :=
    List.pairwise_map.2 (h.2.1.imp fun hlt => Nat.ne_of_lt hlt)
  exact List.inj_on_of_nodup_map hd hx he hid

/-- An entry found by its identifier is the only one of it. -/
theorem find_id {s : State} (h : peersInv s) {e : PeerEntry} (he : e ∈ s.peers.entries) :
    s.peers.entries.find? (·.id == e.id) = some e := by
  cases hf : s.peers.entries.find? (·.id == e.id) with
  | none => exact absurd (List.find?_eq_none.1 hf e he) (by simp)
  | some x => rw [entry_unique h he (List.mem_of_find?_eq_some hf) (by simpa using List.find?_some hf)]

theorem find_id_none {s : State} {x : Nat} (h : ∀ e ∈ s.peers.entries, e.id ≠ x) :
    s.peers.entries.find? (·.id == x) = none := by
  rw [List.find?_eq_none]
  intro e he
  simpa using h e he

theorem mem_insertPeer (e x : PeerEntry) (es : List PeerEntry) : x ∈ insertPeer e es ↔ x = e ∨ x ∈ es := by
  induction es with
  | nil => simp [insertPeer]
  | cons y rest ih =>
    unfold insertPeer
    split
    · simp
    · simp only [List.mem_cons, ih]
      tauto

/-- A new entry keeps the ascending order of identifiers. -/
theorem insertPeer_pairwise {e : PeerEntry} {es : List PeerEntry} (hes : es.Pairwise (fun a b => a.id < b.id))
    (hne : ∀ x ∈ es, x.id ≠ e.id) : (insertPeer e es).Pairwise (fun a b => a.id < b.id) := by
  induction es with
  | nil => simp [insertPeer]
  | cons y rest ih =>
    obtain ⟨hy, hrest⟩ := List.pairwise_cons.1 hes
    have hye := hne y List.mem_cons_self
    unfold insertPeer
    split
    · rename_i hlt
      refine List.pairwise_cons.2 ⟨fun z hz => ?_, hes⟩
      rcases List.mem_cons.1 hz with rfl | hz
      · exact hlt
      · exact hlt.trans (hy z hz)
    · refine List.pairwise_cons.2 ⟨fun z hz => ?_, ih hrest fun z hz => hne z (List.mem_cons_of_mem y hz)⟩
      rcases (mem_insertPeer e z rest).1 hz with rfl | hz
      · omega
      · exact hy z hz

/-- What the model takes for the oldest entry is no later than any other, and of no greater identifier at an equal time. -/
theorem oldestPeer_spec {es : List PeerEntry} (hne : es ≠ []) : ∃ y, oldestPeer es = some y ∧ y ∈ es ∧
    ∀ x ∈ es, usOf y.last < usOf x.last ∨ (usOf y.last = usOf x.last ∧ y.id ≤ x.id) := by
  induction es with
  | nil => exact absurd rfl hne
  | cons x rest ih =>
    unfold oldestPeer
    cases rest with
    | nil => exact ⟨x, rfl, List.mem_cons_self, fun z hz => by simp_all⟩
    | cons z tail =>
      obtain ⟨y, hy, hm, hle⟩ := ih (List.cons_ne_nil z tail)
      rw [hy]
      dsimp only
      split
      · rename_i hlt
        refine ⟨y, rfl, List.mem_cons_of_mem x hm, fun w hw => ?_⟩
        rcases List.mem_cons.1 hw with rfl | hw
        · simp at hlt; omega
        · exact hle w hw
      · rename_i hlt
        refine ⟨x, rfl, List.mem_cons_self, fun w hw => ?_⟩
        rcases List.mem_cons.1 hw with rfl | hw
        · exact .inr ⟨rfl, le_refl _⟩
        · have := hle w hw
          simp at hlt
          omega

/-- The oldest entry of the model is the one that R34 looks at. -/
theorem oldestPeer_eq {s : State} (h : peersInv s) {old : PeerEntry} (ho : oldestEntry s old) :
    oldestPeer s.peers.entries = some old := by
  obtain ⟨hm, hle⟩ := ho
  obtain ⟨y, hy, hym, hyle⟩ := oldestPeer_spec (List.ne_nil_of_mem hm)
  have h1 := hle y hym
  have h2 := hyle old hm
  rw [hy, entry_unique h hm hym (by omega)]

/-- The seed after the removal of an entry (R14, R34). -/
theorem dropSeed_eq_filter (t : Timebase) {gone : Nat → Bool} {p : Seed → Bool} (h : ∀ x, t.seed = some x → gone x.sender = !p x) :
    t.dropSeed gone = { t with seed := t.seed.filter p } := by
  unfold Timebase.dropSeed
  split
  · rename_i hs
    rw [hs, Option.filter_none, ← hs]
  · rename_i x hs
    rw [h x hs, hs, Option.filter_some]
    cases hp : p x
    · rfl
    · rw [if_neg (by decide), if_pos rfl, ← hs]

/-- A BEACON of a sender without an entry, at a place that is free (R33). -/
theorem createPeer_stored {s u : State} {b : BeaconPayload} {st : TimeState} (h : beaconFits b st) {x : Nat} (r : ArrayTime)
    (hp : u.profile = s.profile) (ht : u.tb.state = s.tb.state)
    (hpairwise : u.peers.entries.Pairwise (fun a b => a.id < b.id)) (hx : ∀ e ∈ u.peers.entries, e.id ≠ x) :
    ∃ entries seed, seedAfter s x b r st u.tb.seed seed ∧ (∀ e, e ∈ entries ↔ e = madeBy s x b r st ∨ e ∈ u.peers.entries) ∧
      entries.Pairwise (fun a b => a.id < b.id) ∧
      createPeer u x b r = { u with peers := { u.peers with entries := entries }, tb := { u.tb with seed := seed } } := by
  obtain ⟨seed, hseed, htb⟩ := offerSeed_after h u.tb ht x r
  refine ⟨insertPeer (madeBy s x b r st) u.peers.entries, seed, hseed, fun e => mem_insertPeer _ e _,
    insertPeer_pairwise hpairwise hx, ?_⟩
  unfold createPeer
  rw [hp, newPeer_eq_madeBy h, htb]

/-- A checked BEACON at the Peer Table, by what the table holds of its sender (R30, R33, R34). -/
theorem peerBeacon_good {s : State} {b : BeaconPayload} {x : Nat} {r : ArrayTime} (hg : beaconGood x b = true) :
    (∀ e, s.peers.entries.find? (·.id == x) = some e → e.conflict = false → samePlace e b = true →
      peerBeacon s x b r = { s with
        peers := { s.peers with
          entries := s.peers.entries.map (fun y => if y.id == x then y.refill b r (beaconOffset s.profile b r) else y) }
        tb := s.tb.offerSeed s.profile x b r }) ∧
    (s.peers.entries.find? (·.id == x) = none →
      (s.peers.entries.length < 24 → peerBeacon s x b r = createPeer s x b r) ∧
      ∀ old, ¬s.peers.entries.length < 24 → oldestPeer s.peers.entries = some old → old.live s.tb.clock = false →
        peerBeacon s x b r = createPeer (removePeers s (fun e => e.id == old.id)) x b r) := by
  unfold peerBeacon
  rw [hg]
  refine ⟨fun e he hc hs => ?_, fun hn => ⟨fun hl => ?_, fun old hl ho hlive => ?_⟩⟩
  · simp [he, hc, hs]
  · simp [hn, hl]
  · simp [hn, hl, ho, hlive]

end Sys2Proof.Machine

namespace Sys2Proof.Proofs

open Sys2Proof.Machine

/-- Settles O41: the quiet test at present local time. -/
theorem sectionResets : Obligations.SectionResets := by
  refine ⟨fun s h => ?_, fun s u v ha hq hv hu => ?_⟩
  · have hquiet : quietTest s = s := if_neg (by rcases h with h | h <;> simp [quietReached, h])
    have hexec : exec .sectionReset s = doWhen s.awake s quietTest := rfl
    cases hw : s.awake <;> simp [hexec, doWhen, hquiet, hw]
  · have hseed : s.tb.dropSeed (fun id => s.peers.entries.any (fun e => e.id == id && true)) =
        { s.tb with seed := s.tb.seed.filter (fun x => s.peers.entries.all (fun e => e.id != x.sender)) } :=
      dropSeed_eq_filter _ fun x _ => by simp [List.not_all_eq_any_not, bne]
    have hpeers : s.peers.entries.filter (fun _ => !true) = [] := by simp
    have hwork : sectionResetWork s = sectionTime u := by
      rw [hu]
      unfold sectionResetWork removePeers
      dsimp only
      rw [hseed, hpeers]
      simp [bump, beq_eq_decide]
    have hexec : exec .sectionReset s = .next (quietTest s) := by
      have hexec : exec .sectionReset s = doWhen s.awake s quietTest := rfl
      rw [hexec, doWhen, ha]
      rfl
    have hreached : quietReached s = decide (300000000 ≤ usOf s.tb.clock - v) := by
      unfold quietReached
      rw [hq, hv]
      rfl
    have hstate : u.tb.state = s.tb.state ∧ u.tb.grade = s.tb.grade := by rw [hu]; exact ⟨rfl, rfl⟩
    rw [hexec]
    unfold quietTest
    rw [hreached, hwork]
    refine ⟨fun hlt => ?_, fun hle => ?_⟩
    · rw [if_neg (by simpa using hlt)]
    · rw [if_pos (by simpa using hle)]
      unfold sectionTime
      rw [hstate.1, hstate.2]
      exact ⟨fun hs => by rw [if_pos (by simpa using hs)]; rfl, fun hs => by rw [if_neg (by simpa using hs)]⟩

/-- Settles O29: a place of the sender's own, a free place, and the place of the oldest entry. -/
theorem beaconIsStored : Obligations.BeaconIsStored := by
  intro s h b r st x hinv hx hr hfrom hlow hfit
  have hgood := beaconGood_of_fits hfit hlow
  have hexec : exec (.beaconReceived h b) s = .next (peerBeacon (renewed s) x b r) := by
    have hstart : exec (.beaconReceived h b) s = execBeaconReceived h b s := rfl
    rw [hstart]
    unfold execBeaconReceived
    rw [heard_of_hears hr, ← hx]
    dsimp only
    rw [takeFrame_station hr hfrom (.inr (.inr rfl))]
  obtain ⟨hown, hfree⟩ := peerBeacon_good (s := renewed s) (r := r) hgood
  rw [hexec]
  refine ⟨fun e he hid hc hplace => ?_, fun hno hlen => ?_, fun old hno hlen hold hlive => ?_⟩
  · subst hid
    obtain ⟨seed, hseed, htb⟩ := offerSeed_after hfit s.tb rfl e.id r
    have hentry : ∀ y : PeerEntry, y.refill b r (beaconOffset (renewed s).profile b r) = filledBy s b r st y :=
      refill_eq_filledBy hfit r
    have hclock : (renewed s).tb.offerSeed (renewed s).profile e.id b r = { s.tb with seed := seed } := htb
    refine ⟨seed, hseed, ?_⟩
    rw [hown e (find_id hinv he) hc (by simpa [samePlace, and_assoc] using hplace), hclock]
    simp only [hentry, beq_iff_eq]
    rfl
  · obtain ⟨entries, seed, h1, h2, h3, h4⟩ := createPeer_stored (s := s) (u := renewed s) hfit r rfl rfl hinv.2.1 hno
    exact ⟨entries, seed, h1, h2, h3, by rw [(hfree (find_id_none hno)).1 hlen, h4]; rfl⟩
  · have hseed : s.tb.dropSeed (fun id => s.peers.entries.any (fun e => e.id == id && e.id == old.id)) =
        { s.tb with seed := s.tb.seed.filter (fun y => y.sender != old.id) } := by
      refine dropSeed_eq_filter _ fun y _ => ?_
      rw [Bool.eq_iff_iff]
      simp only [List.any_eq_true, Bool.and_eq_true, beq_iff_eq, bne, Bool.not_not]
      exact ⟨fun ⟨e, _, h1, h2⟩ => h1 ▸ h2, fun hy => ⟨old, hold.1, hy.symm, rfl⟩⟩
    have hmem : ∀ e, e ∈ s.peers.entries.filter (fun e => !(e.id == old.id)) ↔ e ∈ s.peers.entries ∧ e ≠ old := by
      intro e
      simp only [List.mem_filter, Bool.not_eq_true', beq_eq_false_iff_ne]
      exact and_congr_right fun he => not_congr ⟨entry_unique hinv hold.1 he, congrArg _⟩
    have hremoved : removePeers (renewed s) (fun e => e.id == old.id) = { renewed s with
        peers := { s.peers with entries := s.peers.entries.filter (fun e => !(e.id == old.id)) }
        tb := { s.tb with seed := s.tb.seed.filter (fun y => y.sender != old.id) } } := by rw [← hseed]; rfl
    obtain ⟨entries, seed, h1, h2, h3, h4⟩ := createPeer_stored (s := s) (u := { renewed s with
        peers := { s.peers with entries := s.peers.entries.filter (fun e => !(e.id == old.id)) }
        tb := { s.tb with seed := s.tb.seed.filter (fun y => y.sender != old.id) } }) (x := x) hfit r rfl rfl
      (hinv.2.1.filter _) (fun e he => hno e (List.mem_of_mem_filter he))
    refine ⟨entries, seed, h1, fun e => (h2 e).trans (or_congr_right (hmem e)), h3, ?_⟩
    rw [(hfree (find_id_none hno)).2 old (Nat.not_lt.2 hlen.ge) (oldestPeer_eq hinv hold)
      (Bool.eq_false_iff.2 (mt (live_iff old s.tb.clock).1 hlive)), hremoved, h4]

end Sys2Proof.Proofs

/-! SUPPORT. The queries that change the station: what each leaves, and the snapshot that falls due (R164, R165, R204 to R208). -/

namespace Sys2Proof.Machine

/-! ### Snapshots -/

theorem careRequest_eq (place slot : Nat) (x : Snapshot) (cause : SnapCause) : careRequest place slot x cause =
    { page := carePage place, seq := x.seq, cause := cause, offset := if slot = 0 then 0 else 32 + 32 * slot
      bytes := (if slot = 0 then careHeader (carePage place) else []) ++ snapshotBytes x
      stage := if slot = 0 then .needErase else .needProgram } := by
  unfold careRequest
  split <;> simp_all

theorem formSnapshot_eq (s : State) (cause : SnapCause) : formSnapshot s cause = formedSnapshot s cause := by
  unfold formSnapshot formedSnapshot
  dsimp only
  rw [careRequest_eq]
  rfl

theorem snapshotDue_eq_dueSnapshot (s : State) (cause : SnapCause) : snapshotDue s cause = dueSnapshot s cause := by
  unfold snapshotDue dueSnapshot owedCause
  rw [formSnapshot_eq]
  cases h : s.bat.placed <;> simp [apply_ite some]

/-! ### The replies -/

/-- What the question of R204 asks of the marks and of the operation in flight. -/
theorem releaseAsked_iff (s : State) (id : Nat) : releaseAsked s id = true ↔
    (∃ m ∈ s.rm.marks, m.recId = id ∧ m.which = 1) ∨
      ∃ m, s.rm.flight = some (.mark m) ∧ m.recId = id ∧ m.which = 1 := by
  unfold releaseAsked
  rw [Bool.or_eq_true, List.any_eq_true]
  refine or_congr (by simp) ?_
  cases s.rm.flight with
  | none => simp
  | some o => cases o <;> simp

theorem releaseReply_absent {s : State} {id : Nat} (h : ∀ e ∈ s.rm.dir, e.id ≠ id) :
    releaseReply s id = plainReply s .refused [] := by
  have hf : dirFind s id = none := List.find?_eq_none.2 fun e he => by simpa using h e he
  unfold releaseReply
  rw [hf]

/-- RELEASE of a record that the directory holds (R143, R204). -/
theorem releaseReply_found {s : State} {id : Nat} {e : DirEntry} (h : dirFind s id = some e) :
    (e.hold ≠ .held → releaseReply s id = plainReply s .refused []) ∧
    (e.hold = .held → releaseAsked s id = true → releaseReply s id = plainReply s .ok []) ∧
    (∀ p, e.hold = .held → releaseAsked s id = false → e.firstPage = some p →
      releaseReply s id = ⟨{ s with rm := { s.rm with marks := s.rm.marks ++ [⟨id, p, 1⟩] } }, .ok, []⟩) := by
  unfold releaseReply
  rw [h]
  refine ⟨fun hh => ?_, fun hh ha => ?_, fun p hh ha hp => ?_⟩ <;> simp [*]

/-- The pool is every page but the care pages (R123). -/
theorem poolPages_eq : poolPages = (List.range 512).filter (fun p => !isCarePage p) := by decide +kernel

/-- WIPE while a capture runs or closes (R205). -/
theorem wipeReply_capturing {s : State} (hw : s.rm.wiping = false) (hc : s.rm.cap.mode ≠ .idle) :
    wipeReply s = plainReply s .refused [] := by
  unfold wipeReply
  rw [hw, if_neg Bool.false_ne_true, if_pos (bne_iff_ne.2 hc)]

theorem wipeReply_taken {s : State} (hw : s.rm.wiping = false) (hc : s.rm.cap.mode = .idle) :
    wipeReply s = ⟨wipeWork s, .ok, []⟩ := by
  unfold wipeReply
  rw [hw, hc]
  rfl

/-- The states in which SET SECONDS is taken (R23, R206). -/
theorem secondsAccepted_iff (s : State) :
    secondsAccepted s = true ↔ s.tb.state = .unset ∨ (s.tb.state = .holdover ∧ s.tb.grade = 14) := by
  simp [secondsAccepted]

/-- SET SECONDS acted on: the step, then HOLDOVER of grade 14, and an exit from UNSET reported (R23, R25). -/
theorem setSecondsWork_cases (s u : State) (n : Nat)
    (hu : u = enterHoldover (stepClock s (((n : Int) - s.tb.clock.sec) * 1000000)) 14) :
    (s.tb.state = .unset → setSecondsWork s n = leaveUnset u) ∧ (s.tb.state ≠ .unset → setSecondsWork s n = u) := by
  unfold setSecondsWork
  dsimp only
  rw [← hu]
  exact ⟨fun h => if_pos h, fun h => if_neg h⟩

end Sys2Proof.Machine

namespace Sys2Proof.Proofs

open Sys2Proof.Machine

/-- Settles O59, query by query. -/
theorem changingQueriesAct : Obligations.ChangingQueriesAct := by
  intro s q hq hl
  have hrun : ∀ (code : Nat) (work : State → Reply) (r : Reply), work (renewed s) = r →
      Host.Outcome.next (takeQuery s q (fun u => carryOut u q code work)) =
        (.next (answered r.state q code r.result.code r.data) : Result) := by
    intro code work r hr
    rw [takeQuery_answered hq hl, hr]
  refine ⟨fun recId => ⟨fun h => ?_, fun e he asked hasked => ⟨fun hh => ?_, fun hh ha => ?_, fun p hh ha hp => ?_⟩⟩,
    fun hw => ?_, fun hw hc => ?_, fun hw hc => ?_, fun seconds u hu => ⟨fun hs => ?_, fun hs hg => ?_, fun hn => ?_⟩,
    ?_, fun hp => ?_, fun hp => ?_⟩
  · exact hrun 6 (fun u => releaseReply u recId.toNat) _ (releaseReply_absent h)
  · exact hrun 6 (fun u => releaseReply u recId.toNat) _ ((releaseReply_found (s := renewed s) he).1 hh)
  · exact hrun 6 (fun u => releaseReply u recId.toNat) _
      ((releaseReply_found (s := renewed s) he).2.1 hh ((releaseAsked_iff (renewed s) _).2 (hasked.1 ha)))
  · have hnot : releaseAsked (renewed s) recId.toNat = false :=
      Bool.eq_false_iff.2 fun hc => ha (hasked.2 ((releaseAsked_iff (renewed s) _).1 hc))
    exact hrun 6 (fun u => releaseReply u recId.toNat) _ ((releaseReply_found (s := renewed s) he).2.2 p hh hnot hp)
  · exact hrun 7 wipeReply _ (if_pos hw)
  · exact hrun 7 wipeReply (plainReply (renewed s) .refused []) (wipeReply_capturing (s := renewed s) hw hc)
  · refine hrun 7 wipeReply ⟨_, .ok, []⟩ ?_
    rw [wipeReply_taken (s := renewed s) hw hc, wipeWork, poolPages_eq]
    rfl
  · refine hrun 8 (fun v => secondsReply v seconds.toNat) ⟨_, .ok, []⟩ ?_
    have hheat : u.heat = s.heat := by rw [hu]; rfl
    dsimp only
    rw [secondsReply, if_pos ((secondsAccepted_iff (renewed s)).2 (.inl hs)),
      (setSecondsWork_cases (renewed s) u _ hu).1 hs, leaveUnset, hheat]
  · refine hrun 8 (fun v => secondsReply v seconds.toNat) ⟨u, .ok, []⟩ ?_
    have hne : (renewed s).tb.state ≠ .unset := by rw [show (renewed s).tb.state = _ from hs]; decide
    rw [secondsReply, if_pos ((secondsAccepted_iff (renewed s)).2 (.inr ⟨hs, hg⟩)),
      (setSecondsWork_cases (renewed s) u _ hu).2 hne]
  · refine hrun 8 (fun v => secondsReply v seconds.toNat) (plainReply (renewed s) .refused []) ?_
    rw [secondsReply, if_neg (mt (secondsAccepted_iff (renewed s)).1 hn)]
  · exact hrun 9 (fun u => ⟨latchClearWork u, .ok, []⟩) ⟨latchesCleared (renewed s), .ok, []⟩ rfl
  · exact hrun 10 restartReply _ (if_pos hp)
  · refine hrun 10 restartReply ⟨_, .ok, []⟩ ?_
    rw [restartReply, if_neg (by rw [show (renewed s).query.restartPending = _ from hp]; decide), snapshotDue_eq_dueSnapshot]
    rfl

end Sys2Proof.Proofs

/-! SUPPORT. The readers of a housekeeping result: the Battery Monitor's on-delays, anchors, shed levels and permission, the
charge permit, the oscillator offset and the heater-current checks (R4, R50, R153 to R162, R179). -/

namespace Sys2Proof.Machine

/-! ### On-delays -/

/-- An on-delay after an evaluation is the one that the statement speaks of. -/
theorem eval_of_delayAt {d after : OnDelay} {cond : Bool} {P : Prop} {now : ArrayTime} {need : Int}
    (hc : cond = true ↔ P) (h : delayAt d P now need after) : d.eval cond now need = after := by
  obtain ⟨hnot, hyes⟩ := h
  unfold OnDelay.eval
  by_cases hp : P
  · obtain ⟨hs, hm⟩ := hyes hp
    obtain ⟨start, met⟩ := after
    simp only at hs hm
    have hmet : (d.isMet || decide (need ≤ diffUs now (d.start.getD now))) = met := by
      rw [Bool.eq_iff_iff, hm]
      simp
    rw [if_pos (hc.2 hp), hs, ← hmet]
  · rw [if_neg (mt hc.1 hp), hnot hp]
    rfl

/-! ### Conditions -/

theorem sourcePresent_iff (s : State) :
    s.sourcePresent = true ↔ ∃ v, s.sampler.latest.srcVolt = some v ∧ s.profile.sourceMv < v := by
  unfold State.sourcePresent
  cases s.sampler.latest.srcVolt <;> simp

theorem fullCondition_iff (s : State) : fullCondition s = true ↔ fullHolds s := by
  unfold fullCondition fullHolds
  cases s.sampler.latest.batVolt with
  | none => simp
  | some v =>
    cases s.sampler.latest.batCurr with
    | none => simp
    | some i =>
      simp only [Bool.and_eq_true, decide_eq_true_eq, sourcePresent_iff, Option.some.injEq]
      constructor
      · rintro ⟨⟨⟨hv, h0⟩, hi⟩, src, hs, hm⟩
        exact ⟨v, i, src, rfl, rfl, hs, hv, h0, hi, hm⟩
      · rintro ⟨v', i', src, rfl, rfl, hs, hv, h0, hi, hm⟩
        exact ⟨⟨⟨hv, h0⟩, hi⟩, src, hs, hm⟩

theorem emptyCondition_iff (s : State) : emptyCondition s = true ↔ emptyHolds s := by
  unfold emptyCondition emptyHolds
  cases s.sampler.latest.batVolt <;> simp

theorem voltBelow_iff (s : State) (bound : Int) :
    voltBelow s bound = true ↔ ∃ v, s.sampler.latest.batVolt = some v ∧ v < bound := by
  unfold voltBelow
  cases s.sampler.latest.batVolt <;> simp

theorem voltReaches_iff (s : State) (bound : Int) :
    voltReaches s bound = true ↔ ∃ v, s.sampler.latest.batVolt = some v ∧ bound ≤ v := by
  unfold voltReaches
  cases s.sampler.latest.batVolt <;> simp

theorem exitCondition_iff {s : State} {level : Nat} (h1 : 1 ≤ level) (h3 : level ≤ 3) :
    exitCondition s level = true ↔ exitHolds s level := by
  have hsoc : socNow s = s.soc := rfl
  unfold exitCondition exitHolds
  rw [hsoc]
  obtain rfl | rfl | rfl : level = 1 ∨ level = 2 ∨ level = 3 := by omega
  · simp
  · simp [voltReaches_iff]
  · simp [voltReaches_iff]

/-- The entry level is the greatest level whose entry condition holds (R157). -/
theorem entryLevel_spec (s : State) :
    (entryLevel s = 0 ∨ entryHolds s (entryLevel s)) ∧ ∀ k, entryLevel s < k → ¬entryHolds s k := by
  have hsoc : socNow s = s.soc := rfl
  unfold entryLevel entryHolds
  rw [hsoc]
  simp only [← voltBelow_iff, Bool.or_eq_true, decide_eq_true_eq]
  split_ifs with h3 h2 h1
  · exact ⟨.inr (.inl ⟨rfl, h3⟩), by omega⟩
  · refine ⟨.inr (.inr (.inl ⟨rfl, h2⟩)), ?_⟩
    rintro k hk (⟨rfl, h⟩ | ⟨rfl, h⟩ | ⟨rfl, h⟩)
    · exact h3 h
    · omega
    · omega
  · refine ⟨.inr (.inr (.inr ⟨rfl, h1⟩)), ?_⟩
    rintro k hk (⟨rfl, h⟩ | ⟨rfl, h⟩ | ⟨rfl, h⟩)
    · exact h3 h
    · exact h2 h
    · omega
  · refine ⟨.inl rfl, ?_⟩
    rintro k hk (⟨rfl, h⟩ | ⟨rfl, h⟩ | ⟨rfl, h⟩)
    · exact h3 h
    · exact h2 h
    · exact h1 h

theorem entryLevel_eq {s : State} {level : Nat} (h : entryHolds s level) (hmax : ∀ k, level < k → ¬entryHolds s k) :
    entryLevel s = level := by
  obtain ⟨hself, hgreater⟩ := entryLevel_spec s
  rcases Nat.lt_trichotomy (entryLevel s) level with hlt | heq | hlt
  · exact absurd h (hgreater level hlt)
  · exact heq
  · exact absurd (hself.resolve_left (Nat.ne_of_gt (Nat.zero_lt_of_lt hlt))) (hmax _ hlt)

theorem entryLevel_le {s : State} {shed : Nat} (h : ∀ k, shed < k → ¬entryHolds s k) : entryLevel s ≤ shed := by
  by_contra hlt
  rw [not_le] at hlt
  exact h _ hlt ((entryLevel_spec s).1.resolve_left (Nat.ne_of_gt (Nat.zero_lt_of_lt hlt)))

/-- Write permission is a function of the latest battery voltage and the shed level (R160). -/
theorem permissionIs_iff (s : State) (level : Nat) (w : WritePerm) :
    permissionIs s level w ↔ w = permissionOf s.profile s.sampler.latest.batVolt level := by
  unfold permissionIs permissionOf
  cases s.sampler.latest.batVolt <;> simp

/-! ### Anchors -/

theorem fullAnchor_eq {s : State} {f : OnDelay} (h : delayAt s.bat.full (fullHolds s) s.tb.clock 600000000 f) :
    fullAnchor s = fullActed s f := by
  unfold fullAnchor fullActed
  rw [eval_of_delayAt (fullCondition_iff s) h]
  unfold Battery.fullAct
  cases hm : f.isMet
  · simp
  · cases hb : s.bat.full.isMet <;> simp [bump, Profile.fullCharge, packFull]

theorem emptyAnchor_eq {s : State} {e : OnDelay} (h : delayAt s.bat.empty (emptyHolds s) s.tb.clock 60000000 e) :
    emptyAnchor s = emptyActed s e := by
  unfold emptyAnchor emptyActed
  rw [eval_of_delayAt (emptyCondition_iff s) h]
  unfold Battery.emptyAct
  have hfull : packFull s = s.profile.fullCharge := rfl
  rw [hfull]
  cases hm : e.isMet
  · simp
  · by_cases hq : s.profile.fullCharge / 20 < s.bat.q <;> cases hb : s.bat.empty.isMet <;> simp [bump, hq]


/-! ### Shed levels -/

/-- The next tick after a change of the period: the first multiple of the new period after the last tick (R22). -/
theorem rescheduleTick_eq (s : State) : ∃ next, rescheduleTick s = { s with tb := { s.tb with nextTick := next } } ∧
    (s.tb.lastTick = none → next = s.tb.nextTick) ∧
    ∀ last n : Int, s.tb.lastTick.map usOf = some last → s.period ∣ n → last < n → n ≤ last + s.period →
      next = some (ofUs n) := by
  unfold rescheduleTick
  cases hl : s.tb.lastTick with
  | none => exact ⟨s.tb.nextTick, rfl, fun _ => rfl, fun last n h => by simp at h⟩
  | some t =>
    refine ⟨_, rfl, fun h => by simp at h, fun last n h hd h0 h1 => ?_⟩
    simp only [Option.map_some, Option.some.injEq] at h
    subst h
    rw [eq_multipleFrom (tickPeriod_pos _ _) hd h0 (by rw [State.period] at h1; omega)]
    rfl

/-- The Battery Monitor replaced. The closing of a capture's record works on the Record Memory alone, so it does the same
whatever the Battery Monitor holds. -/
def State.withBat (s : State) (b : Battery) : State := { s with bat := b }

theorem countClose_withBat (s : State) (b : Battery) (cause : EndCause) :
    countClose (s.withBat b) cause = (countClose s cause).withBat b := by
  cases cause <;> rfl

theorem returnIf_withBat (s : State) (b : Battery) (id : Nat) (page : Option Nat) :
    returnIf (s.withBat b) id page = (returnIf s id page).withBat b := by
  cases page <;> rfl

theorem captureFreed_withBat (s : State) (b : Battery) : captureFreed (s.withBat b) = (captureFreed s).withBat b := by
  have hrm : (s.withBat b).rm = s.rm := rfl
  unfold captureFreed
  rw [hrm]
  dsimp only
  cases s.rm.cap.waiting <;> rfl

theorem dropWaiting_withBat (s : State) (b : Battery) : dropWaiting (s.withBat b) = (dropWaiting s).withBat b := by
  have hrm : (s.withBat b).rm = s.rm := rfl
  unfold dropWaiting
  rw [hrm]
  cases s.rm.cap.waiting <;> rfl

theorem closeRecord_withBat (s : State) (b : Battery) (cause : EndCause) :
    closeRecord (s.withBat b) cause = (closeRecord s cause).withBat b := by
  unfold closeRecord
  rw [countClose_withBat]
  generalize countClose s cause = u
  have hrm : (u.withBat b).rm = u.rm := rfl
  have hflight : (u.withBat b).programInFlight = u.programInFlight := rfl
  dsimp only
  rw [hrm, hflight]
  cases u.rm.cap.recId with
  | none => rfl
  | some id =>
    dsimp only
    rw [returnIf_withBat, returnIf_withBat]
    split_ifs
    · rfl
    · rfl
    · exact captureFreed_withBat (dropRecord (returnIf u id u.rm.cap.buf.page) id) b
    · exact captureFreed_withBat (markClosed (returnIf u id u.rm.cap.buf.page) id cause) b
    · rfl

theorem closeAtOnce_withBat (s : State) (b : Battery) (cause : EndCause) :
    closeAtOnce (s.withBat b) cause = (closeAtOnce s cause).withBat b := by
  have hrm : (s.withBat b).rm = s.rm := rfl
  unfold closeAtOnce
  rw [closeRecord_withBat, countClose_withBat, dropWaiting_withBat, hrm]
  split_ifs <;> rfl

theorem captureTriggerEnd_withBat (s : State) (b : Battery) (t : ArrayTime) :
    captureTriggerEnd (s.withBat b) t = (captureTriggerEnd s t).withBat b := by
  have hrm : (s.withBat b).rm = s.rm := rfl
  unfold captureTriggerEnd
  rw [hrm]
  split_ifs <;> rfl

theorem detectorOff_withBat (s : State) (b : Battery) : detectorOff (s.withBat b) = (detectorOff s).withBat b := by
  have hdet : (s.withBat b).det = s.det := rfl
  unfold detectorOff
  dsimp only
  rw [hdet]
  split_ifs
  · exact captureTriggerEnd_withBat { s with det := _ } b _
  · rfl

/-- Write permission formed after the shed level, as R160's values stand. -/
theorem formPermission_eq {s : State} {w : WritePerm} (h : permissionIs s s.bat.shed w) :
    formPermission s = s.withBat { s.bat with permission := w } := by
  rw [(permissionIs_iff _ _ _).1 h]
  rfl

/-- The record closes and the Detector goes off in the same way under the new write permission (R159, R160). -/
theorem formPermission_closed {s : State} {w : WritePerm} (h : permissionIs s s.bat.shed w) (cause : EndCause) :
    formPermission (closeAtOnce (detectorOff s) cause) =
      closeAtOnce (detectorOff (s.withBat { s.bat with permission := w })) cause := by
  have hsame : permissionIs (closeAtOnce (detectorOff s) cause) (closeAtOnce (detectorOff s) cause).bat.shed w := by
    simpa [permissionIs] using h
  rw [formPermission_eq hsame, detectorOff_withBat, closeAtOnce_withBat]
  simp

/-- The change of the shed level without what it brings about (R157, R158). -/
def levelSet (s : State) (level : Nat) : State :=
  s.withBat { s.bat with
    shed := level, exit := ⟨none, false⟩
    shedRaises := if s.bat.shed < level then bump s.bat.shedRaises else s.bat.shedRaises }

theorem setShed_eq (s : State) (level : Nat) :
    setShed s level = dueSnapshot (formPermission (announceShed (levelSet s level) s.bat.shed)) .shed := by
  unfold setShed
  rw [snapshotDue_eq_dueSnapshot]
  rfl

/-- A rise of the shed level (R157, R159, R160). -/
theorem setShed_raised {s : State} {level : Nat} {w : WritePerm} {bat : Battery} (hlt : s.bat.shed < level)
    (h3 : level ≤ 3) (hw : permissionIs s level w) (hbat : bat = { s.bat with
      shed := level, exit := ⟨none, false⟩, permission := w, shedRaises := min (s.bat.shedRaises + 1) 65535 }) :
    (level ≠ 3 → setShed s level = dueSnapshot { s with bat := bat } .shed) ∧
    (level = 3 → ∃ next, setShed s level = dueSnapshot (closeAtOnce (detectorOff
        { s with bat := bat, tb := { s.tb with nextTick := next } }) .power) .shed ∧
      (s.tb.lastTick = none → next = s.tb.nextTick) ∧
      ∀ last n : Int, s.tb.lastTick.map usOf = some last → 1000000 ∣ n → last < n → n ≤ last + 1000000 →
        next = some (ofUs n)) := by
  have hset : levelSet s level = s.withBat { s.bat with
      shed := level, exit := ⟨none, false⟩, shedRaises := min (s.bat.shedRaises + 1) 65535 } := by
    unfold levelSet
    rw [if_pos hlt]
    rfl
  rw [setShed_eq]
  unfold announceShed
  refine ⟨fun hne => ?_, fun he => ?_⟩
  · have hshed : (levelSet s level).bat.shed = level := rfl
    rw [hshed, if_neg (by simp [hne]), if_neg (by simp; omega), formPermission_eq (w := w) hw, hset, hbat]
    rfl
  · subst he
    obtain ⟨next, hr, hnone, hnext⟩ := rescheduleTick_eq (levelSet s 3)
    refine ⟨next, ?_, hnone, hnext⟩
    have hshed : (levelSet s 3).bat.shed = 3 := rfl
    rw [hshed, if_pos (by simp; omega), formPermission_closed (w := w), hr, hset, hbat]
    · rfl
    · rw [hr]
      exact hw

/-- The running flag where the Detector is on (R74). -/
theorem runningFlag_iff (on : Bool) (chan : PerChan ChanDet) (vote : Option Nat) :
    runningFlag on chan vote = true ↔ on = true ∧ ∃ v, vote = some v ∧ v ≤ chan.count couldVote := by
  have hlive : couldVote = fun c => c.state.live := rfl
  unfold runningFlag
  rw [hlive]
  cases vote <;> simp

/-- A fall of the shed level by one (R158, R159, R160). -/
theorem setShed_lowered {s : State} {w : WritePerm} (h1 : 1 ≤ s.bat.shed) (h3 : s.bat.shed ≤ 3)
    (hw : permissionIs s (s.bat.shed - 1) w) : shedLowered s w (setShed s (s.bat.shed - 1)) := by
  have hset : levelSet s (s.bat.shed - 1) = s.withBat { s.bat with shed := s.bat.shed - 1, exit := ⟨none, false⟩ } := by
    unfold levelSet
    rw [if_neg (by omega)]
  have hshed : (levelSet s (s.bat.shed - 1)).bat.shed = s.bat.shed - 1 := rfl
  have hon : (levelSet s (s.bat.shed - 1)).detectorOn = (s.bat.shed - 1 != 3 && !s.listenOnly) := rfl
  rw [setShed_eq]
  unfold announceShed
  rw [hshed, if_neg (by simp; omega)]
  by_cases h : s.bat.shed = 3
  · obtain ⟨next, hr, hnone, hnext⟩ := rescheduleTick_eq (levelSet s (s.bat.shed - 1))
    refine ⟨next, (detectorOnAgain (levelSet s (s.bat.shed - 1))).det.running, ?_, fun hn => absurd h hn,
      fun _ => ⟨?_, hnone, ?_⟩⟩
    · rw [if_pos (by simp [h]), hr, formPermission_eq (w := w) hw, hset]
      rfl
    · refine (runningFlag_iff _ _ _).trans (and_congr ?_ Iff.rfl)
      rw [hon, h]
      simp
    · intro last period n hl hp
      have hperiod : (levelSet s (s.bat.shed - 1)).period = period := by
        rw [hp]
        exact if_neg (by rw [hshed]; omega)
      exact hperiod ▸ hnext last n hl
  · refine ⟨s.tb.nextTick, s.det.running, ?_, fun _ => ⟨rfl, rfl⟩, fun hc => absurd hc h⟩
    rw [if_neg (by simp [h]), formPermission_eq (w := w) hw, hset]
    rfl

/-- The exit rule at its on-delay (R158). -/
theorem evaluateShed_exit {s : State} {d : OnDelay} (h1 : 1 ≤ s.bat.shed) (h3 : s.bat.shed ≤ 3)
    (hle : entryLevel s ≤ s.bat.shed) (hd : delayAt s.bat.exit (exitHolds s s.bat.shed) s.tb.clock 300000000 d) :
    evaluateShed s = if d.isMet then setShed s (s.bat.shed - 1) else { s with bat := { s.bat with exit := d } } := by
  unfold evaluateShed exitRule
  rw [if_neg (Nat.not_lt.2 hle), if_neg (by omega), eval_of_delayAt (exitCondition_iff h1 h3) hd]

/-! ### The charge counter, the permit and the heater draw -/

theorem countCharge_eq {s : State} {t : ArrayTime} {i : Int} {b : Battery} (h : chargeCounted s t i b) :
    countCharge s t i = { s with bat := b } := by
  obtain ⟨hnone, hsome⟩ := h
  unfold countCharge
  cases hl : s.bat.lastCurrent with
  | none => rw [hnone hl]
  | some u =>
    obtain ⟨amount, carry, q, ha, hc, hq, rfl⟩ := hsome u hl
    subst hq hc ha
    unfold Battery.credit contribution
    dsimp only
    rw [mul_comm 1000]
    rfl

/-- The charge permit where a reading or a fault notice makes it (R161, R169). -/
theorem chargePermit_eq {s : State} {r : Option Int} {permit : Bool} (h : permitAfter s r permit) :
    chargePermit s r = { s with bat := { s.bat with
      permit := permit
      permitDrops := if s.bat.permit = true ∧ permit = false then min (s.bat.permitDrops + 1) 65535
        else s.bat.permitDrops } } := by
  obtain ⟨hnone, hsome⟩ := h
  have hdrop : ∀ off, off = false → dropPermit s = { s with bat := { s.bat with
      permit := off
      permitDrops := if s.bat.permit = true ∧ off = false then min (s.bat.permitDrops + 1) 65535
        else s.bat.permitDrops } } := by
    rintro _ rfl
    simp [dropPermit, bump]
  unfold chargePermit
  cases r with
  | none => exact hdrop permit (hnone rfl)
  | some x =>
    obtain ⟨hout, hin, hband⟩ := hsome x rfl
    dsimp only
    by_cases h1 : x < s.profile.chargeMinT ∨ s.profile.chargeMaxT < x
    · rw [if_pos (by simpa using h1)]
      exact hdrop permit (hout h1)
    · rw [if_neg (by simpa using h1)]
      by_cases h2 : s.profile.chargeMinT + 10 ≤ x ∧ x ≤ s.profile.chargeMaxT - 10
      · rw [if_pos (by simpa using h2)]
        simp [hin h2.1 h2.2]
      · rw [if_neg (by simpa using h2), hband (by omega) (by omega) (by omega)]
        simp

theorem oscillatorOffset_eq {p : Profile} {x y : Int} (h : offsetAt p x y) : y = oscillatorOffset p x := by
  obtain ⟨hlow, hhigh, hab, hbc, hcd, hde⟩ := h
  unfold oscillatorOffset segmentOffset
  split_ifs with h1 h2 h3 h4 h5
  · exact hlow h1
  · rw [hab (by omega) h2, sub_neg_eq_add]
  · rw [hbc (by omega) h3, sub_neg_eq_add]
  · rw [hcd (by omega) h4, sub_zero]
  · exact hde (by omega) h5
  · exact hhigh (by omega)

/-- The elapsed time of the model is the statement's. -/
theorem boundedMs_eq (t u : ArrayTime) : boundedMs (diffUs t u) = ((elapsedMs t u).toNat : Int) :=
  (Int.toNat_of_nonneg (le_max_left 0 _)).symm

/-- The charge drawn, in mAs (R162). -/
theorem drawn_eq (i n : Nat) : (((i : Int) * (n : Int)).tdiv 1000).toNat = i * n / 1000 := by
  rw [← Int.natCast_mul]
  exact congrArg Int.toNat (Int.ofNat_tdiv (i * n) 1000).symm

theorem heaterDraw_eq {s u : State} {t : ArrayTime} {i : Nat} {b : Battery} (h : drawCounted s t i b) (hu : u.bat = s.bat) :
    heaterDraw u t i = { u with bat := b } := by
  obtain ⟨hnone, hsome⟩ := h
  unfold heaterDraw
  rw [hu]
  cases hl : s.bat.lastHeater with
  | none => rw [hnone hl, min_comm]; rfl
  | some v =>
    rw [hsome v hl, min_comm]
    dsimp only
    rw [boundedMs_eq, drawn_eq]

/-! ### The heater-current checks -/

theorem inLine_eq_timesHeld (s : State) (t : ArrayTime) : { s with heat := s.heat.inLine t } = timesHeld s t := rfl

@[simp] theorem timesHeld_profile (s : State) (t : ArrayTime) : (timesHeld s t).profile = s.profile := by
  unfold timesHeld
  rfl

theorem timesHeld_heat (s : State) (t : ArrayTime) : (timesHeld s t).heat = { s.heat with
    since := heldAt t s.heat.since, deferral := s.heat.deferral.map (heldAt t)
    openSince := s.heat.openSince.map (heldAt t)
    resetDelay := { s.heat.resetDelay with start := s.heat.resetDelay.start.map (heldAt t) } } := by
  unfold timesHeld
  rfl

theorem timesHeld_since (s : State) (t : ArrayTime) : (timesHeld s t).heat.since = heldAt t s.heat.since := by
  rw [timesHeld_heat]

theorem timesHeld_on (s : State) (t : ArrayTime) : (timesHeld s t).heat.on = s.heat.on := by
  rw [timesHeld_heat]

theorem timesHeld_openCheck (s : State) (t : ArrayTime) : (timesHeld s t).heat.openCheck = s.heat.openCheck := by
  rw [timesHeld_heat]

theorem heatFoundOpen_withBat (s : State) (b : Battery) (t : ArrayTime) :
    heatFoundOpen { s with bat := b } t = { heatFoundOpen s t with bat := b } := by
  unfold heatFoundOpen heatForcedOff heatSwitched
  rfl

@[simp] theorem heatFoundOpen_bat (s : State) (t : ArrayTime) : (heatFoundOpen s t).bat = s.bat := by
  unfold heatFoundOpen heatForcedOff heatSwitched
  rfl

@[simp] theorem timesHeld_bat (s : State) (t : ArrayTime) : (timesHeld s t).bat = s.bat := by
  unfold timesHeld
  rfl

theorem heaterCurrentChecks_eq (s : State) (t : ArrayTime) (i : Int) : heaterCurrentChecks s t i =
    stuckCheck (if openCheckDue (timesHeld s t) t then openCheckMade (timesHeld s t) t i else timesHeld s t) t i := by
  unfold heaterCurrentChecks
  rw [inLine_eq_timesHeld]

theorem openCheckDue_iff (s : State) (t : ArrayTime) : openCheckDue s t = true ↔
    s.heat.on = true ∧ s.heat.openCheck = true ∧ 1000000 ≤ diffUs t s.heat.since := by
  simp [openCheckDue, and_assoc]

/-- The stuck check finds nothing while HEAT is on, and nothing before the second after a switch (R179). -/
theorem stuckCheck_none {s : State} {t : ArrayTime} {i : Nat} (h : ¬(s.heat.on = false ∧ 1000000 ≤ diffUs t s.heat.since ∧
    s.profile.heaterMinMa / 4 < i)) : stuckCheck s t i = s := by
  refine if_neg fun hc => h ?_
  simp only [Bool.and_eq_true, Bool.not_eq_true', decide_eq_true_eq, Nat.cast_lt, and_assoc] at hc
  exact hc

theorem stuckCheck_found {s : State} {t : ArrayTime} {i : Nat} (hon : s.heat.on = false)
    (ht : 1000000 ≤ diffUs t s.heat.since) (hi : s.profile.heaterMinMa / 4 < i) :
    stuckCheck s t i = { s with heat := { s.heat with stuck := true } } := by
  refine if_pos ?_
  rw [hon]
  simpa using ⟨ht, by exact_mod_cast hi⟩

/-- The heater-current checks of HEAT on (R179). -/
theorem heaterCurrentChecks_on {s v : State} {t : ArrayTime} {i : Nat} (hv : v = timesHeld s t) (hon : v.heat.on = true) :
    (v.heat.openCheck = true ∧ 1000000 ≤ diffUs t v.heat.since →
      (i < s.profile.heaterMinMa → heaterCurrentChecks s t i = heatFoundOpen v t) ∧
      (s.profile.heaterMinMa ≤ i → heaterCurrentChecks s t i = { v with heat := { v.heat with openCheck := false } })) ∧
    (¬(v.heat.openCheck = true ∧ 1000000 ≤ diffUs t v.heat.since) → heaterCurrentChecks s t i = v) := by
  have hmin : v.profile.heaterMinMa = s.profile.heaterMinMa := by rw [hv, timesHeld_profile]
  rw [heaterCurrentChecks_eq, ← hv]
  refine ⟨fun hdue => ?_, fun hdue => ?_⟩
  · rw [if_pos ((openCheckDue_iff v t).2 ⟨hon, hdue⟩)]
    unfold openCheckMade
    dsimp only
    rw [hmin]
    refine ⟨fun hlt => ?_, fun hle => ?_⟩
    · rw [if_pos (by exact_mod_cast hlt), stuckCheck_none]
      · rfl
      · rintro ⟨-, h, -⟩
        have hlate : 1000000 ≤ diffUs t t := h
        rw [diffUs_self] at hlate
        exact absurd hlate (by decide)
    · rw [if_neg (by exact_mod_cast Nat.not_lt.2 hle), stuckCheck_none]
      rintro ⟨h, -⟩
      exact absurd (hon.symm.trans h) (by decide)
  · rw [if_neg (fun h => hdue ((openCheckDue_iff v t).1 h).2), stuckCheck_none]
    rintro ⟨h, -⟩
    exact absurd (hon.symm.trans h) (by decide)

/-- The heater-current checks of HEAT off (R179). -/
theorem heaterCurrentChecks_off {s v : State} {t : ArrayTime} {i : Nat} (hv : v = timesHeld s t) (hoff : v.heat.on = false) :
    (1000000 ≤ diffUs t v.heat.since → s.profile.heaterMinMa / 4 < i →
      heaterCurrentChecks s t i = { v with heat := { v.heat with stuck := true } }) ∧
    (¬(1000000 ≤ diffUs t v.heat.since ∧ s.profile.heaterMinMa / 4 < i) → heaterCurrentChecks s t i = v) := by
  have hmin : v.profile.heaterMinMa = s.profile.heaterMinMa := by rw [hv, timesHeld_profile]
  have hnot : openCheckDue v t = false :=
    Bool.eq_false_iff.2 fun h => Bool.false_ne_true (hoff.symm.trans ((openCheckDue_iff v t).1 h).1)
  rw [heaterCurrentChecks_eq, ← hv, hnot, if_neg Bool.false_ne_true, ← hmin]
  exact ⟨stuckCheck_found hoff, fun h => stuckCheck_none fun hc => h hc.2⟩

end Sys2Proof.Machine

namespace Sys2Proof.Proofs

open Sys2Proof.Machine

/-- Settles O43, input by input. -/
theorem housekeepingResultsAct : Obligations.HousekeepingResultsAct := by
  intro s t
  refine ⟨fun r f e u hf he hu => ?_, fun i b f hb hf => ?_, fun level w bat hlt hentry hmax hw hbat => ?_,
    fun hno => ⟨fun h0 => ?_, fun d h1 h3 hd => ⟨fun hm => ?_, fun hm w hw => ?_⟩⟩, fun r permit hp => ?_, rfl,
    fun x y hy => ?_, fun i b u due hb hu hdue => ?_, fun r => rfl⟩
  · refine ⟨permissionOf u.profile u.sampler.latest.batVolt u.bat.shed, (permissionIs_iff _ _ _).2 rfl, ?_⟩
    have hread : hkReaders s .batVolt t r = formPermission (evaluateShed (emptyAnchor (fullAnchor s))) := rfl
    rw [hread, fullAnchor_eq hf, emptyAnchor_eq (s := fullActed s f) he, ← hu]
    rfl
  · have hread : hkReaders s .batCurr t (some i) = evaluateShed (fullAnchor (countCharge s t i)) := rfl
    rw [hread, countCharge_eq hb, fullAnchor_eq hf]
  · have h3 : level ≤ 3 := by rcases hentry with ⟨h, -⟩ | ⟨h, -⟩ | ⟨h, -⟩ <;> omega
    have heval : evaluateShed s = setShed s level := by
      unfold evaluateShed
      rw [entryLevel_eq hentry hmax, if_pos hlt]
    rw [heval]
    exact setShed_raised hlt h3 hw hbat
  · unfold evaluateShed
    rw [if_neg (Nat.not_lt.2 (entryLevel_le hno)), if_pos h0]
  · rw [evaluateShed_exit h1 h3 (entryLevel_le hno) hd, hm]
    rfl
  · rw [evaluateShed_exit h1 h3 (entryLevel_le hno) hd, hm]
    exact setShed_lowered h1 h3 hw
  · have hread : hkReaders s .batTemp t r = heaterEvaluate (chargePermit s r) t r := rfl
    rw [hread, chargePermit_eq hp]
  · rw [oscillatorOffset_eq hy]
    rfl
  · have hread : hkReaders s .heatCurr t (some (i : Int)) = heaterDraw (heaterCurrentChecks s t i) t i := rfl
    rw [hread, hdue, ← timesHeld_since, hu, ← timesHeld_on s t, ← timesHeld_openCheck s t]
    refine ⟨fun hon hcheck hd => ?_, fun hon hn => ?_, fun hoff => ⟨fun hd hi => ?_, fun hn => ?_⟩⟩
    · obtain ⟨hlow, hgood⟩ := (heaterCurrentChecks_on (i := i) rfl hon).1 ⟨hcheck, hd⟩
      refine ⟨fun hi => ?_, fun hi => ?_⟩
      · rw [hlow hi, heaterDraw_eq hb (by simp)]
        exact (heatFoundOpen_withBat (timesHeld s t) b t).symm
      · rw [hgood hi, heaterDraw_eq hb (by simp)]
    · rw [(heaterCurrentChecks_on (i := i) rfl hon).2 hn, heaterDraw_eq hb (by simp)]
    · rw [(heaterCurrentChecks_off (i := i) rfl hoff).1 hd hi, heaterDraw_eq hb (by simp)]
    · rw [(heaterCurrentChecks_off (i := i) rfl hoff).2 hn, heaterDraw_eq hb (by simp)]

end Sys2Proof.Proofs

/-! SUPPORT. A sample tick: what the sweeps leave, the conversion of the slot, the set and the ring (R22, R41 to R52). -/

namespace Sys2Proof.Machine

/-! ### The shed level through a tick -/

theorem startCare_shed {s u : State} (h : startCare s = some u) : u.bat.shed = s.bat.shed := by
  unfold startCare at h
  split at h
  · exact absurd h (by simp)
  · split at h
    · cases h; rfl
    · cases h; rfl
    · exact absurd h (by simp)

theorem startFirst_shed {s u : State} (h : startFirst s = some u) : u.bat.shed = s.bat.shed := by
  unfold startFirst at h
  split at h
  · rename_i t ht
    cases h
    split at ht
    · exact startCare_shed ht
    · cases ht
  · split at h
    · simp only [Option.or_eq_some_iff] at h
      rcases h with h | ⟨-, h | ⟨-, h | ⟨-, h⟩⟩⟩
      · simp [startMark_frame _ _ h]
      · simp [startProgram_frame _ _ h]
      · simp [startAhead_frame _ _ h]
      · simp [startWipe_frame _ _ h]
    · cases h

@[simp] theorem engineKick_shed (s : State) : (engineKick s).bat.shed = s.bat.shed := by
  unfold engineKick
  split
  · rfl
  · cases h : startFirst s with
    | none => rfl
    | some t => exact startFirst_shed h

@[simp] theorem snapshotDue_shed (s : State) (c : SnapCause) : (snapshotDue s c).bat.shed = s.bat.shed := by
  unfold snapshotDue
  split <;> rfl

@[simp] theorem scheduleTest_shed (s : State) : (scheduleTest s).bat.shed = s.bat.shed := by
  unfold scheduleTest
  dsimp only
  split
  · exact snapshotDue_shed (lowerDue s) .schedule
  · rfl

/-! ### The ticks through a tick -/

/-- The values of the Timebase that a tick issues and that a set carries: the next tick, the last tick stamp and the stepped
indication (R21, R22). -/
def Timebase.ticks (b : Timebase) : Option ArrayTime × Option ArrayTime × Bool := (b.nextTick, b.lastTick, b.stepped)

@[simp] theorem dropSeed_ticks (b : Timebase) (gone : Nat → Bool) : (b.dropSeed gone).ticks = b.ticks := by
  unfold Timebase.dropSeed
  split
  · rfl
  · split <;> rfl

/-- A time state and grade do not touch the ticks. -/
theorem ticks_of_state (b : Timebase) (st : TimeState) (h : Option Holdover) (g : Nat) :
    Timebase.ticks { b with state := st, holdover := h, grade := g } = b.ticks := rfl

@[simp] theorem reformGrade_ticks (s : State) : (reformGrade s).tb.ticks = s.tb.ticks := by
  rcases reformGrade_cases s with h | ⟨e, _, _, h⟩
  · rw [h]
  · rw [h]
    exact ticks_of_state s.tb s.tb.state s.tb.holdover _

@[simp] theorem enterHoldover_ticks (s : State) (g : Nat) : (enterHoldover s g).tb.ticks = s.tb.ticks := by
  unfold enterHoldover
  exact ticks_of_state s.tb _ _ _

@[simp] theorem sectionTime_ticks (s : State) : (sectionTime s).tb.ticks = s.tb.ticks := by
  unfold sectionTime clearP
  split
  · exact enterHoldover_ticks s s.tb.grade
  · rfl

@[simp] theorem quietTest_ticks (s : State) : (quietTest s).tb.ticks = s.tb.ticks := by
  unfold quietTest sectionResetWork
  dsimp only
  split
  · rw [sectionTime_ticks]
    exact dropSeed_ticks _ _
  · rfl

/-- What the sweeps of a tick leave that the Sampler's work reads (R41). -/
theorem tickSweeps_leaves (s : State) : (tickSweeps s).tb.ticks = s.tb.ticks ∧ (tickSweeps s).bat.shed = s.bat.shed := by
  unfold tickSweeps
  simp

/-! ### The readers and the ticks -/

/-- A step that leaves the last tick stamp, and the next tick unless it moves the shed level into or out of 3 (R22, R159). -/
def TicksKept (s t : State) : Prop :=
  t.tb.lastTick = s.tb.lastTick ∧ ((t.bat.shed = 3 ↔ s.bat.shed = 3) → t.tb.nextTick = s.tb.nextTick)

theorem ticksKept_of_ticks {s t : State} (h : t.tb.ticks = s.tb.ticks) : TicksKept s t := by
  simp only [Timebase.ticks, Prod.mk.injEq] at h
  exact ⟨h.2.1, fun _ => h.1⟩

theorem announceShed_kept (s : State) (old : Nat) : (announceShed s old).tb.lastTick = s.tb.lastTick ∧
    ((s.bat.shed = 3 ↔ old = 3) → (announceShed s old).tb.nextTick = s.tb.nextTick) := by
  have hlast : (rescheduleTick s).tb.lastTick = s.tb.lastTick := by
    obtain ⟨next, h, -⟩ := rescheduleTick_eq s
    rw [h]
  unfold announceShed
  split
  · refine ⟨by simpa using hlast, fun h => ?_⟩
    simp_all
  · split
    · refine ⟨by simpa using hlast, fun h => ?_⟩
      simp_all
    · exact ⟨rfl, fun _ => rfl⟩

@[simp] theorem announceShed_bat (s : State) (old : Nat) : (announceShed s old).bat = s.bat := by
  unfold announceShed
  split
  · simp
  · split <;> simp

theorem setShed_kept (s : State) (level : Nat) : TicksKept s (setShed s level) := by
  unfold setShed
  dsimp only
  obtain ⟨hlast, hnext⟩ := announceShed_kept { s with bat := { s.bat with
    shed := level, exit := OnDelay.stopped
    shedRaises := if s.bat.shed < level then bump s.bat.shedRaises else s.bat.shedRaises } } s.bat.shed
  refine ⟨by simpa using hlast, fun h => ?_⟩
  simp only [snapshotDue_shed, formPermission_bat, announceShed_bat] at h
  simpa using hnext h

theorem evaluateShed_kept (s : State) : TicksKept s (evaluateShed s) := by
  unfold evaluateShed exitRule
  dsimp only
  split
  · exact setShed_kept s _
  · split
    · exact ⟨rfl, fun _ => rfl⟩
    · split
      · exact setShed_kept s _
      · exact ⟨rfl, fun _ => rfl⟩

@[simp] theorem formPermission_shed (s : State) : (formPermission s).bat.shed = s.bat.shed := by
  rw [formPermission_bat]

@[simp] theorem formPermission_tb (s : State) : (formPermission s).tb = s.tb := by simp

@[simp] theorem fullAnchor_shed (s : State) : (fullAnchor s).bat.shed = s.bat.shed := by
  unfold fullAnchor Battery.fullAct
  split <;> rfl

@[simp] theorem emptyAnchor_shed (s : State) : (emptyAnchor s).bat.shed = s.bat.shed := by
  unfold emptyAnchor Battery.emptyAct
  split <;> rfl

@[simp] theorem countCharge_shed (s : State) (t : ArrayTime) (i : Int) : (countCharge s t i).bat.shed = s.bat.shed := by
  unfold countCharge
  split <;> rfl

theorem formTc_ticks (b : Timebase) (p : Profile) (v : Int) : (b.formTc p v).ticks = b.ticks := by
  unfold Timebase.formTc Timebase.ticks
  rfl

theorem enclosureWork_ticks (s : State) (r : Option Int) : (enclosureWork s r).tb.ticks = s.tb.ticks := by
  unfold enclosureWork
  rw [reformGrade_ticks]
  cases r with
  | none => rfl
  | some v =>
    dsimp only
    rw [formTc_ticks]

theorem hkReaders_kept (s : State) (i : HkInput) (n : ArrayTime) (r : Option Int) : TicksKept s (hkReaders s i n r) := by
  cases i with
  | batVolt =>
    have h := evaluateShed_kept (emptyAnchor (fullAnchor s))
    simpa only [TicksKept, hkReaders, batteryVoltage, formPermission_shed, formPermission_tb, emptyAnchor_shed,
      fullAnchor_shed, emptyAnchor_frame, fullAnchor_frame] using h
  | batCurr =>
    have h := evaluateShed_kept (fullAnchor (countCharge s n (r.getD 0)))
    simpa [TicksKept, hkReaders, batteryCurrent] using h
  | batTemp => exact ticksKept_of_ticks (by simp [hkReaders])
  | encTemp => exact ticksKept_of_ticks (enclosureWork_ticks s r)
  | heatCurr => exact ticksKept_of_ticks (by simp [hkReaders, heaterCurrent])
  | srcVolt => exact ⟨rfl, fun _ => rfl⟩

/-! ### The conversion of the slot (R47 to R50) -/

theorem bad_iff (i : HkInput) (code : BitVec 12) :
    i.bad code = true ↔ (i = .batTemp ∨ i = .encTemp) ∧ (code = 0 ∨ code = 4095) := by
  simp [HkInput.bad]

theorem scale_eq_scaled (i : HkInput) (code : BitVec 12) : i.scale code = scaled i (code.toNat : Int) := by
  cases i <;> simp [HkInput.scale, scaled, mul_comm]

theorem hkResult_eq {i : HkInput} {code : BitVec 12} {bad : Bool}
    (h : bad = true ↔ (i = .batTemp ∨ i = .encTemp) ∧ (code = 0 ∨ code = 4095)) :
    hkResult i code = if bad = true then none else some (scaled i (code.toNat : Int)) := by
  have hb : i.bad code = bad := by rw [Bool.eq_iff_iff, bad_iff, h]
  unfold hkResult
  rw [hb, scale_eq_scaled]

/-- What a conversion leaves: the power, the settling counts, the clip counters and the ring (R47 to R49). -/
theorem convertHk_leaves (m : Sampler) (code : BitVec 12) : (convertHk m code).powered = m.powered ∧
    (convertHk m code).settling = m.settling ∧ (convertHk m code).clips = m.clips ∧ (convertHk m code).ring = m.ring ∧
    (convertHk m code).nextSet = m.nextSet := by
  simp only [convertHk, Sampler.latch, Sampler.countBad]
  cases m.slot <;> split <;> exact ⟨rfl, rfl, rfl, rfl, rfl⟩

theorem convertHk_slot (m : Sampler) (code : BitVec 12) : (convertHk m code).slot = m.slot.next := by
  unfold convertHk
  dsimp only
  split <;> rfl

/-- The rotation of the housekeeping inputs (R47). -/
theorem next_mem (i : HkInput) : (i, i.next) ∈ [(HkInput.batVolt, HkInput.batCurr), (.batCurr, .batTemp),
    (.batTemp, .encTemp), (.encTemp, .heatCurr), (.heatCurr, .srcVolt), (.srcVolt, .batVolt)] := by
  cases i <;> simp [HkInput.next]

theorem latestOf_put (l : Latest) (i j : HkInput) (v : Int) :
    latestOf (l.put i v) j = if j = i then some v else latestOf l j := by
  cases i <;> cases j <;> rfl

/-- A good code is the input's latest value, and clears its fault latch (R48, R49). -/
theorem convertHk_good {m : Sampler} {code : BitVec 12} (h : m.slot.bad code = false) :
    (convertHk m code).latest = m.latest.put m.slot (m.slot.scale code) ∧
    (convertHk m code).batterySensor = (if m.slot = .batTemp then false else m.batterySensor) ∧
    (convertHk m code).enclosureSensor = (if m.slot = .encTemp then false else m.enclosureSensor) ∧
    (convertHk m code).badBattery = m.badBattery ∧ (convertHk m code).badEnclosure = m.badEnclosure := by
  simp only [convertHk, h, Sampler.latch]
  cases m.slot <;> simp

/-- A bad code of a temperature input sets its fault latch and is counted (R49). -/
theorem convertHk_bad {m : Sampler} {code : BitVec 12} (h : m.slot.bad code = true) :
    (convertHk m code).latest = m.latest ∧
    (convertHk m code).batterySensor = (if m.slot = .batTemp then true else m.batterySensor) ∧
    (convertHk m code).enclosureSensor = (if m.slot = .encTemp then true else m.enclosureSensor) ∧
    (convertHk m code).badBattery = (if m.slot = .batTemp then bump m.badBattery else m.badBattery) ∧
    (convertHk m code).badEnclosure = (if m.slot = .encTemp then bump m.badEnclosure else m.badEnclosure) := by
  simp only [convertHk, h, Sampler.latch, Sampler.countBad]
  cases m.slot <;> simp

/-! ### The words of a set (R42 to R46) -/

/-- A converter's result as a sample: held at the limits, and clipped where it was (R42). -/
theorem convert_spec (r : RawSample) :
    (r.overrange = some .pos → convert r = (8388607, true)) ∧ (r.overrange = some .neg → convert r = (-8388607, true)) ∧
    (r.overrange = none → (convert r).1 = max (-8388607) (min 8388607 r.value) ∧
      ((convert r).2 = true ↔ r.value < -8388607 ∨ 8388607 < r.value)) := by
  unfold convert
  refine ⟨fun h => by rw [h], fun h => by rw [h], fun h => ?_⟩
  rw [h]
  dsimp only
  split_ifs with h1 h2
  · exact ⟨by dsimp only; omega, by simp [h1]⟩
  · exact ⟨by dsimp only; omega, by simp [h2]⟩
  · exact ⟨by dsimp only; omega, by simp [h1, h2]⟩

theorem formWord_fits (m : Sampler) (inp : TickInput) (guard stepped : Bool) (c : Channel) :
    wordFits (rawOf inp c) (m.powered.get c) (decide (0 < m.settling.get c)) (formWord m inp guard stepped c) ∧
      (formWord m inp guard stepped c).stepped = stepped ∧ (formWord m inp guard stepped c).guard = guard := by
  obtain ⟨hpos, hneg, hin⟩ := convert_spec (rawOf inp c)
  unfold formWord wordFits
  cases m.powered.get c
  · simp
  · refine ⟨⟨rfl, rfl, fun h => absurd h (by decide), fun _ => ⟨fun h => ?_, fun h => ?_, fun h => ?_⟩⟩, rfl, rfl⟩
    · exact ⟨congrArg Prod.fst (hpos h), congrArg Prod.snd (hpos h)⟩
    · exact ⟨congrArg Prod.fst (hneg h), congrArg Prod.snd (hneg h)⟩
    · exact hin h

/-- A guard interval holds its opening and not its end (R46). -/
theorem insideGuard_iff (g : Option Guard) (t : ArrayTime) :
    insideGuard g t = true ↔ ∃ k, g = some k ∧ 0 ≤ diffUs t k.opens ∧ diffUs t k.ends < 0 := by
  unfold insideGuard diffUs
  cases g <;> simp

/-! ### The Sampler's work -/

/-- The Sampler after the power and the conversion of a tick (R43, R47). -/
def State.converted (s : State) (inp : TickInput) : Sampler :=
  convertHk (applyPower s.sampler s.bat.shed s.listenOnly) inp.hk

/-- The set of a tick (R45). -/
def State.tickSet (s : State) (inp : TickInput) (n : ArrayTime) : SampleSet :=
  formSet (s.converted inp) inp n (insideGuard s.det.guard n) s.tb.stepped

theorem samplerWork_off {s : State} (h : s.formsSet = false) (inp : TickInput) (n : ArrayTime) :
    samplerWork s inp n = engineKick (hkReaders { s with sampler := s.converted inp } s.sampler.slot n
      (hkResult s.sampler.slot inp.hk)) := by
  have hforms : State.formsSet { channelPower s with sampler := convertHk (channelPower s).sampler inp.hk } = false := h
  unfold samplerWork
  dsimp only
  rw [hforms]
  rfl

theorem ringEnter_eq (s : State) (x : SampleSet) : ringEnter s x = { (if s.sampler.ring.length < 4096 then s
    else announceDisplaced s ((s.sampler.nextSet + 4294967296 - 4096) % 4294967296)) with
      sampler := ringWrite s.sampler x } := by
  unfold ringEnter ringOldest wrap32 ringSize
  dsimp only
  split
  · rfl
  · simp

theorem samplerWork_on {s : State} (h : s.formsSet = true) (inp : TickInput) (n : ArrayTime) :
    samplerWork s inp n = engineKick (hkReaders (engineKick (detectSet (captureTake (ringEnter
      { s with sampler := afterSet (s.converted inp) (s.tickSet inp n) } (s.tickSet inp n))) (s.tickSet inp n)))
      s.sampler.slot n (hkResult s.sampler.slot inp.hk)) := by
  have hforms : State.formsSet { channelPower s with sampler := convertHk (channelPower s).sampler inp.hk } = true := h
  unfold samplerWork
  dsimp only
  rw [hforms]
  rfl

theorem samplerWork_kept (s : State) (inp : TickInput) (n : ArrayTime) : TicksKept s (samplerWork s inp n) := by
  cases h : s.formsSet
  · rw [samplerWork_off h]
    simpa [TicksKept] using hkReaders_kept { s with sampler := s.converted inp } s.sampler.slot n
      (hkResult s.sampler.slot inp.hk)
  · rw [samplerWork_on h]
    generalize hu : engineKick (detectSet (captureTake (ringEnter
      { s with sampler := afterSet (s.converted inp) (s.tickSet inp n) } (s.tickSet inp n))) (s.tickSet inp n)) = u
    have htb : u.tb = s.tb := by
      rw [← hu, ringEnter_eq]
      split <;> simp
    have hshed : u.bat.shed = s.bat.shed := by
      rw [← hu, ringEnter_eq]
      split <;> simp
    have hkept := hkReaders_kept u s.sampler.slot n (hkResult s.sampler.slot inp.hk)
    rw [TicksKept, htb, hshed] at hkept
    simpa [TicksKept] using hkept

theorem samplerWork_sampler_off {s : State} (h : s.formsSet = false) (inp : TickInput) (n : ArrayTime) :
    (samplerWork s inp n).sampler = s.converted inp := by
  rw [samplerWork_off h]
  simp

theorem samplerWork_sampler_on {s : State} (h : s.formsSet = true) (inp : TickInput) (n : ArrayTime) :
    (samplerWork s inp n).sampler = ringWrite (afterSet (s.converted inp) (s.tickSet inp n)) (s.tickSet inp n) := by
  rw [samplerWork_on h]
  simp [ringEnter_sampler]

/-- The forming of a set leaves the power, the rotation and the housekeeping values as the conversion left them (R41). -/
theorem samplerWork_rest (s : State) (inp : TickInput) (n : ArrayTime) :
    (samplerWork s inp n).sampler.powered = (s.converted inp).powered ∧
    (samplerWork s inp n).sampler.slot = (s.converted inp).slot ∧
    (samplerWork s inp n).sampler.latest = (s.converted inp).latest ∧
    (samplerWork s inp n).sampler.batterySensor = (s.converted inp).batterySensor ∧
    (samplerWork s inp n).sampler.enclosureSensor = (s.converted inp).enclosureSensor ∧
    (samplerWork s inp n).sampler.badBattery = (s.converted inp).badBattery ∧
    (samplerWork s inp n).sampler.badEnclosure = (s.converted inp).badEnclosure := by
  cases h : s.formsSet
  · rw [samplerWork_sampler_off h]
    exact ⟨rfl, rfl, rfl, rfl, rfl, rfl, rfl⟩
  · rw [samplerWork_sampler_on h]
    exact ⟨rfl, rfl, rfl, rfl, rfl, rfl, rfl⟩

/-- The power and the settling counts that a tick finds (R43, R44). -/
theorem converted_channel (s : State) (inp : TickInput) {wanted : Channel → Bool} {count : Channel → Nat}
    (hw : ∀ c, wanted c = true ↔ s.listenOnly = false ∧ (s.bat.shed ≤ 1 ∨ (s.bat.shed = 2 ∧ c = .z)))
    (hc : ∀ c, count c = if wanted c = true then (if s.sampler.powered.get c = true then s.sampler.settling.get c else 64)
      else if s.sampler.powered.get c = true then 0 else s.sampler.settling.get c) (c : Channel) :
    (s.converted inp).powered.get c = wanted c ∧ (s.converted inp).settling.get c = count c := by
  obtain ⟨hp, hs, -⟩ := convertHk_leaves (applyPower s.sampler s.bat.shed s.listenOnly) inp.hk
  have hwant : powerWanted s.bat.shed s.listenOnly c = wanted c := by
    rw [Bool.eq_iff_iff, powerWanted_iff, hw c]
  unfold State.converted
  rw [hp, hs, hc c]
  simp only [applyPower, get_ofFn, hwant]
  exact ⟨trivial, trivial⟩

/-- The rest of the Sampler at the conversion: the rotation, the latest values, the fault latches and the counters
(R47 to R49). -/
theorem converted_housekeeping (s : State) (inp : TickInput) {bad : Bool}
    (hb : bad = true ↔ (s.sampler.slot = .batTemp ∨ s.sampler.slot = .encTemp) ∧ (inp.hk = 0 ∨ inp.hk = 4095)) :
    (s.converted inp).slot = s.sampler.slot.next ∧
    (∀ i, i ≠ s.sampler.slot → latestOf (s.converted inp).latest i = latestOf s.sampler.latest i) ∧
    latestOf (s.converted inp).latest s.sampler.slot = (if bad = true then latestOf s.sampler.latest s.sampler.slot
      else hkResult s.sampler.slot inp.hk) ∧
    (s.converted inp).batterySensor = (if s.sampler.slot = .batTemp then bad else s.sampler.batterySensor) ∧
    (s.converted inp).enclosureSensor = (if s.sampler.slot = .encTemp then bad else s.sampler.enclosureSensor) ∧
    (s.converted inp).badBattery = (if s.sampler.slot = .batTemp ∧ bad = true then min (s.sampler.badBattery + 1) 65535
      else s.sampler.badBattery) ∧
    (s.converted inp).badEnclosure = (if s.sampler.slot = .encTemp ∧ bad = true then min (s.sampler.badEnclosure + 1) 65535
      else s.sampler.badEnclosure) := by
  refine ⟨convertHk_slot _ _, ?_⟩
  have hbad : s.sampler.slot.bad inp.hk = bad := by rw [Bool.eq_iff_iff, bad_iff, hb]
  unfold State.converted
  cases bad
  · obtain ⟨h1, h2, h3, h4, h5⟩ := convertHk_good (m := applyPower s.sampler s.bat.shed s.listenOnly) hbad
    rw [h1, h2, h3, h4, h5]
    refine ⟨fun i hi => ?_, ?_, rfl, rfl, by simp [applyPower], by simp [applyPower]⟩
    · exact (latestOf_put _ _ _ _).trans (if_neg hi)
    · rw [hkResult, hbad]
      exact (latestOf_put _ _ _ _).trans (if_pos rfl)
  · obtain ⟨h1, h2, h3, h4, h5⟩ := convertHk_bad (m := applyPower s.sampler s.bat.shed s.listenOnly) hbad
    rw [h1, h2, h3, h4, h5]
    exact ⟨fun _ _ => rfl, rfl, rfl, rfl, if_congr (and_iff_left rfl).symm rfl rfl,
      if_congr (and_iff_left rfl).symm rfl rfl⟩

theorem formsSet_iff (s : State) : s.formsSet = true ↔ detectorIsOn s := by
  simp [State.formsSet, detectorIsOn]

/-- The tick due is issued, and its work made (R22). -/
theorem exec_sampleTick {s : State} {n : ArrayTime} (inp : TickInput) (ha : s.awake = true) (hn : s.tb.nextTick = some n)
    (hdue : 0 ≤ diffUs s.tb.clock n) :
    exec (.sampleTick inp) s = .next (samplerWork (tickSweeps (issueTick s n)) inp n) := by
  have hexec : exec (.sampleTick inp) s = execSampleTick inp s := rfl
  have htick : tickDue s = some n := by
    unfold tickDue
    rw [hn]
    exact if_pos hdue
  rw [hexec, execSampleTick, htick]
  dsimp only
  rw [doWhen, ha]
  rfl

/-- The rows of a tick's sweeps, where the part runs (log entries 2 and 11). -/
theorem exec_sweeps {s : State} (ha : s.awake = true) :
    exec .pickAged s = .next (ageSweep s) ∧ exec .eventEnd s = .next (endSweep s) ∧
      exec .alertRepeatDue s = .next (repeatSweep s) ∧ exec .sectionReset s = .next (quietTest s) := by
  have h1 : exec .pickAged s = doWhen s.awake s ageSweep := rfl
  have h2 : exec .eventEnd s = doWhen s.awake s endSweep := rfl
  have h3 : exec .alertRepeatDue s = doWhen s.awake s repeatSweep := rfl
  have h4 : exec .sectionReset s = doWhen s.awake s quietTest := rfl
  rw [h1, h2, h3, h4, ha]
  exact ⟨rfl, rfl, rfl, rfl⟩

theorem awake_of_phase {s t : State} (h : t.phase = s.phase) (ha : s.awake = true) : t.awake = true := by
  unfold State.awake at ha ⊢
  rw [h]
  exact ha

/-- The period now in force, in µs (R22). -/
theorem period_eq (s : State) : s.period = if s.bat.shed = 3 then 1000000
    else if s.profile.rateCode = 0 then 20000 else if s.profile.rateCode = 1 then 10000 else 5000 := by
  unfold State.period tickPeriod rateOf
  split
  · rfl
  · split <;> simp_all

/-- The words of the set of a tick (R42 to R46). -/
theorem tickSet_words (s : State) (inp : TickInput) (n : ArrayTime) (c : Channel) :
    wordFits (rawOf inp c) ((s.converted inp).powered.get c) (decide (0 < (s.converted inp).settling.get c))
      ((s.tickSet inp n).words.get c) ∧
    ((s.tickSet inp n).words.get c).stepped = s.tb.stepped ∧
    (((s.tickSet inp n).words.get c).guard = true ↔
      ∃ g, s.det.guard = some g ∧ 0 ≤ diffUs n g.opens ∧ diffUs n g.ends < 0) := by
  obtain ⟨hfits, hstepped, hguard⟩ := formWord_fits (s.converted inp) inp (insideGuard s.det.guard n) s.tb.stepped c
  have hword : (s.tickSet inp n).words.get c =
      formWord (s.converted inp) inp (insideGuard s.det.guard n) s.tb.stepped c := get_ofFn _ c
  rw [hword, hguard, insideGuard_iff]
  exact ⟨hfits, hstepped, Iff.rfl⟩

/-- A set formed counts the settling down and the clips up (R44, R55). -/
theorem afterSet_channel (m : Sampler) (x : SampleSet) (c : Channel) :
    (afterSet m x).settling.get c = m.settling.get c - 1 ∧
    (afterSet m x).clips.get c =
      (if (x.words.get c).clipped = true then min (m.clips.get c + 1) 65535 else m.clips.get c) :=
  ⟨get_ofFn _ c, get_ofFn _ c⟩

/-- The state into which a set enters is what the statement calls formed, and it is announced there (R52). -/
theorem ringEnter_announced {s formed announced : State} {m : Sampler} {x : SampleSet}
    (hf : formed = { s with sampler := m }) (ha : announced = if m.ring.length < 4096 then formed
      else announceDisplaced formed ((m.nextSet + 4294967296 - 4096) % 4294967296)) :
    ringEnter { s with sampler := m } x = { announced with sampler := ringWrite m x } := by
  rw [ringEnter_eq, ha, hf]

end Sys2Proof.Machine

namespace Sys2Proof.Proofs

open Sys2Proof.Machine

/-- Settles O42: the sweeps, then the Sampler's work on what they leave. -/
theorem sampleTickConverts : Obligations.SampleTickConverts := by
  intro s inp n next wanted count bad r ha hn hdue hnext hw hc hb hr
  have hissue : issueTick s n = { s with tb := { s.tb with lastTick := some n, nextTick := some next } } := by
    rw [issueTick, period_eq, ← hnext]
  have hexec := exec_sampleTick inp ha hn hdue
  obtain ⟨w, hs⟩ : ∃ w, w = tickSweeps (issueTick s n) := ⟨_, rfl⟩
  obtain ⟨hticks, hshed⟩ := tickSweeps_leaves (issueTick s n)
  rw [← hs, hissue] at hticks hshed
  simp only [Timebase.ticks, Prod.mk.injEq] at hticks
  obtain ⟨hnextTick, hlastTick, hstepped⟩ := hticks
  have hsampler : w.sampler = s.sampler := by rw [hs, hissue]; simp
  have hlisten : w.listenOnly = s.listenOnly := by rw [hs, hissue]; simp
  have hdet : w.det = s.det := by rw [hs, hissue]; simp
  have hforms : w.formsSet = true ↔ detectorIsOn s := by
    rw [formsSet_iff, detectorIsOn, hshed, hlisten]
    rfl
  have hchannel := converted_channel w inp (wanted := wanted) (count := count) (by rw [hlisten, hshed]; exact hw)
    (by rw [hsampler]; exact hc)
  obtain ⟨hslot, hother, hlatest, hbatSensor, hencSensor, hbadBat, hbadEnc⟩ :=
    converted_housekeeping w inp (bad := bad) (by rw [hsampler]; exact hb)
  obtain ⟨-, -, hclips, hring, hset⟩ := convertHk_leaves (applyPower w.sampler w.bat.shed w.listenOnly) inp.hk
  have hresult : hkResult s.sampler.slot inp.hk = r := (hkResult_eq hb).trans hr.symm
  obtain ⟨hkeptLast, hkeptNext⟩ := samplerWork_kept w inp n
  obtain ⟨r1, r2, r3, r4, r5, r6, r7⟩ := samplerWork_rest w inp n
  rw [hsampler] at hslot hother hlatest hbatSensor hencSensor hbadBat hbadEnc
  rw [hresult] at hlatest
  have hawake : (issueTick s n).awake = true := ha
  have hended : (ageSweep (issueTick s n)).awake = true := awake_of_phase (by simp) hawake
  have hrepeated : (endSweep (ageSweep (issueTick s n))).awake = true := awake_of_phase (by simp) hended
  have htested : (scheduleTest (repeatSweep (endSweep (ageSweep (issueTick s n))))).awake = true :=
    awake_of_phase (by simp) hrepeated
  refine ⟨samplerWork w inp n, ageSweep (issueTick s n), endSweep (ageSweep (issueTick s n)),
    repeatSweep (endSweep (ageSweep (issueTick s n))),
    quietTest (scheduleTest (repeatSweep (endSweep (ageSweep (issueTick s n))))), w, hs ▸ hexec,
    hissue ▸ (exec_sweeps hawake).1, (exec_sweeps hended).2.1, (exec_sweeps hrepeated).2.2.1,
    (exec_sweeps htested).2.2.2, hs, hkeptLast.trans hlastTick, fun h => (hkeptNext ?_).trans hnextTick,
    fun c => ?_, ?_, fun i hi => ?_, ?_, ?_, ?_, ?_, ?_, fun hoff => ?_, fun hon => ?_⟩
  · rw [h, hshed]
  · rw [r1]
    exact (hchannel c).1
  · rw [r2, hslot]
    exact next_mem s.sampler.slot
  · rw [r3]
    exact hother i hi
  · rw [r3]
    exact hlatest
  · rw [r4]
    exact hbatSensor
  · rw [r5]
    exact hencSensor
  · rw [r6]
    exact hbadBat
  · rw [r7]
    exact hbadEnc
  · have hf : w.formsSet = false := Bool.eq_false_iff.2 (mt hforms.1 hoff)
    rw [samplerWork_sampler_off hf]
    refine ⟨hring.trans (by rw [hsampler]; rfl), hset.trans (by rw [hsampler]; rfl), fun c => ?_,
      fun c => (hchannel c).2, ?_⟩
    · rw [State.converted, hclips, hsampler]
      rfl
    · rw [samplerWork_off hf, hsampler, hresult]
  · have hf : w.formsSet = true := hforms.2 hon
    have hring' : (w.converted inp).ring = s.sampler.ring := hring.trans (by rw [hsampler]; rfl)
    have hset' : (w.converted inp).nextSet = s.sampler.nextSet := hset.trans (by rw [hsampler]; rfl)
    have hclips' : (w.converted inp).clips = s.sampler.clips := hclips.trans (by rw [hsampler]; rfl)
    rw [samplerWork_sampler_on hf]
    refine ⟨w.tickSet inp n, congrArg _ (congrArg (List.take 4095) hring'), ?_, rfl, fun c => ?_,
      fun formed announced h1 h2 => ?_⟩
    · rw [ringWrite_nextSet, wrap32, ← hset']
      rfl
    · obtain ⟨hsettle, hclip⟩ := afterSet_channel (w.converted inp) (w.tickSet inp n) c
      obtain ⟨hfits, hstep, hguard⟩ := tickSet_words w inp n c
      rw [(hchannel c).1, (hchannel c).2] at hfits
      rw [hdet] at hguard
      rw [(hchannel c).2] at hsettle
      rw [hclips'] at hclip
      exact ⟨hsettle, hclip, hfits, hstep.trans hstepped, hguard⟩
    · rw [samplerWork_on hf, hsampler, hresult, ringEnter_announced (formed := formed) (announced := announced)]
      · rw [h1, ← hring', ← hset']
        rfl
      · rw [h2, ← hring', ← hset']
        rfl

end Sys2Proof.Proofs

/-! SUPPORT. Access to the line and the bytes and bits of a frame: a field's bytes, the serial form, and the microseconds of
the line (R12, R186, R187, R190, R194, R216). -/

namespace Sys2Proof.Machine

/-! ### The bytes of a field (R216) -/

@[simp] theorem beBytes_length (k n : Nat) : (beBytes k n).length = k := by
  induction k generalizing n with
  | zero => rfl
  | succ j ih => simp [beBytes, ih]

/-- Only what the bytes hold of a number goes into them. -/
theorem beBytes_mod (k n : Nat) : beBytes k (n % 256 ^ k) = beBytes k n := by
  induction k generalizing n with
  | zero => rfl
  | succ j ih =>
    have hhigh : n % 256 ^ (j + 1) / 256 = n / 256 % 256 ^ j := by
      rw [pow_succ, Nat.mod_mul_left_div_self]
    have hlow : byteOf (n % 256 ^ (j + 1)) = byteOf n := by
      refine BitVec.eq_of_toNat_eq ?_
      simp only [byteOf, BitVec.toNat_ofNat]
      exact Nat.mod_mod_of_dvd n (by rw [pow_succ]; exact Dvd.intro_left _ rfl)
    unfold beBytes
    rw [hhigh, ih, hlow]

theorem ofBytes_append_singleton (bs : List Byte) (b : Byte) : ofBytes (bs ++ [b]) = ofBytes bs * 256 + b.toNat := by
  simp [ofBytes]

theorem ofBytes_beBytes (k n : Nat) : ofBytes (beBytes k n) = n % 256 ^ k := by
  induction k generalizing n with
  | zero => simp [beBytes, ofBytes, Nat.mod_one]
  | succ j ih =>
    unfold beBytes
    rw [ofBytes_append_singleton, ih, pow_succ, mul_comm (256 ^ j), Nat.mod_mul]
    simp only [byteOf, BitVec.toNat_ofNat]
    omega

/-- The bytes of a field: its value in two's complement. -/
def fieldBytes (f : Nat × Int) : List Byte := beInt f.1 f.2

@[simp] theorem fieldBytes_length (f : Nat × Int) : (fieldBytes f).length = f.1 := beBytes_length _ _

theorem fieldBytes_nat (k n : Nat) : fieldBytes (k, (n : Int)) = beBytes k n := by
  unfold fieldBytes beInt
  rw [← Int.natCast_mod, Int.toNat_natCast, beBytes_mod]

theorem beBytes_one (n : Nat) : beBytes 1 n = [byteOf n] := rfl

theorem fieldBytes_byte (n : Nat) : fieldBytes (1, (n : Int)) = [byteOf n] := fieldBytes_nat 1 n

theorem ofBytes_fieldBytes (f : Nat × Int) : (ofBytes (fieldBytes f) : Int) = f.2 % (256 ^ f.1 : Nat) := by
  have hpos : (0 : Int) < ((256 ^ f.1 : Nat) : Int) := by positivity
  have h0 : 0 ≤ f.2 % ((256 ^ f.1 : Nat) : Int) := Int.emod_nonneg _ hpos.ne'
  have h1 : f.2 % ((256 ^ f.1 : Nat) : Int) < ((256 ^ f.1 : Nat) : Int) := Int.emod_lt_of_pos _ hpos
  unfold fieldBytes beInt
  rw [ofBytes_beBytes, Nat.mod_eq_of_lt (by omega), Int.toNat_of_nonneg h0]

/-- Fields written one after another stand there. -/
theorem fieldsStand_flatMap (fields : Fields) : fieldsStand fields (fields.flatMap fieldBytes) := by
  induction fields with
  | nil => rfl
  | cons f rest ih =>
    unfold fieldsStand
    rw [List.flatMap_cons]
    refine ⟨by simp, ?_, ?_⟩
    · have htake : (fieldBytes f ++ rest.flatMap fieldBytes).take f.1 = fieldBytes f :=
        List.take_left' (fieldBytes_length f)
      have hnumber : numberAt (fieldBytes f ++ rest.flatMap fieldBytes) 0 f.1 = ofBytes (fieldBytes f) := by
        unfold numberAt ofBytes
        rw [List.drop_zero, htake]
      unfold integerAt
      rw [hnumber, ofBytes_fieldBytes]
    · rw [List.drop_left' (fieldBytes_length f)]
      exact ih

theorem fields_length (fields : Fields) : (fields.flatMap fieldBytes).length = (fields.map Prod.fst).sum := by
  simp [List.length_flatMap]

/-! ### The bytes of a frame (R187, R216) -/

theorem kindNumber_eq_kindCode (f : Frame) : kindNumber f = f.kindCode := by cases f <;> rfl

theorem timeBytes_eq_fields (t : ArrayTime) : timeBytes t = (timeFields t).flatMap fieldBytes := by
  simp [timeBytes, timeFields, fieldBytes_nat]

theorem codeIn_state (st : TimeState) :
    codeIn [.unset, .anchored, .following, .consensus, .holdover] st = (st.code : Int) := by
  cases st <;> decide

theorem fieldBytes_flags3 (a b c : Bool) : fieldBytes (flagField [a, b, c]) = [byteOf (PerChan.mask ⟨a, b, c⟩)] := by
  cases a <;> cases b <;> cases c <;> decide

theorem fieldBytes_flags2 (a b : Bool) : fieldBytes (flagField [a, b]) = [byteOf (flagBits [a, b])] := by
  cases a <;> cases b <;> decide

theorem fieldBytes_flags1 (a : Bool) : fieldBytes (flagField [a]) = [byteOf (flagBits [a])] := by
  cases a <;> decide

theorem byteOf_toNat (b : Byte) : byteOf b.toNat = b := BitVec.ofNat_toNat 8 b |>.trans (by simp)

theorem optInt16_eq_field (o : Option Int) : optInt16 o = fieldBytes (maybeSigned o) := rfl

theorem beInt_eq_field (k : Nat) (x : Int) : beInt k x = fieldBytes (k, x) := rfl

theorem flatMap_origins (os : List Nat) : (os.map fun (o : Nat) => ((1, (o : Int)) : Nat × Int)).flatMap fieldBytes =
    os.map byteOf := by
  induction os with
  | nil => rfl
  | cons o rest ih => simp [ih, fieldBytes_byte]

theorem flatMap_data (bs : List Byte) : (bs.map fun (b : Byte) => ((1, (b.toNat : Int)) : Nat × Int)).flatMap fieldBytes =
    bs := by
  induction bs with
  | nil => rfl
  | cons b rest ih => simp [ih, fieldBytes_byte, byteOf_toNat]

/-- A payload is the bytes of its fields (R216). -/
theorem payload_eq_fields (f : Frame) (t : ArrayTime) : f.payload t = (payloadFields f t).flatMap fieldBytes := by
  cases f with
  | alert a =>
    simp only [Frame.payload, payloadFields, keyBytes, List.flatMap_append, List.flatMap_cons, List.flatMap_nil,
      timeBytes_eq_fields, flatMap_origins, fieldBytes_byte]
    simp
  | pick p east north =>
    simp only [Frame.payload, payloadFields, List.flatMap_append, List.flatMap_cons, List.flatMap_nil,
      timeBytes_eq_fields, fieldBytes_byte, fieldBytes_flags3, fieldBytes_flags2, beInt_eq_field]
    simp
  | beacon b =>
    simp only [Frame.payload, payloadFields, List.flatMap_append, List.flatMap_cons, List.flatMap_nil,
      timeBytes_eq_fields, codeIn_state, fieldBytes_nat, beBytes_one, fieldBytes_flags1, beInt_eq_field,
      optInt16_eq_field]
    simp
  | answer a =>
    simp only [Frame.payload, payloadFields, List.flatMap_append, List.flatMap_cons, List.flatMap_nil, flatMap_data,
      fieldBytes_byte]
    simp

/-- The bytes that the CRC of a frame checks: those between its start delimiter and it (R187). -/
def checkedBytes (own : Nat) (q : QFrame) (t : ArrayTime) : List Byte :=
  [byteOf q.frame.kindCode, byteOf own, byteOf q.seq, byteOf (q.frame.payload t).length] ++ q.frame.payload t

theorem frameBytes_eq (own : Nat) (q : QFrame) (t : ArrayTime) : frameBytes own q t =
    [0x55#8, 0x55#8, 0xB9#8] ++ checkedBytes own q t ++ beBytes 2 (crc16 (checkedBytes own q t)) := rfl

theorem checkedBytes_of_frame (own : Nat) (q : QFrame) (t : ArrayTime) :
    ((frameBytes own q t).drop 3).dropLast.dropLast = checkedBytes own q t := by
  have hcrc : ∀ n, beBytes 2 n = [byteOf (n / 256), byteOf n] := fun _ => rfl
  rw [frameBytes_eq, hcrc, List.append_assoc]
  generalize checkedBytes own q t = body
  have hsplit : ∀ x y : Byte, body ++ [x, y] = body ++ [x] ++ [y] := by simp
  rw [hsplit, List.drop_left' (by rfl), List.dropLast_concat, List.dropLast_concat]

/-- A frame is the bytes of its fields (R187, R216). -/
theorem frameBytes_eq_fields (own : Nat) (q : QFrame) (t : ArrayTime) : frameBytes own q t =
    (frameFields own q t (crc16 (((frameBytes own q t).drop 3).dropLast.dropLast))).flatMap fieldBytes := by
  have hpreamble : fieldBytes (1, 0x55) = [0x55#8] := by decide
  have hdelimiter : fieldBytes (1, 0xB9) = [0xB9#8] := by decide
  rw [checkedBytes_of_frame, frameBytes_eq]
  unfold frameFields
  rw [← fields_length, ← payload_eq_fields]
  simp only [List.flatMap_append, List.flatMap_cons, List.flatMap_nil, hpreamble, hdelimiter, fieldBytes_nat,
    beBytes_one, kindNumber_eq_kindCode, ← payload_eq_fields]
  simp [checkedBytes]

theorem frameUs_eq (own : Nat) (q : QFrame) (t : ArrayTime) : frameUs q = 160 * (frameBytes own q t).length := by
  have hwidths : ((payloadFields q.frame t).map Prod.fst).sum = ((payloadFields q.frame timeZero).map Prod.fst).sum := by
    cases q.frame <;> rfl
  have hlength : (q.frame.payload t).length = (q.frame.payload timeZero).length := by
    rw [payload_eq_fields, payload_eq_fields, fields_length, fields_length, hwidths]
  rw [frameBytes_eq]
  simp [frameUs, Frame.size, checkedBytes, hlength]
  omega

/-! ### The serial form (R118, R186) -/

/-- The levels of one byte. -/
def byteLevels (b : Byte) : List Bool := false :: ((List.range 8).map (fun i => b.getLsbD i) ++ [true])

theorem byteLevels_length (b : Byte) : (byteLevels b).length = 10 := by simp [byteLevels]

theorem serialLevels_length (bs : List Byte) : (serialLevels bs).length = 10 * bs.length := by
  induction bs with
  | nil => rfl
  | cons b rest ih =>
    have hcons : serialLevels (b :: rest) = byteLevels b ++ serialLevels rest := rfl
    rw [hcons, List.length_append, ih, byteLevels_length, List.length_cons]
    ring

/-- Each byte's levels stand in their own ten places. -/
theorem serialLevels_get {bs : List Byte} {k : Nat} {b : Byte} (h : bs[k]? = some b) {j : Nat} (hj : j < 10) :
    (serialLevels bs)[10 * k + j]? = (byteLevels b)[j]? := by
  induction bs generalizing k with
  | nil => cases h
  | cons x rest ih =>
    have hcons : serialLevels (x :: rest) = byteLevels x ++ serialLevels rest := rfl
    rw [hcons]
    cases k with
    | zero =>
      obtain rfl : x = b := by simpa using h
      rw [mul_zero, zero_add, List.getElem?_append_left (by rw [byteLevels_length]; exact hj)]
    | succ i =>
      rw [List.getElem?_append_right (by rw [byteLevels_length]; omega), byteLevels_length, ← ih (by simpa using h)]
      congr 1
      omega

theorem serialLevels_form (bs : List Byte) : serialForm bs (serialLevels bs) := by
  refine ⟨serialLevels_length bs, fun k b h => ⟨?_, ?_, fun j hj => ?_⟩⟩
  · exact serialLevels_get h (j := 0) (by decide)
  · exact serialLevels_get h (j := 9) (by decide)
  · rw [Nat.add_assoc, serialLevels_get h (j := 1 + j) (by omega), Nat.add_comm 1 j]
    simp [byteLevels, hj, List.getElem?_append_left]

theorem frameLevels_some (own : Nat) (q : QFrame) (t : ArrayTime) :
    frameLevels own q (some t) = serialLevels (frameBytes own q t) := by
  unfold frameLevels
  cases q.frame <;> rfl

/-- A frame without a stamp to take is driven whole from its start, a BEACON's preamble alone (R12, R186). -/
theorem frameLevels_none (own : Nat) (q : QFrame) :
    (q.isBeacon = false → frameLevels own q none = serialLevels (frameBytes own q timeZero)) ∧
    (q.isBeacon = true → frameLevels own q none = serialLevels [0x55#8, 0x55#8]) := by
  unfold frameLevels QFrame.isBeacon
  cases q.frame <;> exact ⟨fun h => by cases h <;> rfl, fun h => by cases h <;> rfl⟩

/-! ### Access (R186, R190) -/

theorem gapUs_eq_gapOf (q : QFrame) : gapUs q = gapOf q := by
  unfold gapUs gapOf
  cases q.frame <;> rfl

theorem backoffBits_eq (q : QFrame) : backoffBits q = min (q.attempts + 1) (if q.frame.priority = 2 then 3 else 6) := by
  unfold backoffBits
  cases q.frame <;> rfl

theorem gapMet_iff {l : Line} (h : l.sending = false) (q : QFrame) : l.gapMet q = true ↔ 160 + gapOf q ≤ l.silence := by
  simp [Line.gapMet, h, gapUs_eq_gapOf]

theorem not_sending_of_access {l : Line} (h : ∀ e stamp, l.access ≠ .transmitting e stamp) : l.sending = false :=
  Bool.eq_false_iff.2 fun hs => by
    obtain ⟨e, stamp, ha⟩ := l.sending_iff.1 hs
    exact h e stamp ha

theorem exec_idleGapMet {s : State} {q : QFrame} {rest : List QFrame} (ha : s.awake = true) (hq : s.line.queue = q :: rest)
    (hw : s.line.access = .waiting) :
    exec .idleGapMet s = .next (if 160 + gapOf q ≤ s.line.silence then drawBackoff s q else s) := by
  have hexec : exec .idleGapMet s = execIdleGapMet s := rfl
  have hsending : s.line.sending = false := not_sending_of_access (by rw [hw]; simp)
  rw [hexec]
  unfold execIdleGapMet
  rw [hq, hw]
  dsimp only
  rw [doWhen, ha, Bool.true_and, if_congr (gapMet_iff hsending q) rfl rfl]

theorem exec_backoffExpiry {s : State} {q : QFrame} {rest : List QFrame} {left : Nat} (ha : s.awake = true)
    (hq : s.line.queue = q :: rest) (hb : s.line.access = .backoff left) :
    exec .backoffExpiry s = .next (if left = 0 then beginSending s q else s) := by
  have hexec : exec .backoffExpiry s = execBackoffExpiry s := rfl
  rw [hexec]
  unfold execBackoffExpiry
  rw [hq, hb]
  cases left with
  | zero => rw [ite_cond_eq_true _ _ (eq_self 0)]; exact congrArg _ (if_pos ha)
  | succ n => rfl

/-- What the receiver holds after a start bit (R194). -/
theorem hear_eq {l : Line} (h : l.sending = false) (now : ArrayTime) (delimiter : Bool) : l.hear now delimiter =
    (if l.rx = .hunting ∨ 160 ≤ l.silence then (if delimiter = true then .taking now else .hunting) else l.rx) := by
  unfold Line.hear Line.busy
  rw [h, Bool.false_or]
  by_cases hs : 160 ≤ l.silence
  · simp [Nat.not_lt.2 hs, hs]
  · cases l.rx <;> simp [Nat.lt_of_not_le hs, hs]

/-! ### The microsecond of the line (R186, R190) -/

/-- A microsecond in which no stamp falls due (R12). -/
theorem lineTick_of_tick {s : State} {l : Line} (ht : s.line.tick = l)
    (hn : ∀ q rest, l.queue = q :: rest → ¬l.stampDue q) : lineTick s = { s with line := l } := by
  unfold lineTick
  rw [ht]
  exact takeStamp_not_due hn

/-- A microsecond in which nothing is in transmission. -/
theorem lineTick_unsent {s : State} {a : Access} (hx : s.line.rx ≠ .deaf) (hn : s.line.sending = false)
    (ha : s.line.accessTick = a) (hu : ∀ e stamp, a ≠ .transmitting e stamp) :
    lineTick s = { s with line := { s.line with silence := silenceAfter s.line false, access := a } } := by
  refine lineTick_of_tick ?_ fun q rest _ => not_stampDue (not_sending_of_access hu) q
  rw [tick_unsent hx hn, ha]
  rfl

theorem startsByte_transmitting {l : Line} {e : Nat} {stamp : Option ArrayTime} {q : QFrame} {rest : List QFrame}
    (ha : l.access = .transmitting e stamp) (hq : l.queue = q :: rest) :
    l.startsByte = decide ((e + 1) % 160 = 0 ∧ e + 1 < frameUs q) := by
  unfold Line.startsByte
  rw [ha, hq, Bool.eq_iff_iff]
  simp

/-- A microsecond of a frame that is not sent yet: what the line holds before a stamp is taken (R186, R190). -/
theorem tick_sending {l : Line} {e : Nat} {stamp : Option ArrayTime} {q : QFrame} {rest : List QFrame} (hx : l.rx ≠ .deaf)
    (ha : l.access = .transmitting e stamp) (hq : l.queue = q :: rest) (he : e < frameUs q) :
    l.tick = { l with
      silence := silenceAfter l (decide ((e + 1) % 160 = 0 ∧ e + 1 < frameUs q))
      access := .transmitting (e + 1) stamp } := by
  rw [tick_transmitting hx ha hq, startsByte_transmitting ha hq, Nat.min_eq_left he]
  rfl

/-- A microsecond after the last of a frame's (R186, R190). -/
theorem lineTick_sent {s : State} {e : Nat} {stamp : Option ArrayTime} {q : QFrame} {rest : List QFrame}
    (hx : s.line.rx ≠ .deaf) (ha : s.line.access = .transmitting e stamp) (hq : s.line.queue = q :: rest)
    (he : e = frameUs q) : lineTick s = { s with line := { s.line with silence := silenceAfter s.line false } } := by
  have hstarts : s.line.startsByte = false := by
    rw [startsByte_transmitting ha hq]
    exact decide_eq_false fun h => by omega
  have htick : s.line.tick = { s.line with silence := silenceAfter s.line false } := by
    rw [tick_transmitting hx ha hq, hstarts, he, Nat.min_eq_right (Nat.le_succ _), ← he, ← ha]
    rfl
  refine lineTick_of_tick htick fun x tail hxq hdue => ?_
  have h320 : e = 320 := (Access.transmitting.inj (ha.symm.trans hdue.1)).1
  have hlong := frameUs_gt q
  omega

theorem receiving_iff (s : State) :
    s.receiving = true ↔ s.awake = true ∧ s.line.rx ≠ .deaf ∧ s.line.sending = false := by
  simp [State.receiving, and_assoc]

end Sys2Proof.Machine

namespace Sys2Proof.Proofs

open Sys2Proof.Machine

/-- Settles O39: access, the microsecond of the line, the line that turns busy, and the frame's bytes and bits. -/
theorem accessProceeds : Obligations.AccessProceeds := by
  refine ⟨fun s q rest ha hq => ⟨fun hw => ⟨fun hlt => ?_, fun hle => ?_⟩,
      fun left hb => ⟨fun hne => ?_, fun h0 => ?_, fun hx => ?_⟩,
    fun e stamp ht he hx next hnext => ⟨fun hdue => ?_, fun hdue => ?_⟩⟩,
    fun s => ⟨fun hx hs => ?_, fun hx hacc => ?_⟩, fun s delimiter rx ha => ⟨fun hno => ?_, fun hx hs hrx => ?_⟩,
    fun s e stamp levels ha ht hd => ?_, fun own q t => ⟨frameUs_eq own q t, ?_, ?_, fun hn => ?_, fun hb => ?_⟩⟩
  · rw [exec_idleGapMet ha hq hw, if_neg (Nat.not_le.2 hlt)]
  · refine ⟨Config.backoffDraw s.freeCount % 2 ^ backoffBits q, ?_, ?_⟩
    · rw [← backoffBits_eq]
      exact Nat.mod_lt _ (by positivity)
    · rw [exec_idleGapMet ha hq hw, if_pos hle]
      rfl
  · rw [exec_backoffExpiry ha hq hb, if_neg hne]
  · rw [exec_backoffExpiry ha hq hb, if_pos h0]
    rfl
  · have hn : s.line.sending = false := not_sending_of_access (by rw [hb]; simp)
    exact lineTick_unsent hx hn (by rw [accessTick_unsent hn, hb]) (by simp)
  · have hnextLine : next.line.queue = q :: rest := by rw [hnext]; exact hq
    have hstart : next.line.stampDue q := by
      rw [hnext]
      exact ⟨by rw [hdue.1, hdue.2.2], hdue.2.1⟩
    have htick : lineTick s = takeStamp next := by rw [hnext, lineTick, tick_sending hx ht hq he]
    rw [htick, takeStamp_due hnextLine hstart, hnext]
    rfl
  · rw [hnext]
    refine lineTick_of_tick (tick_sending hx ht hq he) fun x tail hxq hd => hdue ?_
    obtain ⟨rfl, -⟩ := List.cons.inj (hq.symm.trans hxq)
    obtain ⟨h1, h2⟩ := Access.transmitting.inj hd.1
    exact ⟨h1, hd.2, h2⟩
  · exact lineTick_of_tick (tick_deaf hx) fun q rest _ => not_stampDue hs q
  · rcases hacc with hi | hw | ⟨q, e, stamp, hq, ht, he⟩
    · have hn : s.line.sending = false := not_sending_of_access (by rw [hi]; simp)
      exact lineTick_unsent hx hn (a := s.line.access) (by rw [accessTick_unsent hn, hi]) (by rw [hi]; simp)
    · have hn : s.line.sending = false := not_sending_of_access (by rw [hw]; simp)
      exact lineTick_unsent hx hn (a := s.line.access) (by rw [accessTick_unsent hn, hw]) (by rw [hw]; simp)
    · obtain ⟨rest, hrest⟩ := List.head?_eq_some_iff.1 hq
      exact lineTick_sent hx ht hrest he
  · have hexec : exec (.lineTurnsBusy delimiter) s = doWhen s.receiving s (fun u => startBit u delimiter) := rfl
    have hr : s.receiving = false := Bool.eq_false_iff.2 fun hc => by
      obtain ⟨-, h1, h2⟩ := (receiving_iff s).1 hc
      rcases hno with h | h
      · exact h1 h
      · exact Bool.false_ne_true (h2.symm.trans h)
    rw [hexec, doWhen, hr]
    rfl
  · have hexec : exec (.lineTurnsBusy delimiter) s = doWhen s.receiving s (fun u => startBit u delimiter) := rfl
    rw [hexec, doWhen, (receiving_iff s).2 ⟨ha, hx, hs⟩, if_pos rfl, hrx, ← hear_eq hs s.tb.clock delimiter]
    rfl
  · have hpins : s.pins.line = if s.awake then s.line.level else none := rfl
    rw [hpins, ha, if_pos rfl, Line.level, ht, hd]
  · have hstand := fieldsStand_flatMap
      (frameFields own q t (crc16 (((frameBytes own q t).drop 3).dropLast.dropLast)))
    rwa [← frameBytes_eq_fields] at hstand
  · rw [frameLevels_some]
    exact serialLevels_form _
  · rw [frameLevels_some]
    exact (frameLevels_none own q).1 hn
  · rw [(frameLevels_none own q).2 hb]
    exact serialLevels_form _

end Sys2Proof.Proofs

/-! SUPPORT. The rows of a channel's events: the averages of a set, and what a settled word of a powered channel does in each
state (R58 to R71). -/

namespace Sys2Proof.Machine

/-! ### The averages and the tests of a set (R58 to R61) -/

theorem averaged_iff (p : Profile) (a new : Averages) (e x : Int) (frozen : Bool) :
    averaged p a new e x frozen ↔ new = a.update p x frozen ∧ e = new.valueOf x := by
  obtain ⟨d, s, l⟩ := new
  simp only [averaged, Averages.update, Averages.valueOf, Averages.mk.injEq, averageStep, trackDc, charValue,
    Nat.cast_pow, Nat.cast_ofNat]
  constructor
  · rintro ⟨rfl, rfl, rfl, rfl⟩
    exact ⟨⟨rfl, rfl, rfl⟩, rfl⟩
  · rintro ⟨⟨rfl, rfl, rfl⟩, rfl⟩
    exact ⟨rfl, rfl, rfl, rfl⟩

theorem onSet_iff (p : Profile) (a : Averages) : a.onSet p = true ↔ onSet p a := decide_eq_true_iff

theorem offSet_iff (p : Profile) (a : Averages) : a.offSet p = true ↔ offSet p a := decide_eq_true_iff

theorem detectorOn_iff (s : State) : s.detectorOn = true ↔ detectorIsOn s := by
  simp [State.detectorOn, detectorIsOn]

theorem voting_eq_inTrigger (d : ChanDet) : d.state.voting = inTrigger d := rfl

/-! ### One channel and one set, state by state (R64 to R69) -/

section
variable {d : ChanDet} {p : Profile} {grade : Nat} {t : ArrayTime} {w : SetWord} {a : Averages} {e : Int} {r : RunMarks}

/-- The state of a channel decides what a settled word of a powered channel does (R62, R63). -/
theorem ChanDet.step_settled (hp : w.powered = true) (hs : w.settling = false) : d.step p grade t w =
    match d.state with
    | .off | .settling => (d.load p w.sample, false)
    | .warmup => (d.warm p w.sample, false)
    | .quiet => (d.quietSet p grade t w, false)
    | .pending => (d.pendingSet p w, false)
    | .triggered | .ending => d.triggerSet p t w := by
  unfold ChanDet.step
  rw [hp, hs]
  rfl

theorem ChanDet.step_of_settling (hp : w.powered = true) (hs : w.settling = false) (h : d.state = .settling) :
    d.step p grade t w = (d.load p w.sample, false) := by
  rw [ChanDet.step_settled hp hs, h]

theorem ChanDet.step_of_warmup (hp : w.powered = true) (hs : w.settling = false) (h : d.state = .warmup) :
    d.step p grade t w = (d.warm p w.sample, false) := by
  rw [ChanDet.step_settled hp hs, h]

theorem ChanDet.step_of_quiet (hp : w.powered = true) (hs : w.settling = false) (h : d.state = .quiet) :
    d.step p grade t w = (d.quietSet p grade t w, false) := by
  rw [ChanDet.step_settled hp hs, h]

theorem ChanDet.step_of_pending (hp : w.powered = true) (hs : w.settling = false) (h : d.state = .pending) :
    d.step p grade t w = (d.pendingSet p w, false) := by
  rw [ChanDet.step_settled hp hs, h]

theorem inTrigger_iff (d : ChanDet) : inTrigger d = true ↔ d.state = .triggered ∨ d.state = .ending := by
  simp [inTrigger]

theorem ChanDet.step_inTrigger (hp : w.powered = true) (hs : w.settling = false) (h : inTrigger d = true) :
    d.step p grade t w = d.triggerSet p t w := by
  rw [ChanDet.step_settled hp hs]
  rcases (inTrigger_iff d).1 h with h | h <;> rw [h]

/-- The last set of WARMUP (R64). -/
theorem ChanDet.warm_last (ha : averaged p d.averages a e w.sample false) (hw : d.warmup ≤ 1) : d.warm p w.sample =
    { state := .quiet, avg := some a, warmup := 0, onRun := 0, offRun := 0, run := none, last := d.last } := by
  obtain ⟨rfl, -⟩ := (averaged_iff ..).1 ha
  have h0 : d.warmup - 1 = 0 := by omega
  unfold ChanDet.warm
  dsimp only
  rw [if_pos h0, h0]
  rfl

/-- An on set in QUIET that is enough for on_hold (R65). -/
theorem ChanDet.quietSet_triggers (ha : averaged p d.averages a e w.sample false) (hon : onSet p a) (hh : p.onHold ≤ 1) :
    d.quietSet p grade t w = { d with
      state := .triggered, avg := some a, onRun := 1, offRun := 0, run := some ⟨t, grade, e, w.clipped, w.stepped⟩ } := by
  obtain ⟨rfl, rfl⟩ := (averaged_iff ..).1 ha
  unfold ChanDet.quietSet
  dsimp only
  rw [if_pos ((onSet_iff p _).2 hon), if_pos hh]
  rfl

/-- The on set in PENDING with which the on-run reaches on_hold (R66). -/
theorem ChanDet.pendingSet_triggers (ha : averaged p d.averages a e w.sample false) (hr : d.run = some r) (hon : onSet p a)
    (hh : p.onHold ≤ d.onRun + 1) : d.pendingSet p w = { d with
      state := .triggered, avg := some a, onRun := d.onRun + 1, run := some (r.renew e w) } := by
  obtain ⟨rfl, rfl⟩ := (averaged_iff ..).1 ha
  unfold ChanDet.pendingSet
  dsimp only
  rw [if_pos ((onSet_iff p _).2 hon), if_pos hh, hr]
  rfl

/-- The max_trigger test reads the run marks alone, whatever the averages have become (R69). -/
theorem ChanDet.tooLong_iff (hr : d.run = some r) (avg : Option Averages) :
    ({ d with avg := avg } : ChanDet).tooLong p t = true ↔ (p.maxTrigger : Int) * 1000000 ≤ diffUs t r.onset := by
  simp [ChanDet.tooLong, hr]

/-- The off set in trigger with which the off-run reaches off_hold, before max_trigger (R68). -/
theorem ChanDet.triggerSet_ends (ha : averaged p d.averages a e w.sample true) (hr : d.run = some r)
    (ht : diffUs t r.onset < (p.maxTrigger : Int) * 1000000) (hoff : offSet p a) (hh : p.offHold ≤ d.offRun + 1) :
    d.triggerSet p t w = ({ d with
      state := .quiet, avg := some a, onRun := 0, offRun := 0, run := none
      last := some ((r.renew e w).record t .normal) }, false) := by
  obtain ⟨rfl, rfl⟩ := (averaged_iff ..).1 ha
  unfold ChanDet.triggerSet ChanDet.votingSet
  dsimp only
  rw [if_neg (mt (ChanDet.tooLong_iff hr _).1 (Int.not_le.2 ht)), if_pos ((offSet_iff p _).2 hoff), if_pos hh, hr]
  rfl

/-- A set in trigger that meets the max_trigger test (R69). -/
theorem ChanDet.triggerSet_tooLong (ha : averaged p d.averages a e w.sample true) (hr : d.run = some r)
    (ht : (p.maxTrigger : Int) * 1000000 ≤ diffUs t r.onset) : d.triggerSet p t w = ({ d with
      state := .quiet, avg := some a, onRun := 0, offRun := 0, run := none, last := some (r.record t .long) }, true) := by
  obtain ⟨rfl, -⟩ := (averaged_iff ..).1 ha
  unfold ChanDet.triggerSet
  dsimp only
  rw [if_pos ((ChanDet.tooLong_iff hr _).2 ht), ChanDet.endTrigger, hr]
  rfl

end

/-! ### The rows of a channel's events -/

section
variable {s : State} {c : Channel} {t : ArrayTime} {w : SetWord} {after : ChanDet}
  {hit : ChanState → ChanDet × Bool → Bool}

/-- A row whose event is what comes of the word changes its channel alone (log entry 2). -/
theorem channelEvent_hit (ha : s.awake = true) (hd : detectorIsOn s)
    (hstep : (s.det.chan.get c).step s.profile s.tb.grade t w = (after, false))
    (hh : hit (s.det.chan.get c).state (after, false) = true) :
    channelEvent s c t w hit = .next (withChannel s c after) := by
  unfold channelEvent channelResult
  dsimp only
  rw [hstep, ha, (detectorOn_iff s).2 hd, hh]
  rfl

/-- A row whose word max_trigger forces out of its trigger counts that too (R69). -/
theorem channelEvent_forced (ha : s.awake = true) (hd : detectorIsOn s)
    (hstep : (s.det.chan.get c).step s.profile s.tb.grade t w = (after, true))
    (hh : hit (s.det.chan.get c).state (after, true) = true) :
    channelEvent s c t w hit = .next { s with det := { s.det with
      chan := s.det.chan.set c after, longTrig := min (s.det.longTrig + 1) 65535 } } := by
  unfold channelEvent channelResult
  dsimp only
  rw [hstep, ha, (detectorOn_iff s).2 hd, hh]
  rfl

end

end Sys2Proof.Machine

namespace Sys2Proof.Proofs

open Sys2Proof.Machine

/-- Settles O46: each row by what the channel's state makes of the word. -/
theorem channelEventsAct : Obligations.ChannelEventsAct := by
  rintro s c t w _ a e ha hd rfl hp hs hav
  refine ⟨fun h => ?_, fun h hw => ?_, fun h hh hon => ?_, fun r h hr hh hon => ?_, fun r h hr ht hoff hh => ?_,
    fun r h hr ht => ?_⟩
  · unfold exec execSettlingEnd
    exact channelEvent_hit ha hd (ChanDet.step_of_settling hp hs h) (by rw [h]; rfl)
  · rw [inTrigger, h] at hav
    unfold exec execWarmupEnd
    exact channelEvent_hit ha hd
      ((ChanDet.step_of_warmup hp hs h).trans (congrArg (·, false) (ChanDet.warm_last hav hw))) (by rw [h]; rfl)
  · rw [inTrigger, h] at hav
    unfold exec execChannelTriggered
    exact channelEvent_hit ha hd
      ((ChanDet.step_of_quiet hp hs h).trans (congrArg (·, false) (ChanDet.quietSet_triggers hav hon hh))) (by rw [h]; rfl)
  · rw [inTrigger, h] at hav
    unfold exec execChannelTriggered
    exact channelEvent_hit ha hd
      ((ChanDet.step_of_pending hp hs h).trans (congrArg (·, false) (ChanDet.pendingSet_triggers hav hr hon hh)))
      (by rw [h]; rfl)
  · rw [h] at hav
    unfold exec execTriggerEnd
    exact channelEvent_hit ha hd ((ChanDet.step_inTrigger hp hs h).trans (ChanDet.triggerSet_ends hav hr ht hoff hh))
      (by rw [voting_eq_inTrigger, h]; rfl)
  · rw [h] at hav
    unfold exec execMaxTrigger
    exact channelEvent_forced ha hd ((ChanDet.step_inTrigger hp hs h).trans (ChanDet.triggerSet_tooLong hav hr ht)) rfl

end Sys2Proof.Proofs

/-! SUPPORT. A capture's start and its close: the next free page, reclaims, the walk for the start set, the room that a pick
needs, and the last page of a record (R54, R132 to R139). -/

namespace Sys2Proof.Machine

/-! ### Free pages and reclaims (R135, R136) -/

theorem isFree_iff (s : State) (p : Nat) : (s.kindOf p).isFree = true ↔ freePage s p := by
  unfold freePage
  cases s.kindOf p <;> simp [PageKind.isFree]

/-- The pages from the allocation pointer on are searched in order (R135). -/
theorem nextFree_eq_some_iff (s : State) (p : Nat) : nextFree s = some p ↔ nextFreePage s p := by
  have hfree : ∀ q, (!(s.kindOf q).isFree) = true ↔ ¬freePage s q := fun q => by simp [← isFree_iff]
  simp only [nextFree, pagesFrom, pageCount, List.find?_map, Option.map_eq_some_iff, List.find?_range_eq_some,
    List.mem_range, Function.comp_apply, hfree, isFree_iff, nextFreePage]
  constructor
  · rintro ⟨k, ⟨hk, hlt, hno⟩, rfl⟩
    exact ⟨k, hlt, rfl, hk, hno⟩
  · rintro ⟨k, hlt, rfl, hk, hno⟩
    exact ⟨k, ⟨hk, hlt, hno⟩, rfl⟩

theorem nextFree_eq_none_iff (s : State) : nextFree s = none ↔ ∀ p, ¬nextFreePage s p := by
  simp only [Option.eq_none_iff_forall_ne_some, ne_eq, nextFree_eq_some_iff]

theorem reclaimable_iff (e : DirEntry) : e.reclaimable = true ↔ reclaimable e := by
  simp [DirEntry.reclaimable, reclaimable]

theorem reclaim_none {s : State} (h : ∀ e ∈ s.rm.dir, ¬reclaimable e) : reclaim s = none := by
  have hf : s.rm.dir.find? DirEntry.reclaimable = none :=
    List.find?_eq_none.2 fun e he => mt (reclaimable_iff e).1 (h e he)
  rw [reclaim, hf]

theorem reclaim_first {s : State} {e : DirEntry} (h : firstReclaimed s e) : reclaim s = some (reclaimedOf s e) := by
  rw [reclaim, (firstWith_iff reclaimable _ reclaimable_iff _ _).1 h]
  rfl

/-- A look at the next free page writes nothing but the request for its erase. -/
theorem lookAhead_rm (s : State) : ∃ ahead, (lookAhead s).rm = { s.rm with eraseAhead := ahead } := by
  unfold lookAhead
  split
  · exact ⟨s.rm.eraseAhead, rfl⟩
  · split
    · exact ⟨_, rfl⟩
    · exact ⟨s.rm.eraseAhead, rfl⟩

/-- What a reclaim leaves of the Record Memory, as a pick asks for it. -/
theorem reclaimedOf_rm (s : State) (e : DirEntry) : (reclaimedOf s e).rm.cap = s.rm.cap ∧
    (reclaimedOf s e).rm.wiping = s.rm.wiping ∧ (reclaimedOf s e).rm.nextId = s.rm.nextId ∧
    (reclaimedOf s e).rm.dir = s.rm.dir.filter (fun y => y.id != e.id) := by
  obtain ⟨ahead, h⟩ := lookAhead_rm { s with rm := { s.rm with
    dir := s.rm.dir.filter (fun y => y.id != e.id), reclaimed := min (s.rm.reclaimed + 1) 65535
    map := s.rm.map.map (fun k => if k.isOwnedBy e.id = true then .freeDirty else k) } }
  unfold reclaimedOf
  rw [h]
  exact ⟨rfl, rfl, rfl, rfl⟩

/-- A reclaim makes room in the directory (R136). -/
theorem reclaimedOf_dir_lt {s : State} {e : DirEntry} (h : firstReclaimed s e) :
    (reclaimedOf s e).rm.dir.length < s.rm.dir.length := by
  obtain ⟨a, b, hl, -⟩ := h
  obtain ⟨-, -, -, hdir⟩ := reclaimedOf_rm s e
  rw [hdir, List.length_filter_lt_length_iff_exists]
  exact ⟨e, by simp [hl], by simp⟩

/-! ### The walk for a start set (R54) -/

/-- The stamp written after the j-th set that a walk looks at; `after` is the one for the first. -/
def stampAfter (after : Option Int) (sets : List SampleSet) (j : Nat) : Option Int :=
  match j with
  | 0 => after
  | i + 1 => sets[i]?.map (fun x => usOf x.stamp)

theorem stampAfter_cons (after : Option Int) (x : SampleSet) (rest : List SampleSet) (j : Nat) :
    stampAfter after (x :: rest) (j + 1) = stampAfter (some (usOf x.stamp)) rest j := by
  cases j <;> rfl

/-- A set at which a walk stops: it lies before the start, or a set written after it does not lie after it (R54). -/
def walkStops (start : Int) (after : Option Int) (x : SampleSet) : Prop :=
  usOf x.stamp < start ∨ ∃ u, after = some u ∧ u ≤ usOf x.stamp

theorem ringWalk_cons (start : Int) (after : Option Int) (x : SampleSet) (rest : List SampleSet) :
    (walkStops start after x → ringWalk start after (x :: rest) = 0) ∧
      (¬walkStops start after x →
        ringWalk start after (x :: rest) = ringWalk start (some (usOf x.stamp)) rest + 1) := by
  simp only [ringWalk, walkStops, Nat.add_comm 1]
  cases after with
  | none => constructor <;> intro h <;> simpa using h
  | some u => constructor <;> intro h <;> simpa [or_iff_not_imp_left] using h

/-- A walk passes sets at which it does not stop, up to one at which it does (R54). -/
theorem ringWalk_spec (start : Int) (after : Option Int) (sets : List SampleSet) :
    ringWalk start after sets ≤ sets.length ∧
      (∀ j x, j < ringWalk start after sets → sets[j]? = some x → ¬walkStops start (stampAfter after sets j) x) ∧
      ∀ x, sets[ringWalk start after sets]? = some x →
        walkStops start (stampAfter after sets (ringWalk start after sets)) x := by
  induction sets generalizing after with
  | nil => simp [ringWalk]
  | cons y rest ih =>
    by_cases h : walkStops start after y
    · rw [(ringWalk_cons start after y rest).1 h]
      refine ⟨Nat.zero_le _, fun j x hj => absurd hj (Nat.not_lt_zero j), fun x hx => ?_⟩
      cases hx
      exact h
    · rw [(ringWalk_cons start after y rest).2 h]
      obtain ⟨hle, hpass, hstop⟩ := ih (some (usOf y.stamp))
      refine ⟨Nat.succ_le_succ hle, fun j x hj hx => ?_, fun x hx => ?_⟩
      · cases j with
        | zero => cases hx; exact h
        | succ i =>
          rw [stampAfter_cons]
          exact hpass i x (Nat.lt_of_succ_lt_succ hj) hx
      · rw [stampAfter_cons]
        exact hstop x hx

/-- From the newest set on, the stamp written after a set is that of the set before it in the ring's order. -/
theorem walkStops_newest (start : Int) (sets : List SampleSet) (k : Nat) (x : SampleSet) :
    walkStops start (stampAfter none sets k) x ↔
      usOf x.stamp < start ∨ ∃ y, 0 < k ∧ sets[k - 1]? = some y ∧ usOf y.stamp ≤ usOf x.stamp := by
  unfold walkStops
  cases k <;> simp [stampAfter]

theorem ringWalk_passes (sets : List SampleSet) (start : Int) : walkPasses sets start (ringWalk start none sets) := by
  obtain ⟨hle, hpass, hstop⟩ := ringWalk_spec start none sets
  simp only [walkStops_newest] at hpass hstop
  refine ⟨hle, fun j x hj hx => ?_, hstop⟩
  have h := hpass j x hj hx
  push Not at h
  exact ⟨h.1, fun y => h.2 y⟩

/-- The stamp of the start set, or the requested time where the walk passes none (R54, R132). -/
theorem ringStart_stamp (m : Sampler) (start : Int) :
    (ringWalk start none m.ring = 0 → (ringStart m start).2 = ofUs start) ∧
      ∀ x, 0 < ringWalk start none m.ring → m.ring[ringWalk start none m.ring - 1]? = some x →
        (ringStart m start).2 = x.stamp := by
  unfold ringStart
  cases ringWalk start none m.ring with
  | zero => exact ⟨fun _ => rfl, fun x h => absurd h (Nat.lt_irrefl 0)⟩
  | succ j =>
    refine ⟨fun h => absurd h j.succ_ne_zero, fun x _ hx => ?_⟩
    dsimp only
    rw [show m.ring[j]? = some x from hx]
    rfl

/-! ### A pick (R132, R133) -/

theorem captureOpen_iff (s : State) : s.rm.cap.isOpen = true ↔ captureOpen s := by
  simp [Capture.isOpen, captureOpen]

/-- The capture of a record that a pick starts: the record waits behind one that is CLOSING, or is the capture's own (R132). -/
def capturedNext (s : State) : Capture :=
  if s.rm.cap.mode = .closing then { s.rm.cap with waiting := some s.rm.nextId }
  else { s.rm.cap with mode := .opened, recId := some s.rm.nextId, waiting := none, buf := PageBuffer.empty }

/-- The entry, the start set and the marks that a pick begins a capture with (R132). -/
theorem captureBegin_eq (s : State) (onset : ArrayTime) :
    ∃ u, captureBegun s onset u ∧ captureBegin s onset = captureTake (lookAhead u) := by
  obtain ⟨hnone, hsome⟩ := ringStart_stamp s.sampler (usOf onset - (s.profile.preS : Int) * 1000000)
  exact ⟨_, ⟨_, _, _, capturedNext s, rfl, ringWalk_passes _ _, hnone, hsome, fun hm => if_pos hm, fun hm => if_neg hm,
    rfl⟩, rfl⟩

/-- A pick while the capture makes a record (R133). -/
theorem capturePick_open {s : State} (h : captureOpen s) (onset : ArrayTime) : capturePick s onset =
    { s with rm := { s.rm with cap := { s.rm.cap with endTime := none, awaiting := true } } } := by
  rw [capturePick, if_pos ((captureOpen_iff s).2 h)]
  rfl

/-- A pick during a wipe, or when the identifiers are used up (R132). -/
theorem capturePick_barred {s : State} (h : ¬captureOpen s) (hb : s.rm.wiping = true ∨ s.rm.nextId = 4294967295)
    (onset : ArrayTime) : capturePick s onset = captureTurnedAway s := by
  rw [capturePick, if_neg (mt (captureOpen_iff s).1 h), if_pos (by simpa using hb)]
  rfl

/-- A pick that may start a record, and finds no room in the directory (R132). -/
theorem capturePick_full {s : State} (h : ¬captureOpen s) (hw : s.rm.wiping = false) (hn : s.rm.nextId ≠ 4294967295)
    (hd : directoryRoom s = none) (onset : ArrayTime) : capturePick s onset = captureTurnedAway s := by
  rw [capturePick, if_neg (mt (captureOpen_iff s).1 h), if_neg (by simp [hw, hn]), hd]
  rfl

/-- A pick that may start a record, and finds room in the directory: the room of the pool decides (R132). -/
theorem capturePick_room {s u : State} (h : ¬captureOpen s) (hw : s.rm.wiping = false) (hn : s.rm.nextId ≠ 4294967295)
    (hd : directoryRoom s = some u) (onset : ArrayTime) :
    (pageRoom u = none → capturePick s onset = captureTurnedAway u) ∧
      ∀ v, pageRoom u = some v → capturePick s onset = captureBegin v onset := by
  rw [capturePick, if_neg (mt (captureOpen_iff s).1 h), if_neg (by simp [hw, hn]), hd]
  refine ⟨fun hp => ?_, fun v hp => ?_⟩
  · simp only [hp]
    rfl
  · simp only [hp]

/-- A pick that the directory has room for, and the pool no page nor a record to reclaim. -/
theorem capturePick_pool_full {s : State} (h : ¬captureOpen s) (hw : s.rm.wiping = false) (hn : s.rm.nextId ≠ 4294967295)
    (hd : s.rm.dir.length < 64) (hp : ∀ p, ¬nextFreePage s p) (hr : ∀ e ∈ s.rm.dir, ¬reclaimable e) (onset : ArrayTime) :
    capturePick s onset = captureTurnedAway s := by
  refine (capturePick_room h hw hn (if_pos hd) onset).1 ?_
  rw [pageRoom, (nextFree_eq_none_iff s).2 hp, reclaim_none hr]
  rfl

/-- A pick that a reclaim makes room for in the directory goes on as a pick after the reclaim (R132, R136). -/
theorem capturePick_reclaims {s : State} {e : DirEntry} (h : ¬captureOpen s) (hw : s.rm.wiping = false)
    (hn : s.rm.nextId ≠ 4294967295) (hd : s.rm.dir.length = 64) (he : firstReclaimed s e) (onset : ArrayTime) :
    capturePick s onset = capturePick (reclaimedOf s e) onset := by
  obtain ⟨hcap, hwiping, hnext, -⟩ := reclaimedOf_rm s e
  have hroom : directoryRoom s = some (reclaimedOf s e) := by
    rw [directoryRoom, if_neg (Nat.not_lt.2 hd.ge), reclaim_first he]
  have hroom' : directoryRoom (reclaimedOf s e) = some (reclaimedOf s e) := if_pos ((reclaimedOf_dir_lt he).trans_eq hd)
  have hleft := capturePick_room h hw hn hroom onset
  have hright := capturePick_room (s := reclaimedOf s e) (by rwa [captureOpen, hcap]) (hwiping.trans hw)
    (by rwa [hnext]) hroom' onset
  cases hp : pageRoom (reclaimedOf s e) with
  | none => rw [hleft.1 hp, hright.1 hp]
  | some v => rw [hleft.2 v hp, hright.2 v hp]

/-- A pick that the directory has room for begins a capture, after the reclaim that the pool needs, if any (R132). -/
theorem capturePick_begins {s v : State} (h : ¬captureOpen s) (hw : s.rm.wiping = false) (hn : s.rm.nextId ≠ 4294967295)
    (hd : s.rm.dir.length < 64) (hp : pageRoom s = some v) (onset : ArrayTime) :
    ∃ u, captureBegun v onset u ∧ capturePick s onset = captureTake (lookAhead u) := by
  rw [(capturePick_room h hw hn (if_pos hd) onset).2 v hp]
  exact captureBegin_eq v onset

/-! ### The close of a record (R137 to R139) -/

theorem countClose_eq {cause : EndCause} (h : cause = .power ∨ cause = .overrun) (s : State) :
    countClose s cause = closeCounted s cause := by
  rcases h with rfl | rfl <;> rfl

theorem dirUpdate_eq (s : State) (id : Nat) (f : DirEntry → DirEntry) : dirUpdate s id f =
    { s with rm := { s.rm with dir := s.rm.dir.map (fun e => if e.id = id then f e else e) } } := by
  simp only [dirUpdate, beq_iff_eq]

theorem returnIf_eq (s : State) (id : Nat) (page : Option Nat) : returnIf s id page = givenBack s id page := by
  cases page with
  | none => rfl
  | some p => exact dirUpdate_eq _ _ _

theorem captureFreed_eq (s : State) : captureFreed s = setCap s (freedCapture s.rm.cap) := by
  unfold captureFreed freedCapture
  dsimp only
  cases s.rm.cap.waiting <;> rfl

theorem programInFlight_iff (s : State) :
    s.programInFlight = true ↔ ∃ p bytes, s.rm.flight = some (.recordProgram p bytes) := by
  unfold State.programInFlight
  cases s.rm.flight with
  | none => simp
  | some o => cases o <;> simp

/-- What a page given back leaves of the Record Memory. -/
theorem givenBack_rm (s : State) (id : Nat) (page : Option Nat) :
    (givenBack s id page).rm.cap = s.rm.cap ∧ (givenBack s id page).rm.refused = s.rm.refused := by
  cases page <;> exact ⟨rfl, rfl⟩

/-- A record that has taken no set, and whose buffer is free (R137, R139). -/
theorem dropRecord_freed (s : State) (id : Nat) : captureFreed (dropRecord s id) = leftOut s id := by
  rw [captureFreed_eq]
  rfl

/-- A record that becomes CLOSED with an empty buffer, which is free (R139; log entry 28). -/
theorem markClosed_freed (s : State) (id : Nat) (cause : EndCause) : captureFreed (markClosed s id cause) =
    { s with rm := { s.rm with
      dir := s.rm.dir.map (fun e => if e.id = id then { e with closed := true, endCause := some cause } else e)
      cap := freedCapture s.rm.cap } } := by
  rw [captureFreed_eq, markClosed, dirUpdate_eq]
  rfl

/-- The close of a capture's own record (R138, R139), by what its buffer holds. -/
theorem closeRecord_eq {s u v : State} {cause : EndCause} {id : Nat} {b : PageBuffer} (hc : cause = .power ∨ cause = .overrun)
    (hu : u = closeCounted s cause) (hb : b = s.rm.cap.buf) (hv : v = givenBack u id b.page)
    (hid : s.rm.cap.recId = some id) : closeRecord s cause =
      if b.busy = true then
        if s.programInFlight = true then closingWith u { b with tail := some ⟨s.rm.cap.readPos.getD 0, cause⟩ }
        else closingWith (givenBack u id b.next) { b with final := some cause, next := none }
      else if b.sets = [] then
        if s.rm.cap.taken = 0 then leftOut v id
        else { v with rm := { v.rm with
          dir := v.rm.dir.map (fun e => if e.id = id then { e with closed := true, endCause := some cause } else e)
          cap := freedCapture v.rm.cap } }
      else closedWith u cause := by
  subst hu hb hv
  have hcap : (closeCounted s cause).rm.cap = s.rm.cap := rfl
  have hflight : (closeCounted s cause).programInFlight = s.programInFlight := rfl
  unfold closeRecord
  rw [countClose_eq hc]
  dsimp only
  rw [hcap, hid, hflight]
  simp only [returnIf_eq, dropRecord_freed, markClosed_freed, List.isEmpty_iff]
  rfl

/-- A close while no record is open (R138). -/
theorem closeAtOnce_not_open {s : State} (h : ¬captureOpen s) (cause : EndCause) : closeAtOnce s cause = s := by
  rw [closeAtOnce, if_neg fun hm => h (.inl hm), if_neg (mt (captureOpen_iff s).1 h)]

/-- A close while a record waits behind one that is CLOSING: the waiting one leaves the directory (R138). -/
theorem closeAtOnce_waiting {s u : State} {cause : EndCause} {w : Nat} (hc : cause = .power ∨ cause = .overrun)
    (hu : u = closeCounted s cause) (hm : s.rm.cap.mode = .closing) (hw : s.rm.cap.waiting = some w) :
    closeAtOnce s cause = { u with rm := { u.rm with
      dir := s.rm.dir.filter (fun e => e.id != w), refused := min (s.rm.refused + 1) 65535
      cap := { s.rm.cap with waiting := none, readPos := none, endTime := none, awaiting := false } } } := by
  have hopen : captureOpen s := .inr ⟨hm, by rw [hw]; rfl⟩
  rw [closeAtOnce, if_neg (by rw [hm]; decide), if_pos ((captureOpen_iff s).2 hopen), countClose_eq hc, dropWaiting,
    show (closeCounted s cause).rm.cap.waiting = some w from hw, hu]
  rfl

end Sys2Proof.Machine

namespace Sys2Proof.Proofs

open Sys2Proof.Machine

/-- Settles O49: a pick, the end of a trigger, the announcement of a displaced set, and the close, case by case. -/
theorem capturesStartAndClose : Obligations.CapturesStartAndClose := by
  rintro s ⟨hlen, -⟩
  refine ⟨fun onset => ⟨fun h => capturePick_open h onset, fun h hb => capturePick_barred h hb onset,
      fun h hw hn => ⟨fun hfull hno => ?_, fun e hd he => capturePick_reclaims h hw hn hd he onset,
        fun e hd hp he => ?_, fun p hd hp => ?_⟩⟩,
    fun stamp => ⟨fun h => ?_, fun h => ?_⟩, fun num cause hcause => ⟨fun h => ?_, fun h hr => ?_⟩,
    fun cause u b hc hu hb => ⟨fun h => closeAtOnce_not_open h cause, fun w hm hw => closeAtOnce_waiting hc hu hm hw,
      fun id num hm hid hr => ?_⟩⟩
  · rcases Nat.lt_or_eq_of_le hlen with hlt | heq
    · exact capturePick_pool_full h hw hn hlt (hfull.resolve_left hlt.ne) hno onset
    · exact capturePick_full h hw hn (by rw [directoryRoom, if_neg (Nat.not_lt.2 heq.ge), reclaim_none hno]) onset
  · refine capturePick_begins h hw hn hd ?_ onset
    rw [pageRoom, (nextFree_eq_none_iff s).2 hp, reclaim_first he]
    rfl
  · refine capturePick_begins h hw hn hd ?_ onset
    rw [pageRoom, (nextFree_eq_some_iff s p).2 hp]
    rfl
  · rw [captureTriggerEnd, h]
    rfl
  · rw [captureTriggerEnd, h]
    rfl
  · rw [announceDisplaced, if_neg fun hc => h (by simpa [captureOpen_iff] using hc)]
  · rw [announceDisplaced, if_pos (by simpa [captureOpen_iff] using ⟨h, hr⟩), hcause]
  · have hclose : closeAtOnce s cause = closeRecord s cause := by rw [closeAtOnce, if_pos hm]
    obtain ⟨hcap, hrefused⟩ := givenBack_rm u id b.page
    have hucap : u.rm.cap = s.rm.cap := by rw [hu]; rfl
    have hurefused : u.rm.refused = s.rm.refused := by rw [hu]; rfl
    rw [hclose]
    refine ⟨fun hbusy hsets => ?_, fun hbusy hsets v hv => ⟨fun h0 => ?_, fun hpos => ?_⟩, fun hbusy hf => ?_,
      fun hbusy hf => ?_⟩
    · rw [closeRecord_eq hc hu hb rfl hid, hbusy, if_neg Bool.false_ne_true, if_neg hsets]
    · rw [closeRecord_eq hc hu hb hv hid, hbusy, if_neg Bool.false_ne_true, if_pos hsets, if_pos h0, leftOut, hv, hcap,
        hrefused, hucap, hurefused]
    · rw [closeRecord_eq hc hu hb hv hid, hbusy, if_neg Bool.false_ne_true, if_pos hsets, if_neg hpos.ne', hv, hcap,
        hucap]
    · rw [closeRecord_eq hc hu hb rfl hid, if_pos hbusy, if_pos ((programInFlight_iff s).2 hf), hr]
      rfl
    · have hnot : ¬s.programInFlight = true := by simpa [programInFlight_iff] using hf
      rw [closeRecord_eq hc hu hb rfl hid, if_pos hbusy, if_neg hnot]

end Sys2Proof.Proofs

/-! SUPPORT. The Profile Loader: the read that is used, the fields at their places, the ranges and the orderings that every
command keeps, and the counter of the clamped fields (R57, R83, R131, R152, R171, R210, R211, R216). -/

namespace Sys2Proof.Machine

/-! ### The profile in force (R57, R83, R131, R152, R171, R211) -/

/-- The adjustments run in order, whatever the count of those that change a field. -/
theorem applyAdjustments_fst (fs : List (Profile → Profile)) (p : Profile) (n : Nat) :
    (applyAdjustments fs p n).1 = fs.foldl (fun q f => f q) p := by
  induction fs generalizing p n with
  | nil => rfl
  | cons f rest ih => exact ih (f p) _

/-- The nine adjustments one after another are the ordering of a profile. -/
theorem clampProfile_fst (p : Profile) : (clampProfile p).1 = ordered (clampRanges p) :=
  applyAdjustments_fst _ _ _

theorem rateOf_cases (code : Nat) : rateOf code = 50 ∨ rateOf code = 100 ∨ rateOf code = 200 := by
  unfold rateOf; split <;> simp

/-- The ranges and the adjustments together meet every range and ordering; pre_s keeps its least value, since the ring
holds 20 s at the highest rate (R131). -/
theorem ordered_clampRanges_inv (s : State) (p : Profile) : profileInv { s with profile := ordered (clampRanges p) } := by
  refine ⟨?_, ?_, ?_, ?_, ?_, ?_, ?_, ?_, ?_⟩
  · simp only [ordered, clampRanges, clampNat, clampInt]; omega
  · simp only [ordered, clampRanges, abs_le, clampInt]; omega
  · simp only [ordered, clampRanges, clampNat]; omega
  · simp only [ordered, clampRanges, clampNat]; omega
  · simp only [ordered, clampRanges, clampNat]
    rcases rateOf_cases (max 0 (min 2 p.rateCode)) with h | h | h <;> rw [h] <;> omega
  · simp only [ordered, clampRanges, clampNat, clampInt]; omega
  · simp only [ordered, clampRanges, clampInt]; omega
  · simp only [ordered, clampRanges, clampInt]; omega
  · simp only [ordered, clampRanges, clampNat, clampInt]; omega

/-- The invariant speaks of the profile alone. -/
theorem profileInv_congr {s t : State} (h : t.profile = s.profile) (hs : profileInv s) : profileInv t := by
  unfold profileInv at *
  rwa [h]

/-- Step 1 leaves a profile that was clamped and ordered, that of the read or that of listen-only (R211, R212). -/
theorem loadProfile_ordered (s : State) (reads : List (Option (List Byte))) :
    ∃ p, (loadProfile s reads).profile = ordered (clampRanges p) := by
  unfold loadProfile
  split
  · exact ⟨_, clampProfile_fst _⟩
  · exact ⟨_, clampProfile_fst _⟩

/-- What a command can do to the profile: a start resets it, step 1 leaves an ordered one, and all else leaves it alone. -/
theorem Effect.profile_cases {s t : State} (h : Effect s t) :
    t.profile = s.profile ∨ t.profile = Profile.initial ∨ ∃ p, t.profile = ordered (clampRanges p) := by
  cases h with
  | start => exact .inr (.inl rfl)
  | profileRead reads => exact .inr (.inr (loadProfile_ordered s reads))
  | readingQuery q code work hw => exact .inl (takeQuery_profile s q _ fun u => carryOut_profile u q code work (by rw [hw]))
  | _ => exact .inl (by simp)

/-! ### The reads (R210) -/

theorem profileCheck_iff (bs : List Byte) : profileCheck bs = true ↔ crcGood bs := beq_iff_eq

/-- The Loader takes the read at which it stops. -/
theorem goodRead_of_stopsAt {reads : List (Option (List Byte))} {bs : List Byte} (h : stopsAt reads bs) :
    goodRead reads = some bs := by
  obtain ⟨before, after, rfl, hgood, hbad⟩ := h
  induction before with
  | nil => exact if_pos ((profileCheck_iff bs).2 hgood)
  | cons r rest ih =>
    have hrest := ih fun b hb => hbad b (List.mem_cons_of_mem _ hb)
    cases r with
    | none => exact hrest
    | some b => exact (if_neg (mt (profileCheck_iff b).1 (hbad b List.mem_cons_self))).trans hrest

theorem identifierOf_station {bs : List Byte} (h1 : 1 ≤ idByte bs) (h2 : idByte bs ≤ 239) :
    identifierOf bs = some (idByte bs) := by
  unfold identifierOf
  exact if_pos (Bool.and_eq_true_iff.2 ⟨decide_eq_true h1, decide_eq_true h2⟩)

/-! ### The fields at their places (R216) -/

/-- A byte within the read begins what is left from its place on. -/
theorem drop_eq_byte_cons {bs : List Byte} {off : Nat} (h : off < bs.length) :
    bs.drop off = bs.getD off 0 :: bs.drop (off + 1) := by
  rw [List.getD_eq_getElem _ _ h]
  exact List.drop_eq_getElem_cons h

theorem fieldU_one (bs : List Byte) (off : Nat) : fieldU bs 1 off = byteAt bs off := by
  unfold fieldU byteAt ofBytes
  rcases Nat.lt_or_ge off bs.length with h | h
  · rw [drop_eq_byte_cons h]
    simp only [List.take_succ_cons, List.take_zero, List.foldl_cons, List.foldl_nil]
    omega
  · rw [List.drop_eq_nil_of_le h, List.getD_eq_default _ _ h]
    rfl

theorem fieldU_two {bs : List Byte} {off : Nat} (h : off + 1 < bs.length) : fieldU bs 2 off = wordAt bs off := by
  unfold fieldU wordAt byteAt ofBytes
  rw [drop_eq_byte_cons (by omega : off < bs.length), drop_eq_byte_cons h]
  simp only [List.take_succ_cons, List.take_zero, List.foldl_cons, List.foldl_nil]
  omega

theorem fieldI_eq {bs : List Byte} {off : Nat} (h : off + 1 < bs.length) : fieldI bs off = signedAt bs off := by
  unfold fieldI signedAt signed16
  rw [fieldU_two h]

/-- Each field is read from its place. -/
theorem rawProfile_eq {bs : List Byte} (h : bs.length = 96) : rawProfile bs = asRead bs := by
  have hword : ∀ off < 95, fieldU bs 2 off = wordAt bs off := fun off hoff => fieldU_two (by omega)
  have hsigned : ∀ off < 95, fieldI bs off = signedAt bs off := fun off hoff => fieldI_eq (by omega)
  unfold rawProfile asRead optionBit
  simp only [fieldU_one, hword, hsigned, Nat.reduceLT, mul_comm, pow_zero, Nat.div_one, pow_one, beq_eq_decide]

theorem wordAt_lt (bs : List Byte) (off : Nat) : wordAt bs off < 65536 := by
  unfold wordAt byteAt
  have h0 := (bs.getD off 0).isLt
  have h1 := (bs.getD (off + 1) 0).isLt
  omega

/-! ### Ranges and the count of the clamped fields (R211) -/

/-- The base code has two bits and lta_floor two bytes, so that no range changes them. -/
theorem clampRanges_eq {p : Profile} (hb : p.baseCode ≤ 3) (hl : p.ltaFloor ≤ 65535) : clampRanges p = inRange p := by
  have h1 : clampNat 0 3 p.baseCode = p.baseCode := by simp only [clampNat]; omega
  have h2 : clampNat 0 65535 p.ltaFloor = p.ltaFloor := by simp only [clampNat]; omega
  unfold clampRanges
  rw [h1, h2]
  rfl

/-- Two profiles that agree in the flags, the base code and lta_floor differ in the fields that a range or an ordering can
change. -/
theorem fieldsChanged_eq {p q : Profile} (h1 : q.ppsEnable = p.ppsEnable) (h2 : q.uplinkRole = p.uplinkRole)
    (h3 : q.baseCode = p.baseCode) (h4 : q.ltaFloor = p.ltaFloor) : fieldsChanged p q = fieldChanges p q := by
  unfold fieldsChanged fieldChanges fieldsOf
  rw [← List.countP_eq_length_filter, h1, h2, h3, h4]
  simp only [bne_self_eq_false, List.cons_append, List.nil_append, List.zip_cons_cons, List.zip_nil_left, List.countP_cons,
    List.countP_nil, id_eq, bne_iff_ne, decide_eq_true_eq, ne_eq, Nat.cast_inj, Bool.false_eq_true, if_false, add_zero]

/-! ### The count of the ordering adjustments (R211) -/

theorem adjustLta_eq_self (p : Profile) : adjustLta p = p ↔ p.ltaShift = max p.ltaShift (p.staShift + 3) :=
  ⟨fun h => congrArg Profile.ltaShift h.symm, fun h => by unfold adjustLta; rw [← h]⟩

theorem adjustOff_eq_self (p : Profile) : adjustOff p = p ↔ p.offRatio = min p.offRatio (p.onRatio - 1) :=
  ⟨fun h => congrArg Profile.offRatio h.symm, fun h => by unfold adjustOff; rw [← h]⟩

theorem adjustFloor_eq_self (p : Profile) : adjustFloor p = p ↔ p.kFloor = min p.kFloor p.kVotes :=
  ⟨fun h => congrArg Profile.kFloor h.symm, fun h => by unfold adjustFloor; rw [← h]⟩

theorem adjustPre_eq_self (p : Profile) : adjustPre p = p ↔ p.preS = min p.preS (4096 / rateOf p.rateCode) :=
  ⟨fun h => congrArg Profile.preS h.symm, fun h => by unfold adjustPre; rw [← h]⟩

theorem adjustShed2_eq_self (p : Profile) : adjustShed2 p = p ↔ p.shed2 = min p.shed2 (p.shed1 - 1) :=
  ⟨fun h => congrArg Profile.shed2 h.symm, fun h => by unfold adjustShed2; rw [← h]⟩

theorem adjustShed3_eq_self (p : Profile) : adjustShed3 p = p ↔ p.shed3 = min p.shed3 (p.shed2 - 1) :=
  ⟨fun h => congrArg Profile.shed3 h.symm, fun h => by unfold adjustShed3; rw [← h]⟩

theorem adjustCrit_eq_self (p : Profile) : adjustCrit p = p ↔ p.vCrit = min p.vCrit (p.vLow - 1) :=
  ⟨fun h => congrArg Profile.vCrit h.symm, fun h => by unfold adjustCrit; rw [← h]⟩

theorem adjustMaxT_eq_self (p : Profile) : adjustMaxT p = p ↔ p.chargeMaxT = max p.chargeMaxT (p.chargeMinT + 30) :=
  ⟨fun h => congrArg Profile.chargeMaxT h.symm, fun h => by unfold adjustMaxT; rw [← h]⟩

theorem adjustCutout_eq_self (p : Profile) :
    adjustCutout p = p ↔ p.cutoutT = max p.cutoutT (max (p.chargeMinT + 20) p.maintT + p.hyst + 10) :=
  ⟨fun h => congrArg Profile.cutoutT h.symm, fun h => by unfold adjustCutout; rw [← h]⟩

/-- What one field of two profiles adds to the number of those in which they differ. -/
def differs (a b : Int) : Nat := if a = b then 0 else 1

@[simp] theorem differs_self (a : Int) : differs a a = 0 := if_pos rfl

theorem countP_differs (a b : Int) (l : List (Int × Int)) :
    ((a, b) :: l).countP (fun x => decide (x.1 ≠ x.2)) = l.countP (fun x => decide (x.1 ≠ x.2)) + differs a b := by
  rw [List.countP_cons]
  unfold differs
  by_cases h : a = b <;> simp [h]

/-- An adjustment is counted where it changes its field. -/
theorem countInt_eq {f : Profile → Profile} {p : Profile} {a b : Int} (h : f p = p ↔ a = b) (n : Nat) :
    (if f p = p then n else n + 1) = n + differs a b := by
  unfold differs
  by_cases hab : a = b <;> simp [h, hab]

theorem countNat_eq {f : Profile → Profile} {p : Profile} {a b : Nat} (h : f p = p ↔ a = b) (n : Nat) :
    (if f p = p then n else n + 1) = n + differs a b :=
  countInt_eq (h.trans Nat.cast_inj.symm) n

/-- The ordering of a profile differs from it in the fields that its nine adjustments change, one field each. -/
theorem applyAdjustments_count (q : Profile) (n : Nat) :
    (applyAdjustments adjustments q n).2 = n + fieldChanges q (ordered q) := by
  have hfields : fieldChanges q (ordered q) =
      differs q.cutoutT (ordered q).cutoutT + differs q.chargeMaxT (ordered q).chargeMaxT +
        differs q.vCrit (ordered q).vCrit + differs q.shed3 (ordered q).shed3 + differs q.shed2 (ordered q).shed2 +
        differs q.preS (ordered q).preS + differs q.kFloor (ordered q).kFloor + differs q.offRatio (ordered q).offRatio +
        differs q.ltaShift (ordered q).ltaShift := by
    unfold fieldChanges fieldsOf ordered
    simp only [List.cons_append, List.nil_append, List.zip_cons_cons, List.zip_nil_left, countP_differs, differs_self,
      List.countP_nil, add_zero, zero_add]
  simp only [adjustments, applyAdjustments, countNat_eq (adjustLta_eq_self _), countNat_eq (adjustOff_eq_self _),
    countNat_eq (adjustFloor_eq_self _), countNat_eq (adjustPre_eq_self _), countNat_eq (adjustShed2_eq_self _),
    countNat_eq (adjustShed3_eq_self _), countInt_eq (adjustCrit_eq_self _), countInt_eq (adjustMaxT_eq_self _),
    countInt_eq (adjustCutout_eq_self _)]
  rw [hfields]
  simp only [adjustLta, adjustOff, adjustFloor, adjustPre, adjustShed2, adjustShed3, adjustCrit, adjustMaxT, ordered]
  omega

/-- The profile of a read and the counter of its clamped fields (R211). -/
theorem clampProfile_rawProfile {bs : List Byte} (h : bs.length = 96) :
    clampProfile (rawProfile bs) = (ordered (laidOut bs),
      min 255 (fieldChanges (asRead bs) (laidOut bs) + fieldChanges (laidOut bs) (ordered (laidOut bs)))) := by
  have hb : (asRead bs).baseCode ≤ 3 := Nat.le_of_lt_succ (Nat.mod_lt _ (by decide))
  have hl : (asRead bs).ltaFloor ≤ 65535 := Nat.le_of_lt_succ (wordAt_lt bs 23)
  have hranges : clampRanges (asRead bs) = laidOut bs := clampRanges_eq hb hl
  have hcount : fieldsChanged (asRead bs) (laidOut bs) = fieldChanges (asRead bs) (laidOut bs) :=
    fieldsChanged_eq rfl rfl rfl rfl
  rw [rawProfile_eq h, ← hcount, ← applyAdjustments_count, ← hranges, ← clampProfile_fst]
  rfl

/-- A good read with a station identifier is used (R210). -/
theorem loadProfile_used {reads : List (Option (List Byte))} {bs : List Byte} (s : State) (h : stopsAt reads bs)
    (h1 : 1 ≤ idByte bs) (h2 : idByte bs ≤ 239) :
    loadProfile s reads = { s with
      profile := (clampProfile (rawProfile bs)).1, clamped := (clampProfile (rawProfile bs)).2
      ownId := some (idByte bs), listenOnly := false, listenCause := .none } := by
  have hid := identifierOf_station h1 h2
  have hcause : listenCauseOf reads = .none := by
    unfold listenCauseOf
    rw [goodRead_of_stopsAt h]
    simp only [hid, Option.isSome_some, if_true]
  unfold loadProfile
  rw [goodRead_of_stopsAt h, hcause, ← hid]

end Sys2Proof.Machine

namespace Sys2Proof.Proofs

open Sys2Proof.Machine

/-- Settles O10: the profile in force is the reset one, or one that step 1 has clamped and ordered. -/
theorem profileStaysInRange : Obligations.ProfileStaysInRange := by
  obtain ⟨-, -, -, -, -, -, -, -, -, -, -, -, hreset⟩ := resetMeetsInvariants
  intro s t hs h
  rcases step_effect h with rfl | ⟨rest, he⟩
  · exact hs
  · rcases he.profile_cases with hp | hp | ⟨p, hp⟩
    · exact profileInv_congr hp hs
    · exact profileInv_congr (s := State.reset) hp hreset
    · exact profileInv_congr hp (ordered_clampRanges_inv s p)

/-- Settles O15: the read at which the Loader stops is used, clamped and ordered as its fields stand. -/
theorem profileIsUsed : Obligations.ProfileIsUsed := by
  intro s r1 r2 r3 bs hphase hstop hlen h1 h2
  have hstep : exec (.profileRead r1 r2 r3) s = .next { loadProfile s [r1, r2, r3] with phase := .step2 } := by
    unfold exec execProfileRead doWhen
    rw [hphase]
    rfl
  rw [hstep, loadProfile_used s hstop h1 h2, clampProfile_rawProfile hlen]

end Sys2Proof.Proofs

/-! SUPPORT. A channel's step in each of its states, and the Detector's turning off and on (R62 to R71, R74, R79). -/

namespace Sys2Proof.Machine

/-! ### Power (R62, R71, R79) -/

/-- A channel without power goes OFF, and writes the last-trigger record where it is in trigger. -/
theorem ChanDet.powerOff_wentOff (d : ChanDet) (t : ArrayTime) : wentOff d t (d.powerOff t) := by
  refine ⟨_, rfl, fun h => ?_, fun r h hr => ?_⟩
  · rw [voting_eq_inTrigger, h]
    rfl
  · rw [voting_eq_inTrigger, h, hr]
    rfl

/-- The stamp is in the last-trigger record alone: a channel outside a trigger goes OFF alike at each. -/
theorem ChanDet.powerOff_wentOff_of_idle {d : ChanDet} (h : inTrigger d = false) (t l : ArrayTime) :
    wentOff d l (d.powerOff t) := by
  obtain ⟨last, hafter, hidle, -⟩ := d.powerOff_wentOff t
  exact ⟨last, hafter, hidle, fun r hr => absurd hr (by rw [h]; exact Bool.false_ne_true)⟩

/-! ### A settled word of a powered channel, state by state (R63 to R68) -/

section
variable {d : ChanDet} {p : Profile} {grade : Nat} {t : ArrayTime} {w : SetWord} {a : Averages} {e : Int} {r : RunMarks}

theorem ChanDet.step_unpowered (hp : w.powered = false) : d.step p grade t w = (d.powerOff t, false) := by
  unfold ChanDet.step
  rw [hp]
  rfl

theorem ChanDet.step_unsettled (hp : w.powered = true) (hs : w.settling = true) : d.step p grade t w =
    ({ state := .settling, avg := none, warmup := 0, onRun := 0, offRun := 0, run := none, last := d.last }, false) := by
  unfold ChanDet.step
  rw [hp, hs]
  rfl

/-- The loading set (R64). -/
theorem ChanDet.step_loads (hp : w.powered = true) (hs : w.settling = false) (h : d.state = .off ∨ d.state = .settling) :
    d.step p grade t w = (d.load p w.sample, false) := by
  rw [ChanDet.step_settled hp hs]
  rcases h with h | h <;> rw [h]

/-- A set of WARMUP before its last (R64). -/
theorem ChanDet.warm_goesOn (ha : averaged p d.averages a e w.sample false) (hw : 1 < d.warmup) :
    d.warm p w.sample = { d with avg := some a, warmup := d.warmup - 1 } := by
  obtain ⟨rfl, -⟩ := (averaged_iff ..).1 ha
  exact if_neg (Nat.sub_ne_zero_of_lt hw)

/-- A set in QUIET that is no on set leaves the averages alone behind it (R65). -/
theorem ChanDet.quietSet_stays (ha : averaged p d.averages a e w.sample false) (hon : ¬onSet p a) :
    d.quietSet p grade t w = { d with avg := some a } := by
  obtain ⟨rfl, -⟩ := (averaged_iff ..).1 ha
  exact if_neg (mt (onSet_iff p _).1 hon)

/-- An on set in QUIET begins a run (R65, R70). -/
theorem ChanDet.quietSet_begins (ha : averaged p d.averages a e w.sample false) (hon : onSet p a) :
    d.quietSet p grade t w = { d with
      state := if p.onHold ≤ 1 then .triggered else .pending
      avg := some a, onRun := 1, offRun := 0, run := some ⟨t, grade, e, w.clipped, w.stepped⟩ } := by
  obtain ⟨rfl, rfl⟩ := (averaged_iff ..).1 ha
  exact if_pos ((onSet_iff p _).2 hon)

/-- An on set in PENDING goes on with the run (R66, R70). -/
theorem ChanDet.pendingSet_goesOn (ha : averaged p d.averages a e w.sample false) (hr : d.run = some r) (hon : onSet p a) :
    d.pendingSet p w = { d with
      state := if p.onHold ≤ d.onRun + 1 then .triggered else .pending
      avg := some a, onRun := d.onRun + 1, run := some (r.renew e w) } := by
  obtain ⟨rfl, rfl⟩ := (averaged_iff ..).1 ha
  refine (if_pos ((onSet_iff p _).2 hon)).trans ?_
  rw [hr]
  rfl

/-- A set in PENDING that is no on set discards the run (R66). -/
theorem ChanDet.pendingSet_quiets (ha : averaged p d.averages a e w.sample false) (hon : ¬onSet p a) :
    d.pendingSet p w = { d with state := .quiet, avg := some a, onRun := 0, offRun := 0, run := none } := by
  obtain ⟨rfl, -⟩ := (averaged_iff ..).1 ha
  exact if_neg (mt (onSet_iff p _).1 hon)

/-- A set in trigger before max_trigger is put to the off and on tests, with the run marks renewed (R67 to R70). -/
theorem ChanDet.triggerSet_tests (ha : averaged p d.averages a e w.sample true) (hr : d.run = some r)
    (ht : diffUs t r.onset < (p.maxTrigger : Int) * 1000000) :
    d.triggerSet p t w = (({ d with avg := some a } : ChanDet).votingSet p t a w, false) := by
  obtain ⟨rfl, -⟩ := (averaged_iff ..).1 ha
  exact if_neg (mt (ChanDet.tooLong_iff hr _).1 (Int.not_le.2 ht))

/-- An off set that does not end the trigger counts toward off_hold (R67, R68). -/
theorem ChanDet.triggerSet_counts (ha : averaged p d.averages a e w.sample true) (hr : d.run = some r)
    (ht : diffUs t r.onset < (p.maxTrigger : Int) * 1000000) (hoff : offSet p a) (hh : d.offRun + 1 < p.offHold) :
    d.triggerSet p t w = ({ d with
      state := .ending, avg := some a, offRun := d.offRun + 1, run := some (r.renew e w) }, false) := by
  rw [ChanDet.triggerSet_tests ha hr ht]
  obtain ⟨-, rfl⟩ := (averaged_iff ..).1 ha
  unfold ChanDet.votingSet
  dsimp only
  rw [if_pos ((offSet_iff p _).2 hoff), if_neg (Nat.not_le.2 hh), hr]
  rfl

/-- An on set in ENDING returns to TRIGGERED (R68). -/
theorem ChanDet.triggerSet_returns (ha : averaged p d.averages a e w.sample true) (hr : d.run = some r)
    (ht : diffUs t r.onset < (p.maxTrigger : Int) * 1000000) (hoff : ¬offSet p a) (hend : d.state = .ending)
    (hon : onSet p a) :
    d.triggerSet p t w = ({ d with state := .triggered, avg := some a, offRun := 0, run := some (r.renew e w) }, false) := by
  rw [ChanDet.triggerSet_tests ha hr ht]
  obtain ⟨-, rfl⟩ := (averaged_iff ..).1 ha
  unfold ChanDet.votingSet
  dsimp only
  rw [if_neg (mt (offSet_iff p _).1 hoff), if_pos (by rw [hend, (onSet_iff p a).2 hon]; rfl), hr]
  rfl

/-- A set in trigger that is no off set, and no on set in ENDING, ends a row of off sets (R67, R68). -/
theorem ChanDet.triggerSet_stays (ha : averaged p d.averages a e w.sample true) (hr : d.run = some r)
    (ht : diffUs t r.onset < (p.maxTrigger : Int) * 1000000) (hoff : ¬offSet p a) (hon : ¬(d.state = .ending ∧ onSet p a)) :
    d.triggerSet p t w = ({ d with avg := some a, offRun := 0, run := some (r.renew e w) }, false) := by
  rw [ChanDet.triggerSet_tests ha hr ht]
  obtain ⟨-, rfl⟩ := (averaged_iff ..).1 ha
  have hreturn : ¬(decide (d.state = .ending) && a.onSet p) = true := by
    rwa [Bool.and_eq_true, decide_eq_true_iff, onSet_iff]
  unfold ChanDet.votingSet
  dsimp only
  rw [if_neg (mt (offSet_iff p _).1 hoff), if_neg hreturn, hr]
  rfl

end

/-! ### The Detector as a whole (R74, R79) -/

/-- The running flag as a set and the Detector's turning on form it (R74). -/
theorem running_iff (s : State) (chan : PerChan ChanDet) (vote : Option Nat) :
    runningFlag s.detectorOn chan vote = true ↔ detectorIsOn s ∧ ∃ v, vote = some v ∧ v ≤ chan.count couldVote :=
  (runningFlag_iff _ _ _).trans (and_congr_left' (detectorOn_iff s))

/-- The Detector turned off, with the stamp of the last set processed (R73, R79). -/
theorem detectorOff_eq (s : State) : detectorOff s =
    let t := s.det.lastSet.getD timeZero
    let u := { s with det := { s.det with
      chan := PerChan.ofFn (fun c => (s.det.chan.get c).powerOff t), trigger := false, running := false } }
    if s.det.trigger = true then captureTriggerEnd u t else u := rfl

end Sys2Proof.Machine

namespace Sys2Proof.Proofs

open Sys2Proof.Machine

/-- Settles O47: the word's power and settling, then the channel's state; and the two switches of the Detector. -/
theorem channelsStepAndSwitch : Obligations.ChannelsStepAndSwitch := by
  refine ⟨fun p d grade t w a e hav => ⟨fun hp => ⟨_, ChanDet.step_unpowered hp, d.powerOff_wentOff t⟩,
    ChanDet.step_unsettled, fun hp hs => ⟨ChanDet.step_loads hp hs, fun h => ?_, fun h => ?_, fun r _ hr hrenewed => ?_⟩⟩,
    fun s l => ⟨fun hl => ?_, _, rfl, running_iff s _ _⟩⟩
  · rw [inTrigger, h] at hav
    rw [ChanDet.step_of_warmup hp hs h]
    exact ⟨fun hw => congrArg (·, false) (ChanDet.warm_goesOn hav hw),
      fun hw => congrArg (·, false) (ChanDet.warm_last hav hw)⟩
  · rw [inTrigger, h] at hav
    rw [ChanDet.step_of_quiet hp hs h]
    exact ⟨fun hon => congrArg (·, false) (ChanDet.quietSet_stays hav hon),
      fun hon => congrArg (·, false) (ChanDet.quietSet_begins hav hon)⟩
  · subst hrenewed
    refine ⟨fun h => ?_, fun h => ?_⟩
    · rw [inTrigger, h] at hav
      rw [ChanDet.step_of_pending hp hs h]
      exact ⟨fun hon => congrArg (·, false) (ChanDet.pendingSet_goesOn hav hr hon),
        fun hon => congrArg (·, false) (ChanDet.pendingSet_quiets hav hon)⟩
    · rw [h] at hav
      rw [ChanDet.step_inTrigger hp hs h]
      exact ⟨ChanDet.triggerSet_tooLong hav hr, fun ht => ⟨ChanDet.triggerSet_ends hav hr ht,
        ChanDet.triggerSet_counts hav hr ht, ChanDet.triggerSet_returns hav hr ht, ChanDet.triggerSet_stays hav hr ht⟩⟩
  · refine ⟨PerChan.ofFn (fun c => (s.det.chan.get c).powerOff (s.det.lastSet.getD timeZero)), _, fun c => ?_, rfl,
      fun ht => ?_, fun ht => ?_⟩
    · rw [get_ofFn]
      rcases hl with hl | ⟨-, hidle⟩
      · rw [hl]
        exact ChanDet.powerOff_wentOff _ _
      · exact ChanDet.powerOff_wentOff_of_idle (hidle c) _ _
    · rw [detectorOff_eq, ht]
      rfl
    · have hstamp : s.det.lastSet = some l := hl.resolve_right fun h => by simp [ht] at h
      rw [detectorOff_eq, ht, hstamp]
      rfl

end Sys2Proof.Proofs

/-! SUPPORT. A sample set at the Detector: the vote and the station trigger that it forms, and the station pick of the
earliest run (R69, R72 to R78). -/

namespace Sys2Proof.Machine

/-! ### Values per channel -/

theorem perChan_ext {α : Type} {p q : PerChan α} (h : ∀ c, p.get c = q.get c) : p = q := by
  obtain ⟨z, n, e⟩ := p
  obtain ⟨z', n', e'⟩ := q
  exact PerChan.mk.injEq .. ▸ ⟨h .z, h .n, h .e⟩

theorem count_ofFn {α : Type} (f : Channel → α) (g : α → Bool) :
    (PerChan.ofFn f).count g = [Channel.z, .n, .e].countP (fun c => g (f c)) := by
  rw [List.countP_cons, List.countP_cons, List.countP_cons, List.countP_nil]
  change (if g (f .z) = true then 1 else 0) + (if g (f .n) = true then 1 else 0) + (if g (f .e) = true then 1 else 0) = _
  omega

/-! ### What a set forms (R69, R72 to R74) -/

/-- The state after the channels' steps, with the vote, the station trigger and the running flag that they form. -/
def setFormed (s : State) (x : SampleSet) : State := formTrigger (stepChannels s x) x

/-- The channels after a set. -/
def channelsAfter (s : State) (x : SampleSet) : PerChan ChanDet :=
  PerChan.ofFn (fun c => ((s.det.chan.get c).step s.profile s.tb.grade x.stamp (x.words.get c)).1)

theorem setFormed_eq (s : State) (x : SampleSet) : setFormed s x = { s with det := (setFormed s x).det } := rfl

theorem setFormed_chan (s : State) (x : SampleSet) : (setFormed s x).det.chan = channelsAfter s x := by
  refine perChan_ext fun c => ?_
  simp [setFormed, formTrigger, stepChannels, channelsAfter]

theorem setFormed_longTrig (s : State) (x : SampleSet) : (setFormed s x).det.longTrig = min (s.det.longTrig +
    [Channel.z, .n, .e].countP (fun c => ((s.det.chan.get c).step s.profile s.tb.grade x.stamp (x.words.get c)).2)) 65535 :=
  congrArg (fun k => bumpBy k s.det.longTrig) (count_ofFn _ _)

/-- The vote is lowered to 1 at shed level 2; no more than three channels could vote at any other (R72). -/
theorem effectiveVote_eq {p : Profile} (h : p.chanVote ≤ 3) (shed : Nat) (words : PerChan SetWord) :
    effectiveVote p shed words = min (min p.chanVote (words.count (·.powered))) (if shed = 2 then 1 else 3) := by
  unfold effectiveVote
  dsimp only
  split
  · rfl
  · omega

theorem setFormed_trigger (s : State) (x : SampleSet) : (setFormed s x).det.trigger = true ↔
    detectorIsOn s ∧ effectiveVote s.profile s.bat.shed x.words ≤ (channelsAfter s x).count inTrigger := by
  rw [← setFormed_chan, ← detectorOn_iff]
  exact Bool.and_eq_true_iff.trans (and_congr_right' decide_eq_true_iff)

theorem setFormed_running (s : State) (x : SampleSet) : (setFormed s x).det.running = true ↔
    detectorIsOn s ∧ effectiveVote s.profile s.bat.shed x.words ≤ (channelsAfter s x).count couldVote := by
  rw [← setFormed_chan, ← detectorOn_iff]
  exact Bool.and_eq_true_iff.trans (and_congr_right' decide_eq_true_iff)

/-! ### The earliest run (R77) -/

theorem votingRuns_eq (chan : PerChan ChanDet) :
    votingRuns chan = [chan.z, chan.n, chan.e].filterMap (fun c => if inTrigger c = true then c.run else none) := rfl

/-- The earliest run is one of the runs. -/
theorem earliestRun_mem {runs : List RunMarks} {q : RunMarks} (h : earliestRun runs = some q) : q ∈ runs := by
  induction runs generalizing q with
  | nil => cases h
  | cons r rest ih =>
    unfold earliestRun at h
    split at h
    · cases h
      exact List.mem_cons_self
    · split at h
      · cases h
        exact List.mem_cons_of_mem _ (ih ‹_›)
      · cases h
        exact List.mem_cons_self

/-- Of runs behind one that none of them is ahead of, that one is the earliest. -/
theorem earliestRun_cons {first : RunMarks} {b : List RunMarks} (h : ∀ r ∈ b, usOf first.onset ≤ usOf r.onset) :
    earliestRun (first :: b) = some first := by
  unfold earliestRun
  split
  · rfl
  · have hle := h _ (earliestRun_mem ‹_›)
    exact if_neg (by unfold diffUs; omega)

/-- The earliest run is later than each before it in the order Z, N, E, and no later than each behind it. -/
theorem earliestRun_eq {a b : List RunMarks} {first : RunMarks} (ha : ∀ r ∈ a, usOf first.onset < usOf r.onset)
    (hb : ∀ r ∈ b, usOf first.onset ≤ usOf r.onset) : earliestRun (a ++ first :: b) = some first := by
  induction a with
  | nil => exact earliestRun_cons hb
  | cons r rest ih =>
    have hlt := ha r List.mem_cons_self
    rw [List.cons_append, earliestRun, ih fun q hq => ha q (List.mem_cons_of_mem _ hq)]
    exact if_pos (by unfold diffUs; omega)

/-! ### The amplitude class (R77) -/

/-- The greatest of a base and the peaks of some runs bounds them all, and is the base or one of the peaks. -/
theorem foldl_peak_spec (runs : List RunMarks) (m : Int) :
    m ≤ runs.foldl (fun m r => max m r.peak) m ∧ (∀ r ∈ runs, r.peak ≤ runs.foldl (fun m r => max m r.peak) m) ∧
      (runs.foldl (fun m r => max m r.peak) m = m ∨ ∃ r ∈ runs, runs.foldl (fun m r => max m r.peak) m = r.peak) := by
  induction runs generalizing m with
  | nil => simp
  | cons q rest ih =>
    obtain ⟨hbase, hpeaks, hone⟩ := ih (max m q.peak)
    rw [List.foldl_cons]
    refine ⟨(le_max_left _ _).trans hbase, ?_, ?_⟩
    · intro r hr
      rcases List.mem_cons.1 hr with rfl | hr
      · exact (le_max_right _ _).trans hbase
      · exact hpeaks r hr
    · rcases hone with hone | ⟨r, hr, hone⟩
      · rcases max_choice m q.peak with hm | hm
        · exact .inl (hone.trans hm)
        · exact .inr ⟨q, List.mem_cons_self, hone.trans hm⟩
      · exact .inr ⟨r, List.mem_cons_of_mem _ hr, hone⟩

theorem greatestPeak_nonneg (runs : List RunMarks) : 0 ≤ greatestPeak runs := (foldl_peak_spec runs 0).1

/-- Every peak lies below the next class. -/
theorem peak_lt_class (runs : List RunMarks) :
    ∀ r ∈ runs, r.peak < 2 ^ (amplitudeClass (greatestPeak runs) + 1) := by
  intro r hr
  have hle : r.peak ≤ greatestPeak runs := (foldl_peak_spec runs 0).2.1 r hr
  have hlt : (greatestPeak runs).toNat < 2 ^ (amplitudeClass (greatestPeak runs) + 1) := Nat.lt_log2_self
  have hcast := Int.toNat_of_nonneg (greatestPeak_nonneg runs)
  zify at hlt
  omega

/-- A class above 0 is that of one of the peaks. -/
theorem class_le_peak (runs : List RunMarks) : (∃ r ∈ runs, 2 ^ amplitudeClass (greatestPeak runs) ≤ r.peak) ∨
    amplitudeClass (greatestPeak runs) = 0 := by
  obtain ⟨-, -, hone⟩ := foldl_peak_spec runs 0
  have hcast := Int.toNat_of_nonneg (greatestPeak_nonneg runs)
  rcases Nat.eq_zero_or_pos (greatestPeak runs).toNat with h0 | hpos
  · exact .inr (by unfold amplitudeClass; rw [h0]; exact Nat.log2_zero)
  · have hle : 2 ^ amplitudeClass (greatestPeak runs) ≤ (greatestPeak runs).toNat := Nat.log2_self_le hpos.ne'
    zify at hle
    rcases hone with hone | ⟨r, hr, hone⟩
    · have hzero : greatestPeak runs = 0 := hone
      omega
    · have hpeak : greatestPeak runs = r.peak := hone
      exact .inl ⟨r, hr, by omega⟩

/-! ### The station pick (R75 to R78) -/

/-- What the vote first met on a set forms is not changed by the pick made of it, or its suppression. -/
theorem voteMet_formed (u : State) (guard : Bool) :
    (voteMet u guard).det.chan = u.det.chan ∧ (voteMet u guard).det.vote = u.det.vote ∧
      (voteMet u guard).det.lastSet = u.det.lastSet ∧ (voteMet u guard).det.longTrig = u.det.longTrig ∧
      (voteMet u guard).det.trigger = u.det.trigger ∧ (voteMet u guard).det.running = u.det.running := by
  unfold voteMet
  split
  · exact ⟨rfl, rfl, rfl, rfl, rfl, rfl⟩
  · split
    · exact ⟨rfl, rfl, rfl, rfl, rfl, rfl⟩
    · split
      · exact ⟨rfl, rfl, rfl, rfl, rfl, rfl⟩
      · simp [spendPick]

/-- The amplitude class and the flags of a pick speak for every run of the channels in trigger (R77). -/
theorem stationPick_marks {u : State} {runs : List RunMarks} (hruns : runs = votingRuns u.det.chan) (first : RunMarks) :
    (∀ c, (stationPick u first).mask.get c = inTrigger (u.det.chan.get c)) ∧
      (∀ r ∈ runs, r.peak < 2 ^ ((stationPick u first).amp + 1)) ∧
      ((∃ r ∈ runs, 2 ^ (stationPick u first).amp ≤ r.peak) ∨ (stationPick u first).amp = 0) ∧
      ((stationPick u first).clipped = true ↔ ∃ r ∈ runs, r.clipped = true) ∧
      ((stationPick u first).stepped = true ↔ u.tb.stepped = true ∨ ∃ r ∈ runs, r.stepped = true) := by
  subst hruns
  refine ⟨fun c => get_ofFn _ c, peak_lt_class _, class_le_peak _, List.any_eq_true, ?_⟩
  unfold stationPick
  rw [Bool.or_eq_true, List.any_eq_true, or_comm]

theorem repickBlocked_iff (u : State) (onset : ArrayTime) : repickBlocked u onset = true ↔
    ∃ p, u.det.prevPick = some p ∧ |diffUs onset p| < (u.profile.repickGap : Int) * 1000000 := by
  unfold repickBlocked
  cases u.det.prevPick <;> simp

/-- A set whose vote is first met outside the guard interval and the repick gap forms the pick of its earliest run. -/
theorem voteMet_picks {u : State} {first : RunMarks} (he : earliestRun (votingRuns u.det.chan) = some first)
    (hb : repickBlocked u first.onset = false) :
    voteMet u false = handPick (spendPick u (stationPick u first)) (stationPick u first) := by
  simp [voteMet, he, hb]

/-- A vote first met without run marks forms no pick. -/
theorem voteMet_none {u : State} (he : earliestRun (votingRuns u.det.chan) = none) : voteMet u false = u := by
  simp [voteMet, he]

/-- A set whose vote is first met too near the previous pick counts it (R76). -/
theorem voteMet_repick {u : State} {first : RunMarks} (he : earliestRun (votingRuns u.det.chan) = some first)
    (hb : repickBlocked u first.onset = true) :
    voteMet u false = { u with det := { u.det with repickSup := bump u.det.repickSup } } := by
  simp [voteMet, he, hb]

/-! ### The set as a whole -/

section
variable {s : State} {x : SampleSet}

theorem detectSet_eq : detectSet s x =
    if !s.det.trigger && (setFormed s x).det.trigger then voteMet (setFormed s x) x.words.z.guard
    else if s.det.trigger && !(setFormed s x).det.trigger then captureTriggerEnd (setFormed s x) x.stamp
    else setFormed s x := rfl

theorem detectSet_same (h : s.det.trigger = (setFormed s x).det.trigger) : detectSet s x = setFormed s x := by
  rw [detectSet_eq, h]
  cases (setFormed s x).det.trigger <;> rfl

theorem detectSet_ended (h : s.det.trigger = true) (hu : (setFormed s x).det.trigger = false) :
    detectSet s x = captureTriggerEnd (setFormed s x) x.stamp := by
  rw [detectSet_eq, h, hu]
  rfl

theorem detectSet_met (h : s.det.trigger = false) (hu : (setFormed s x).det.trigger = true) :
    detectSet s x = voteMet (setFormed s x) x.words.z.guard := by
  rw [detectSet_eq, h, hu]
  rfl

/-- What the set forms stands in the state that the Detector leaves. -/
theorem detectSet_formed (s : State) (x : SampleSet) :
    (detectSet s x).det.chan = (setFormed s x).det.chan ∧ (detectSet s x).det.vote = (setFormed s x).det.vote ∧
      (detectSet s x).det.lastSet = (setFormed s x).det.lastSet ∧
      (detectSet s x).det.longTrig = (setFormed s x).det.longTrig ∧
      (detectSet s x).det.trigger = (setFormed s x).det.trigger ∧
      (detectSet s x).det.running = (setFormed s x).det.running := by
  cases h : s.det.trigger <;> cases hu : (setFormed s x).det.trigger
  · rw [detectSet_same (h.trans hu.symm)]
    exact ⟨rfl, rfl, rfl, rfl, hu, rfl⟩
  · rw [detectSet_met h hu, ← hu]
    exact voteMet_formed _ _
  · rw [detectSet_ended h hu]
    simp [hu]
  · rw [detectSet_same (h.trans hu.symm)]
    exact ⟨rfl, rfl, rfl, rfl, hu, rfl⟩

end

end Sys2Proof.Machine

namespace Sys2Proof.Proofs

open Sys2Proof.Machine

/-- Settles O45: what the set forms, then the station trigger's end, and the pick of a vote first met. -/
theorem detectorTakesSet : Obligations.DetectorTakesSet := by
  rintro s _ x v chan runs rfl hchan hv hvote hruns noPick hnoPick
  obtain ⟨hc, hvt, hlast, hlong, htrig, hrun⟩ := detectSet_formed s x
  obtain rfl : chan = channelsAfter s x := perChan_ext fun c => by rw [hchan, channelsAfter, get_ofFn]
  obtain rfl : v = effectiveVote s.profile s.bat.shed x.words := by rw [hv, effectiveVote_eq hvote]
  rw [← votingRuns_eq, ← setFormed_chan] at hruns
  refine ⟨hc.trans (setFormed_chan s x), hvt, hlast, hlong.trans (setFormed_longTrig s x),
    htrig ▸ setFormed_trigger s x, hrun ▸ setFormed_running s x, fun h => ?_, fun h0 h1 => ?_, fun h0 h1 => ?_⟩
  · rw [htrig] at h
    rw [hnoPick, detectSet_same h]
    exact ⟨rfl, rfl, rfl, rfl⟩
  · rw [htrig] at h1
    have hdet : (captureTriggerEnd (setFormed s x) x.stamp).det = (setFormed s x).det := by simp
    rw [detectSet_ended h0 h1, hdet]
    exact ⟨rfl, rfl⟩
  · rw [htrig] at h1
    rw [hnoPick, detectSet_met h0 h1]
    refine ⟨fun hg => ?_, fun hg => ⟨fun hnone => ?_, fun a first b hruns' ha hb => ?_⟩⟩
    · rw [hg]
      exact ⟨⟨rfl, rfl, rfl, rfl⟩, rfl⟩
    · rw [hg, voteMet_none (by rw [← hruns, hnone]; rfl)]
      exact ⟨rfl, rfl, rfl, rfl⟩
    · have hfirst : earliestRun (votingRuns (setFormed s x).det.chan) = some first := by
        rw [← hruns, hruns', earliestRun_eq ha hb]
      refine ⟨fun hnear => ?_, fun hfar => ?_⟩
      · rw [hg, voteMet_repick hfirst ((repickBlocked_iff _ _).2 hnear)]
        exact ⟨⟨rfl, rfl, rfl, rfl⟩, rfl⟩
      · have hfree : repickBlocked (setFormed s x) first.onset = false := by
          rw [← Bool.not_eq_true, repickBlocked_iff]
          rintro ⟨p, hp, hlt⟩
          exact absurd hlt (Int.not_lt.2 (hfar p hp))
        obtain ⟨hmask, hbelow, hclass, hclipped, hstepped⟩ := stationPick_marks hruns first
        have hdet : ∀ u k, (handPick u k).det = u.det := fun u k => by simp
        rw [setFormed_chan] at hmask
        rw [hg, voteMet_picks hfirst hfree, hdet]
        exact ⟨rfl, rfl, rfl, stationPick (setFormed s x) first, rfl, rfl, rfl, rfl, hmask, hbelow, hclass, hclipped,
          hstepped⟩

end Sys2Proof.Proofs

/-! SUPPORT. A pick offered to the Pick List: its checks, its place and the entry that gives way (R84 to R88). -/

namespace Sys2Proof.Machine

/-! ### The place of a pick (R84, R87) -/

/-- The picks are in order of pick time. -/
def TimeOrdered (es : List PickEntry) : Prop := es.Pairwise (fun a b => usOf a.time ≤ usOf b.time)

/-- In a list in order a pick stands behind those no later than itself, and ahead of the later ones. -/
theorem insertPick_placedIn (n : PickEntry) {es : List PickEntry} (h : TimeOrdered es) :
    placedIn n es (insertPick n es) := by
  induction es with
  | nil => exact ⟨[], [], rfl, rfl, fun _ hx => absurd hx List.not_mem_nil, fun _ hx => absurd hx List.not_mem_nil⟩
  | cons x rest ih =>
    obtain ⟨hx, hrest⟩ := List.pairwise_cons.1 h
    unfold insertPick
    split
    next hlt =>
      refine ⟨[], x :: rest, rfl, rfl, fun _ hy => absurd hy List.not_mem_nil, fun y hy => ?_⟩
      rcases List.mem_cons.1 hy with rfl | hy
      · exact hlt
      · exact hlt.trans_le (hx y hy)
    next hle =>
      obtain ⟨a, b, hsplit, hplaced, ha, hb⟩ := ih hrest
      refine ⟨x :: a, b, congrArg (x :: ·) hsplit, congrArg (x :: ·) hplaced, fun y hy => ?_, hb⟩
      rcases List.mem_cons.1 hy with rfl | hy
      · exact Int.not_lt.1 hle
      · exact ha y hy

/-- The first unassigned entry gives way, or the first of all where none is unassigned (R87). -/
theorem giveWay_gaveWay {es : List PickEntry} (h : es ≠ []) : gaveWay es (giveWay es) := by
  unfold giveWay
  split
  next hany =>
    obtain ⟨e, he, hfree⟩ := List.any_eq_true.1 hany
    obtain ⟨e, a, b, ha, hfree, hsplit, herase⟩ :=
      List.exists_of_eraseP (p := fun e : PickEntry => e.assigned.isNone) he hfree
    exact ⟨a, e, b, hsplit, herase,
      .inl ⟨Option.isNone_iff_eq_none.1 hfree, fun x hx hnone => ha x hx (Option.isNone_iff_eq_none.2 hnone)⟩⟩
  next hnone =>
    obtain ⟨e, b, rfl⟩ := List.exists_cons_of_ne_nil h
    refine ⟨[], e, b, rfl, rfl, .inr ⟨rfl, fun x hx hfree => hnone ?_⟩⟩
    exact List.any_eq_true.2 ⟨x, hx, Option.isNone_iff_eq_none.2 hfree⟩

theorem gaveWay_sublist {es kept : List PickEntry} (h : gaveWay es kept) : kept.Sublist es := by
  obtain ⟨a, e, b, rfl, rfl, -⟩ := h
  exact (List.sublist_cons_self e b).append_left a

/-! ### The checks of a pick (R85, R87) -/

theorem exec_pickFrameReceived (h : FrameHeader) (p : PickPayload) (s : State) : exec (.pickFrameReceived h p) s =
    .next (takeFrame s 2 h.sender.toNat (fun u => engineKick (pickRemote u h.sender.toNat p))) :=
  rfl

theorem pickGood_iff {sender : Nat} (p : PickPayload) (h : sender ≤ 254) :
    pickGood sender p = true ↔ pickFits sender p := by
  have hsender : (!(decide (240 ≤ sender) && decide (sender ≤ 254))) = true ↔ sender ≤ 239 := by
    simp only [Bool.not_eq_true', Bool.and_eq_false_iff, decide_eq_false_iff_not]
    omega
  unfold pickGood pickFits
  simp only [Bool.and_eq_true, hsender, decide_eq_true_iff, bne_iff_ne, and_assoc]

theorem pickRemote_malformed {s : State} {sender : Nat} {p : PickPayload} (h : pickGood sender p = false) :
    pickRemote s sender p = { s with picks := { s.picks with malformed := bump s.picks.malformed } } := by
  unfold pickRemote
  rw [if_pos (by rw [h]; rfl)]

theorem pickRemote_good {s : State} {sender : Nat} {p : PickPayload} (h : pickGood sender p = true) :
    pickRemote s sender p = offerPick s (pickOf s sender p) := by
  unfold pickRemote
  rw [if_neg (by rw [h]; exact Bool.false_ne_true)]
  rfl

theorem same_iff (a b : PickEntry) : a.same b = true ↔ a.origin = b.origin ∧ a.seq = b.seq := by
  unfold PickEntry.same
  rw [Bool.and_eq_true, beq_iff_eq, beq_iff_eq]

theorem anySame_iff (n : PickEntry) (es : List PickEntry) :
    es.any n.same = true ↔ ∃ e ∈ es, e.origin = n.origin ∧ e.seq = n.seq := by
  simp only [List.any_eq_true, same_iff, eq_comm (a := n.origin), eq_comm (a := n.seq)]

/-- The list in which a pick takes its place, after one of 32 entries has given way (R87). -/
def roomIn (es : List PickEntry) : List PickEntry := if decide (32 ≤ es.length) = true then giveWay es else es

/-- A pick that passes the checks of R87 takes its place, and is evaluated. -/
def enterPick (s : State) (n : PickEntry) : State :=
  evaluatePick { s with picks := { s.picks with
    entries := insertPick n (roomIn s.picks.entries)
    displaced := if decide (32 ≤ s.picks.entries.length) = true then bump s.picks.displaced else s.picks.displaced } } n

/-- The checks of R87 in their order, after the ageing sweep. -/
theorem offerPick_eq (s : State) (n : PickEntry) : offerPick s n =
    if 2000000 < diffUs n.time s.tb.clock then
      { ageSweep s with picks := { (ageSweep s).picks with future := bump s.picks.future } }
    else if keepUs s.profile < diffUs s.tb.clock n.time then
      { ageSweep s with picks := { (ageSweep s).picks with stale := bump s.picks.stale } }
    else if (keptPicks s).any n.same = true then
      { ageSweep s with picks := { (ageSweep s).picks with duplicate := bump s.picks.duplicate } }
    else enterPick (ageSweep s) n := rfl

/-- A pick that enters takes its place among the others, one of 32 giving way (R84, R87). -/
theorem enterPick_spec {s : State} (n : PickEntry) (h : TimeOrdered s.picks.entries) :
    ∃ kept placed displaced, placedIn n kept placed ∧
      (s.picks.entries.length < 32 → kept = s.picks.entries ∧ displaced = s.picks.displaced) ∧
      (s.picks.entries.length = 32 → gaveWay s.picks.entries kept ∧ displaced = min (s.picks.displaced + 1) 65535) ∧
      enterPick s n = evaluatePick { s with picks := { s.picks with entries := placed, displaced := displaced } } n := by
  rcases Nat.lt_or_ge s.picks.entries.length 32 with hlen | hlen
  · have hfree : ¬decide (32 ≤ s.picks.entries.length) = true := by simpa using hlen
    refine ⟨_, _, _, insertPick_placedIn n h, fun _ => ⟨rfl, rfl⟩, fun heq => by omega, ?_⟩
    unfold enterPick roomIn
    rw [if_neg hfree, if_neg hfree]
  · have hfull : decide (32 ≤ s.picks.entries.length) = true := decide_eq_true hlen
    have hgave := giveWay_gaveWay (es := s.picks.entries) (List.ne_nil_of_length_pos (by omega))
    refine ⟨_, _, _, insertPick_placedIn n (h.sublist (gaveWay_sublist hgave)), fun hlt => by omega,
      fun _ => ⟨hgave, rfl⟩, ?_⟩
    unfold enterPick roomIn
    rw [if_pos hfull, if_pos hfull]
    rfl

theorem keptPicks_ordered {s : State} (h : picksInv s) : TimeOrdered (keptPicks s) := by
  obtain ⟨-, hordered, -⟩ := h
  exact hordered.sublist List.filter_sublist

/-- A pick that is too old is not too far ahead. -/
theorem not_ahead_of_old {s : State} {n : PickEntry} (hold : keepUs s.profile < diffUs s.tb.clock n.time) :
    ¬2000000 < diffUs n.time s.tb.clock := by
  have hopposite : diffUs n.time s.tb.clock = -diffUs s.tb.clock n.time := by unfold diffUs; omega
  have hkeep : 0 ≤ keepUs s.profile := by unfold keepUs; omega
  omega

theorem offerPick_old {s : State} {n : PickEntry} (hold : keepUs s.profile < diffUs s.tb.clock n.time) : offerPick s n =
    { ageSweep s with picks := { (ageSweep s).picks with stale := bump s.picks.stale } } := by
  rw [offerPick_eq, if_neg (not_ahead_of_old hold), if_pos hold]

section
variable {s : State} {n : PickEntry} (hahead : diffUs n.time s.tb.clock ≤ 2000000)
  (hkeep : diffUs s.tb.clock n.time ≤ keepUs s.profile)
include hahead hkeep

theorem offerPick_held (hheld : ∃ e ∈ keptPicks s, e.origin = n.origin ∧ e.seq = n.seq) : offerPick s n =
    { ageSweep s with picks := { (ageSweep s).picks with duplicate := bump s.picks.duplicate } } := by
  rw [offerPick_eq, if_neg (Int.not_lt.2 hahead), if_neg (Int.not_lt.2 hkeep), if_pos ((anySame_iff n _).2 hheld)]

theorem offerPick_enters (hnew : ∀ e ∈ keptPicks s, ¬(e.origin = n.origin ∧ e.seq = n.seq)) :
    offerPick s n = enterPick (ageSweep s) n := by
  have hother : ¬(keptPicks s).any n.same = true := by
    rw [anySame_iff]
    rintro ⟨e, he, hsame⟩
    exact hnew e he hsame
  rw [offerPick_eq, if_neg (Int.not_lt.2 hahead), if_neg (Int.not_lt.2 hkeep), if_neg hother]

end

/-- A pick at the Pick List is counted by the first check that it fails, or enters (R87). -/
theorem offerPick_taken {s : State} (h : picksInv s) (n : PickEntry) : pickTaken s n (offerPick s n) := by
  rintro base rfl
  refine ⟨fun hahead => (offerPick_eq s n).trans (if_pos hahead), offerPick_old,
    fun hahead hkeep => ⟨offerPick_held hahead hkeep, fun hnew => ?_⟩⟩
  rw [offerPick_enters hahead hkeep hnew]
  exact enterPick_spec (s := ageSweep s) n (keptPicks_ordered h)

end Sys2Proof.Machine

namespace Sys2Proof.Proofs

open Sys2Proof.Machine

/-- Settles O31: the checks of R85 on a PICK frame, then the Pick List's on its pick and on the station's own. -/
theorem pickIsTested : Obligations.PickIsTested := by
  refine ⟨?_, fun s k h => offerPick_taken h (ownPick s k)⟩
  rintro s h p _ hinv rfl hheard
  obtain ⟨⟨r, hr⟩, -, hstation, -⟩ := id hheard
  have hexec : exec (.pickFrameReceived h p) s = .next (engineKick (pickRemote (renewed s) h.sender.toNat p)) := by
    rw [exec_pickFrameReceived, takeFrame_station hr hheard (.inr (.inl rfl))]
  refine ⟨fun hbad => ?_, fun hfits => ⟨_, hexec, ?_⟩⟩
  · have hgood : pickGood h.sender.toNat p = false := by rwa [← Bool.not_eq_true, pickGood_iff p hstation]
    rw [hexec, pickRemote_malformed hgood]
    rfl
  · rw [pickRemote_good ((pickGood_iff p hstation).2 hfits)]
    exact offerPick_taken (s := renewed s) hinv _

end Sys2Proof.Proofs

/-! SUPPORT. The velocity test of a pick against a first pick (R90). -/

namespace Sys2Proof.Machine

section
variable {p : Profile} {f q : ArrayTime} {place at_ : Int × Int} {dt eff dx dy : Int} (hdt : dt = diffUs q f)
  (heff : eff = max 0 ((dt - p.slack) / 1000))
include hdt heff

/-- The two conditions of R90. -/
theorem consistent_iff (hdx : dx = at_.1 - place.1) (hdy : dy = at_.2 - place.2) : consistent p f place q at_ = true ↔
    0 ≤ dt ∧ dt ≤ (p.window : Int) * 1000000 ∧ (eff * p.vMin) ^ 2 ≤ (dx ^ 2 + dy ^ 2) * 1000000 := by
  subst hdt heff hdx hdy
  rw [sq, sq, sq, consistent, Bool.and_eq_true, Bool.and_eq_true, decide_eq_true_iff, decide_eq_true_iff,
    decide_eq_true_iff, and_assoc]
  rfl

/-- At the first pick's own place a pick is consistent up to the slack and the millisecond that it is rounded down by. -/
theorem consistent_same_place_iff (hplace : place = at_) (hv : 0 < p.vMin) : consistent p f place q at_ = true ↔
    0 ≤ dt ∧ dt ≤ (p.window : Int) * 1000000 ∧ dt < p.slack + 1000 := by
  have hvel : (eff * p.vMin) ^ 2 ≤ ((0 : Int) ^ 2 + 0 ^ 2) * 1000000 ↔ dt < p.slack + 1000 := by
    have hzero : (eff * p.vMin) ^ 2 ≤ ((0 : Int) ^ 2 + 0 ^ 2) * 1000000 ↔ eff * p.vMin = 0 := by
      simp [sq_nonpos_iff]
    rw [hzero, mul_eq_zero, or_iff_left (by omega)]
    omega
  rw [consistent_iff (dx := 0) (dy := 0) hdt heff (by rw [hplace, sub_self]) (by rw [hplace, sub_self]), hvel]

omit hdt in
/-- The first product of R90 within the ranges of the profile. -/
theorem velocity_product_le (hw : p.window ≤ 30) (hv : p.vMin ≤ 10000) (hd : dt ≤ (p.window : Int) * 1000000) :
    eff ≤ 30000 ∧ (eff * p.vMin) ^ 2 ≤ 90000000000000000 := by
  have heff0 : 0 ≤ eff := heff ▸ le_max_left _ _
  have heff1 : eff ≤ 30000 := by omega
  have hproduct : eff * p.vMin ≤ 30000 * 10000 :=
    mul_le_mul heff1 (by exact_mod_cast hv) (Int.natCast_nonneg _) (by norm_num)
  exact ⟨heff1, (pow_le_pow_left₀ (mul_nonneg heff0 (Int.natCast_nonneg _)) hproduct 2).trans (by norm_num)⟩

end

/-- The difference of two map coordinates, and its square. -/
theorem coordinate_difference_le {a b : Int} (ha : |a| ≤ 32767) (hb : |b| ≤ 32767) :
    |b - a| ≤ 65534 ∧ (b - a) ^ 2 ≤ 4294705156 := by
  have hdiff : |b - a| ≤ 65534 := (abs_sub b a).trans (by omega)
  exact ⟨hdiff, (sq_le_sq.2 (hdiff.trans_eq (abs_of_pos (by norm_num : (0 : Int) < 65534)).symm)).trans (by norm_num)⟩

/-- Three picks within a second: the first, and two of one place a kilometre north of it and half a second apart. -/
def laterMembers : List PickEntry :=
  [⟨9, 1, ⟨1000, 0⟩, 3, 0, 0, 10, true, none⟩, ⟨12, 1, ⟨1000, 100000⟩, 3, 0, 1000, 10, true, none⟩,
    ⟨13, 1, ⟨1000, 600000⟩, 3, 0, 1000, 10, true, none⟩]

/-- The second and the third join the first, and are not consistent with each other (R90, R95). -/
theorem laterMembers_inconsistent : ∃ (s : State) (f m k : PickEntry), m ∈ candidateSet s f ∧ k ∈ candidateSet s f ∧
    consistent s.profile m.time (m.east, m.north) k.time (k.east, k.north) = false ∧
    consistent s.profile k.time (k.east, k.north) m.time (m.east, m.north) = false := by
  refine ⟨{ State.reset with picks := { PickList.reset with entries := laterMembers } }, laterMembers[0], laterMembers[1],
    laterMembers[2], ?_⟩
  decide +kernel

end Sys2Proof.Machine

namespace Sys2Proof.Proofs

open Sys2Proof.Machine

/-- Settles O32: the test of R90 for each pair of picks, with the two members of a candidate set that fail it. -/
theorem velocityTest : Obligations.VelocityTest := by
  refine ⟨laterMembers_inconsistent, fun p f q place at_ dt eff dx dy hdt heff hdx hdy =>
    ⟨consistent_iff hdt heff hdx hdy, consistent_same_place_iff hdt heff,
      fun hw hv _ hd => velocity_product_le heff hw hv hd, fun h1 h2 h3 h4 => ?_⟩⟩
  subst hdx hdy
  obtain ⟨hx, hxx⟩ := coordinate_difference_le h1 h3
  obtain ⟨hy, hyy⟩ := coordinate_difference_le h2 h4
  exact ⟨hx, hy, by omega⟩

end Sys2Proof.Proofs

/-! SUPPORT. The Event Table by serial: an entry put in its place, the reports and the ALERT frames of an entry, and the
sweeps that end events and hand on repeats (R113 to R118). -/

namespace Sys2Proof.Machine

/-! ### Entries by serial -/

/-- No two entries have a serial in common. -/
def SerialsDiffer (es : List EventEntry) : Prop := es.Pairwise (fun a b => a.serial ≠ b.serial)

/-- An entry of the table, the only one of its serial. -/
structure Held (s : State) (e : EventEntry) : Prop where
  differ : SerialsDiffer s.events.entries
  mem : e ∈ s.events.entries

/-- The entries with an entry in the place of the one of its serial. -/
def replaced (es : List EventEntry) (y : EventEntry) : List EventEntry :=
  es.map (fun x => if x.serial = y.serial then y else x)

/-- An entry in the place of the one of its serial. -/
def putEvent (s : State) (y : EventEntry) : State :=
  { s with events := { s.events with entries := replaced s.events.entries y } }

theorem serialsDiffer_iff (es : List EventEntry) : SerialsDiffer es ↔ (es.map EventEntry.serial).Nodup :=
  List.pairwise_map.symm

theorem eq_of_serial {es : List EventEntry} (h : SerialsDiffer es) {a b : EventEntry} (ha : a ∈ es) (hb : b ∈ es)
    (hs : a.serial = b.serial) : a = b :=
  List.inj_on_of_nodup_map ((serialsDiffer_iff es).1 h) ha hb hs

theorem replaced_serials (es : List EventEntry) (y : EventEntry) :
    (replaced es y).map EventEntry.serial = es.map EventEntry.serial := by
  unfold replaced
  rw [List.map_map]
  refine List.map_congr_left fun x _ => ?_
  simp only [Function.comp_apply]
  split
  next h => exact h.symm
  next => rfl

theorem replaced_differ {es : List EventEntry} (h : SerialsDiffer es) (y : EventEntry) : SerialsDiffer (replaced es y) := by
  rwa [serialsDiffer_iff, replaced_serials, ← serialsDiffer_iff]

/-- A change of the entry of a serial puts the changed entry in its place. -/
theorem map_serial_eq_replaced {es : List EventEntry} (h : SerialsDiffer es) {e : EventEntry} (he : e ∈ es)
    (f : EventEntry → EventEntry) (hf : (f e).serial = e.serial) :
    es.map (fun x => if x.serial = e.serial then f x else x) = replaced es (f e) := by
  refine List.map_congr_left fun x hx => ?_
  rw [hf]
  split
  next hs => rw [eq_of_serial h hx he hs]
  next => rfl

theorem replaced_replaced (es : List EventEntry) {y z : EventEntry} (h : z.serial = y.serial) :
    replaced (replaced es y) z = replaced es z := by
  unfold replaced
  rw [List.map_map]
  refine List.map_congr_left fun x _ => ?_
  simp only [Function.comp_apply, h]
  split
  next => rw [if_pos rfl]
  next => rfl

theorem mem_replaced_of_ne {es : List EventEntry} {x y : EventEntry} (hx : x ∈ es) (h : x.serial ≠ y.serial) :
    x ∈ replaced es y := List.mem_map.2 ⟨x, hx, if_neg h⟩

theorem mem_replaced_self {es : List EventEntry} {e y : EventEntry} (he : e ∈ es) (h : y.serial = e.serial) :
    y ∈ replaced es y := List.mem_map.2 ⟨e, he, if_pos h.symm⟩

theorem Held.find {s : State} {e : EventEntry} (h : Held s e) : eventFind s e.serial = some e := by
  have hsome : (eventFind s e.serial).isSome = true := List.find?_isSome.2 ⟨e, h.mem, beq_self_eq_true e.serial⟩
  obtain ⟨x, hx⟩ := Option.isSome_iff_exists.1 hsome
  have hserial : (x.serial == e.serial) = true := List.find?_some (p := fun x : EventEntry => x.serial == e.serial) hx
  rw [hx, eq_of_serial h.differ (List.mem_of_find?_eq_some hx) h.mem (beq_iff_eq.1 hserial)]

theorem Held.congr {s t : State} {e : EventEntry} (h : Held s e) (ht : t.events.entries = s.events.entries) : Held t e :=
  ⟨ht ▸ h.differ, ht ▸ h.mem⟩

theorem Held.put {s : State} {e y : EventEntry} (h : Held s e) (hy : y.serial = e.serial) : Held (putEvent s y) y :=
  ⟨replaced_differ h.differ y, mem_replaced_self h.mem hy⟩

/-- An entry changed by its serial. -/
theorem Held.update {s : State} {e : EventEntry} (h : Held s e) (f : EventEntry → EventEntry)
    (hf : (f e).serial = e.serial) : eventUpdate s e.serial f = putEvent s (f e) := by
  unfold eventUpdate putEvent
  simp only [beq_iff_eq, map_serial_eq_replaced h.differ h.mem f hf]

/-! ### The ALERT line and the reports (R116 to R118) -/

/-- The ALERT line that entries call for (R116). -/
def lineOf (p : Profile) (es : List EventEntry) : Bool :=
  es.any (fun e => e.active && decide (p.confirmCount ≤ e.declaredBy.length))

theorem lineOf_iff (p : Profile) (es : List EventEntry) :
    lineOf p es = true ↔ ∃ e ∈ es, e.active = true ∧ p.confirmCount ≤ e.declaredBy.length := by
  simp [lineOf]

theorem alertAgrees_iff (s : State) : alertAgrees s ↔ s.events.alertLine = lineOf s.profile s.events.entries := by
  rw [alertAgrees, ← lineOf_iff, ← Bool.eq_iff_iff]

theorem formAlertLine_eq (s : State) : formAlertLine s =
    { s with events := { s.events with alertLine := lineOf s.profile s.events.entries } } := rfl

/-- The Event Table after a report of an entry (R117, R118). -/
def reported (s : State) (kind : Nat) (e : EventEntry) (t : EventTable) : EventTable :=
  if s.profile.uplinkRole = true then portTakes t (reportBytes kind s.own e) else t

theorem queueReport_eq (s : State) (kind : Nat) (e : EventEntry) :
    queueReport s kind e = { s with events := reported s kind e s.events } := by
  unfold queueReport reported portTakes
  cases s.profile.uplinkRole
  · rfl
  · simp only [Option.isNone_iff_eq_none, Bool.not_true, Bool.false_eq_true, if_false, if_true]
    split
    · rfl
    · split <;> rfl

theorem Held.report {s : State} {e : EventEntry} (h : Held s e) (kind : Nat) :
    reportOf s kind e.serial = { s with events := reported s kind e s.events } := by
  rw [reportOf, h.find]
  exact queueReport_eq s kind e

/-- The port does not look at the entries, nor at the ALERT line. -/
theorem portTakes_entries (t : EventTable) (es : List EventEntry) (line : Bool) (r : List Byte) :
    portTakes { t with entries := es, alertLine := line } r = { portTakes t r with entries := es, alertLine := line } := by
  unfold portTakes
  dsimp only
  split
  · rfl
  · split <;> rfl

theorem reported_with_entries (s : State) (kind : Nat) (e : EventEntry) (t : EventTable) (es : List EventEntry)
    (line : Bool) : reported s kind e { t with entries := es, alertLine := line } =
      { reported s kind e t with entries := es, alertLine := line } := by
  unfold reported
  split
  · exact portTakes_entries t es line _
  · rfl

theorem reported_entries (s : State) (kind : Nat) (e : EventEntry) (t : EventTable) :
    (reported s kind e t).entries = t.entries ∧ (reported s kind e t).alertLine = t.alertLine := by
  unfold reported portTakes
  split
  · split
    · exact ⟨rfl, rfl⟩
    · split <;> exact ⟨rfl, rfl⟩
  · exact ⟨rfl, rfl⟩

/-- An Alert Report is the bytes of its fields, its CRC over those between its two sync bytes and it (R117, R216). -/
theorem reportBytes_eq_fields (kind own : Nat) (e : EventEntry) : reportBytes kind own e =
    (reportFields kind own e (crc16 (((reportBytes kind own e).drop 2).take 14))).flatMap fieldBytes := by
  have hbody : ((reportBytes kind own e).drop 2).take 14 = byteOf kind :: keyBytes e.key ++
      [byteOf e.votes.length, byteOf e.declaredBy.length, byteOf e.best, byteOf e.amp, byteOf own] := rfl
  have hsync : fieldBytes (1, 0xA5) = [0xA5#8] ∧ fieldBytes (1, 0x4C) = [0x4C#8] := by decide
  rw [hbody, reportBytes, reportFields]
  simp [hsync, fieldBytes_nat, beBytes_one, ← timeBytes_eq_fields, keyBytes, crcBytes]

/-! ### The end of an event (R115) -/

/-- An entry as it ends. -/
def EventEntry.ended (e : EventEntry) : EventEntry := { e with active := false, repeatsLeft := 0, repeatDue := none }

/-- Some entries of a table ended. -/
def endedIn (due es : List EventEntry) : List EventEntry :=
  es.map (fun x => if x.serial ∈ due.map EventEntry.serial then x.ended else x)

/-- The table after the end of some of its entries, the ALERT line formed from what stays ACTIVE. -/
def tableEnded (s : State) (due : List EventEntry) : EventTable :=
  { s.events with
    entries := endedIn due s.events.entries
    alertLine := lineOf s.profile (endedIn due s.events.entries) }

/-- The ENDED reports of some entries. -/
def endReports (s : State) (due : List EventEntry) : List (List Byte) :=
  if s.profile.uplinkRole = true then due.map (reportBytes 2 s.own) else []

theorem Held.endEvent {s : State} {e : EventEntry} (h : Held s e) :
    endEvent s e.serial = { s with events := reported s 2 e (tableEnded s [e]) } := by
  have hput : replaced s.events.entries e.ended = endedIn [e] s.events.entries :=
    (map_serial_eq_replaced h.differ h.mem EventEntry.ended rfl).symm.trans
      (List.map_congr_left fun x _ => by simp)
  have hupdate : eventUpdate s e.serial EventEntry.ended = putEvent s e.ended := h.update _ rfl
  have hended : Held (formAlertLine (putEvent s e.ended)) e.ended := (h.put (y := e.ended) rfl).congr rfl
  have hreport := hended.report 2
  rw [← hupdate] at hreport
  refine hreport.trans ?_
  simp only [hupdate, formAlertLine_eq, putEvent, hput]
  rfl

theorem endedIn_cons (e : EventEntry) (rest es : List EventEntry) :
    endedIn rest (endedIn [e] es) = endedIn (e :: rest) es := by
  unfold endedIn
  rw [List.map_map]
  refine List.map_congr_left fun x _ => ?_
  by_cases h : x.serial = e.serial
  · simp [h, EventEntry.ended]
  · simp [h]

theorem endedIn_differ {es : List EventEntry} (h : SerialsDiffer es) (due : List EventEntry) :
    SerialsDiffer (endedIn due es) := by
  have hserials : (endedIn due es).map EventEntry.serial = es.map EventEntry.serial := by
    unfold endedIn
    rw [List.map_map]
    refine List.map_congr_left fun x _ => ?_
    simp only [Function.comp_apply]
    split <;> rfl
  rwa [serialsDiffer_iff, hserials, ← serialsDiffer_iff]

theorem mem_endedIn_of_not {due es : List EventEntry} {x : EventEntry} (hx : x ∈ es)
    (h : x.serial ∉ due.map EventEntry.serial) : x ∈ endedIn due es := List.mem_map.2 ⟨x, hx, if_neg h⟩

theorem foldl_endReports_cons (s : State) (e : EventEntry) (rest : List EventEntry) (t : EventTable) :
    (endReports s (e :: rest)).foldl portTakes t = (endReports s rest).foldl portTakes (reported s 2 e t) := by
  unfold endReports reported
  split <;> rfl

/-- The entries that end after the first find the table as the first has left it. -/
theorem tableEnded_cons (s : State) (e : EventEntry) (rest : List EventEntry) :
    tableEnded { s with events := reported s 2 e (tableEnded s [e]) } rest =
      reported s 2 e (tableEnded s (e :: rest)) := by
  obtain ⟨hentries, -⟩ := reported_entries s 2 e (tableEnded s [e])
  have hafter : endedIn rest (reported s 2 e (tableEnded s [e])).entries = endedIn (e :: rest) s.events.entries := by
    rw [hentries]
    exact endedIn_cons e rest _
  unfold tableEnded at hafter ⊢
  dsimp only
  rw [hafter]
  exact (reported_with_entries s 2 e _ _ _).symm

/-- Several entries end one after another. -/
theorem foldl_endEvent (s : State) (due : List EventEntry) (hs : SerialsDiffer s.events.entries) (hdue : SerialsDiffer due)
    (hmem : ∀ e ∈ due, e ∈ s.events.entries) (hline : s.events.alertLine = lineOf s.profile s.events.entries) :
    due.foldl (fun u e => endEvent u e.serial) s =
      { s with events := (endReports s due).foldl portTakes (tableEnded s due) } := by
  induction due generalizing s with
  | nil =>
    have hnone : endedIn [] s.events.entries = s.events.entries := List.map_id' _
    simp [endReports, tableEnded, hnone, ← hline]
  | cons e rest ih =>
    obtain ⟨hfirst, hrest⟩ := List.pairwise_cons.1 hdue
    obtain ⟨hentries, hwire⟩ := reported_entries s 2 e (tableEnded s [e])
    rw [List.foldl_cons, Held.endEvent ⟨hs, hmem e List.mem_cons_self⟩, ih _ _ hrest, foldl_endReports_cons,
      tableEnded_cons]
    · rfl
    · intro x hx
      dsimp only
      rw [hentries]
      have hother : x.serial ∉ [e].map EventEntry.serial := by simpa using (hfirst x hx).symm
      exact mem_endedIn_of_not (hmem x (List.mem_cons_of_mem e hx)) hother
    · dsimp only
      rw [hentries, hwire]
      rfl
    · dsimp only
      rw [hentries]
      exact endedIn_differ hs [e]

/-! ### ALERT frames (R113, R114) -/

/-- An ALERT frame is accepted or refused (R189). -/
theorem offer_alert (l : Line) (c : AlertContent) :
    (l.offer (.alert c) none).2 = .accepted ∨ (l.offer (.alert c) none).2 = .refused := by
  unfold Line.offer
  have hkind : (Frame.alert c).isBeacon = false := rfl
  rw [hkind, Bool.false_and, if_neg Bool.false_ne_true]
  split
  · exact .inl rfl
  · split
    · exact .inl rfl
    · exact .inr rfl

/-- An entry after a refusal of its frame: the next is due 2 s later, while repeats remain (R114). -/
def EventEntry.refusedAt (e : EventEntry) (now : ArrayTime) : EventEntry :=
  if e.active = true ∧ 0 < e.repeatsLeft then { e with repeatDue := some (addUs now 2000000) } else e

section
variable {s : State} {e : EventEntry} (h : Held s e) {l : Line}
include h

/-- A frame that the Line Controller accepts changes nothing but the line (R113). -/
theorem Held.handAlert_accepted (ho : s.line.offer (.alert (alertContent s.profile e)) none = (l, .accepted)) :
    handAlert s e.serial = { s with line := l } := by
  rw [handAlert, h.find]
  dsimp only
  rw [ho]
  rfl

/-- A frame that the Line Controller refuses is completed at once (R114). -/
theorem Held.handAlert_refused (ho : s.line.offer (.alert (alertContent s.profile e)) none = (l, .refused)) :
    handAlert s e.serial = { s with
      line := l
      events := { s.events with
        entries := replaced s.events.entries (e.refusedAt s.tb.clock), sendFailed := bump s.events.sendFailed } } := by
  have hheld : ∀ u : State, u.events.entries = s.events.entries → Held u e := fun u hu => h.congr hu
  have hdone : ∀ u : State, u.events.entries = s.events.entries → u.tb = s.tb → eventUpdate u e.serial (fun x =>
      if x.active && decide (0 < x.repeatsLeft) then { x with repeatDue := some (addUs s.tb.clock 2000000) } else x) =
        putEvent u (e.refusedAt s.tb.clock) := fun u hu ht => by
    rw [(hheld u hu).update _ (by split <;> rfl)]
    simp [EventEntry.refusedAt]
  rw [handAlert, h.find]
  dsimp only
  rw [ho]
  exact hdone _ rfl rfl

end

/-! ### The repeats that are due (R114) -/

/-- An entry as its repeat is handed on (R114). -/
def EventEntry.repeated (e : EventEntry) : EventEntry := { e with repeatsLeft := e.repeatsLeft - 1, repeatDue := none }

theorem repeated_refusedAt (e : EventEntry) (now : ArrayTime) : e.repeated.refusedAt now = { e with
    repeatsLeft := e.repeatsLeft - 1
    repeatDue := if e.active = true ∧ 0 < e.repeatsLeft - 1 then some (addUs now 2000000) else none } := by
  unfold EventEntry.refusedAt EventEntry.repeated
  dsimp only
  split <;> rfl

theorem repeatNow_eq_repeatIsDue (s : State) (e : EventEntry) : e.repeatNow s.tb.clock = repeatIsDue s e := by
  unfold EventEntry.repeatNow repeatIsDue
  cases e.repeatDue with
  | none => rfl
  | some due => rw [Option.any_some]

theorem Held.sendRepeat {s : State} {e : EventEntry} (h : Held s e) : repeatMade s e (sendRepeat s e.serial) := by
  have hupdate : Machine.sendRepeat s e.serial = handAlert (putEvent s e.repeated) e.repeated.serial :=
    congrArg (handAlert · e.serial) (h.update EventEntry.repeated rfl)
  have hput : Held (putEvent s e.repeated) e.repeated := h.put rfl
  have hentries : ∀ f : EventEntry → EventEntry, (f e).serial = e.serial →
      s.events.entries.map (fun x => if x.serial = e.serial then f x else x) = replaced s.events.entries (f e) :=
    map_serial_eq_replaced h.differ h.mem
  rw [hupdate]
  obtain ⟨l, r, ho⟩ : ∃ l r, s.line.offer (.alert (alertContent s.profile e.repeated)) none = (l, r) := ⟨_, _, rfl⟩
  have hr : r = .accepted ∨ r = .refused := by simpa [ho] using offer_alert s.line (alertContent s.profile e.repeated)
  refine ⟨l, r, ho, hr, fun ha => ?_, fun hrefused => ?_⟩
  · subst ha
    rw [hput.handAlert_accepted ho, hentries _ rfl]
    rfl
  · subst hrefused
    rw [hput.handAlert_refused ho, hentries _ rfl, repeated_refusedAt]
    simp only [putEvent, replaced_replaced s.events.entries (y := e.repeated) (z := { e with
      repeatsLeft := e.repeatsLeft - 1
      repeatDue := if e.active = true ∧ 0 < e.repeatsLeft - 1 then some (addUs s.tb.clock 2000000) else none }) rfl]
    rfl

/-- A repeat changes no other entry. -/
theorem Held.repeatMade_entries {s t : State} {e : EventEntry} (h : Held s e) (hr : repeatMade s e t) :
    ∃ y, y.serial = e.serial ∧ t.events.entries = replaced s.events.entries y := by
  have entries : ∀ {f : EventEntry → EventEntry}, (∀ x, (f x).serial = x.serial) → ∃ y, y.serial = e.serial ∧
      s.events.entries.map (fun x => if x.serial = e.serial then f x else x) = replaced s.events.entries y :=
    fun hf => ⟨_, hf e, map_serial_eq_replaced h.differ h.mem _ (hf e)⟩
  obtain ⟨l, r, -, hr, haccepted, hrefused⟩ := hr
  rcases hr with hr | hr
  · rw [haccepted hr]
    exact entries fun _ => rfl
  · rw [hrefused hr]
    exact entries fun _ => rfl

/-- The repeats of some entries of the table are handed on one after another. -/
theorem foldl_sendRepeat (s : State) (due : List EventEntry) (hs : SerialsDiffer s.events.entries) (hdue : SerialsDiffer due)
    (hmem : ∀ e ∈ due, e ∈ s.events.entries) : repeatsMade due s (due.foldl (fun u e => sendRepeat u e.serial) s) := by
  induction due generalizing s with
  | nil => rfl
  | cons e rest ih =>
    obtain ⟨hfirst, hrest⟩ := List.pairwise_cons.1 hdue
    have he : Held s e := ⟨hs, hmem e List.mem_cons_self⟩
    obtain ⟨y, hserial, hentries⟩ := he.repeatMade_entries he.sendRepeat
    refine ⟨_, he.sendRepeat, ih _ ?_ hrest fun x hx => ?_⟩
    · rw [hentries]
      exact replaced_differ hs y
    · rw [hentries]
      exact mem_replaced_of_ne (hmem x (List.mem_cons_of_mem e hx)) (hserial ▸ (hfirst x hx).symm)

/-! ### The sweeps and the uplink port -/

theorem eventsInv_serials {s : State} (h : eventsInv s) : SerialsDiffer s.events.entries := by
  obtain ⟨-, -, hserials, -⟩ := h
  exact hserials

theorem eventsInv_line {s : State} (h : eventsInv s) : s.events.alertLine = lineOf s.profile s.events.entries := by
  obtain ⟨-, -, -, -, -, hline, -⟩ := h
  exact (alertAgrees_iff s).1 hline

/-- The entries that end are those whose serials are among theirs. -/
theorem endedIn_endsNow {s : State} (hs : SerialsDiffer s.events.entries) :
    endedIn (s.events.entries.filter (endsNow s)) s.events.entries =
      s.events.entries.map (fun e =>
        if endsNow s e = true then { e with active := false, repeatsLeft := 0, repeatDue := none } else e) := by
  refine List.map_congr_left fun x hx => ?_
  have hdue : x.serial ∈ (s.events.entries.filter (endsNow s)).map EventEntry.serial ↔ endsNow s x = true := by
    rw [List.mem_map]
    constructor
    · rintro ⟨y, hy, hxy⟩
      obtain ⟨hmem, hends⟩ := List.mem_filter.1 hy
      rwa [eq_of_serial hs hx hmem hxy.symm]
    · exact fun h => ⟨x, List.mem_filter.2 ⟨hx, h⟩, rfl⟩
  simp only [hdue]
  rfl

/-- The sweep of R115: all that end now end, and report in the order in which they were made (log entry 46). -/
theorem endSweep_eq {s : State} (h : eventsInv s) : endSweep s =
    { s with events := (endedReports s).foldl portTakes (tableEnded s (s.events.entries.filter (endsNow s))) } :=
  foldl_endEvent s _ (eventsInv_serials h) ((eventsInv_serials h).sublist List.filter_sublist)
    (fun _ he => List.mem_of_mem_filter he) (eventsInv_line h)

/-- The ALERT line after the sweep of R115. -/
theorem lineOf_endsNow {s : State} (hs : SerialsDiffer s.events.entries) :
    lineOf s.profile (endedIn (s.events.entries.filter (endsNow s)) s.events.entries) = true ↔
      ∃ e ∈ s.events.entries, e.active = true ∧ endsNow s e = false ∧ s.profile.confirmCount ≤ e.declaredBy.length := by
  rw [endedIn_endsNow hs, lineOf_iff]
  constructor
  · rintro ⟨y, hy, hactive, hconfirmed⟩
    obtain ⟨e, he, rfl⟩ := List.mem_map.1 hy
    by_cases hends : endsNow s e = true
    · simp [hends] at hactive
    · rw [if_neg hends] at hactive hconfirmed
      exact ⟨e, he, hactive, Bool.eq_false_iff.2 hends, hconfirmed⟩
  · rintro ⟨e, he, hactive, hends, hconfirmed⟩
    have hstays : ¬endsNow s e = true := Bool.eq_false_iff.1 hends
    exact ⟨e, List.mem_map.2 ⟨e, he, if_neg hstays⟩, hactive, hconfirmed⟩

theorem repeatSweep_eq (s : State) : repeatSweep s =
    (s.events.entries.filter (repeatIsDue s)).foldl (fun u e => sendRepeat u e.serial) s := by
  unfold repeatSweep
  simp only [repeatNow_eq_repeatIsDue]

theorem exec_uplinkReportSent {s : State} (ha : s.awake = true) :
    exec .uplinkReportSent s = .next (if reportSent s = true then uplinkNext s else s) := by
  have hexec : exec .uplinkReportSent s = doWhen (s.awake && reportSent s) s uplinkNext := rfl
  rw [hexec, ha, Bool.true_and]
  rfl

theorem reportSent_iff (s : State) : reportSent s = true ↔ s.events.sending.isSome = true ∧ 18750 ≤ s.events.sentUs := by
  rw [reportSent, Bool.and_eq_true, decide_eq_true_iff]
  rfl

theorem uplinkNext_eq (s : State) : uplinkNext s = { s with events := { s.events with
    sending := s.events.uplink.head?, sentUs := 0, uplink := s.events.uplink.drop 1 } } := by
  unfold uplinkNext
  split
  next h => simp [h]
  next h => simp [h]

theorem pins_uplink {s : State} (ha : s.awake = true) : s.pins.uplink = s.events.uplinkLevel := by
  have hpins : s.pins.uplink = (!s.awake || s.events.uplinkLevel) := rfl
  rw [hpins, ha]
  rfl

/-- Which bit of a report is sent: 9,600 bits to the second (R118). -/
theorem uplinkLevel_eq {t : EventTable} {r : List Byte} (h : t.sending = some r) :
    t.uplinkLevel = (serialLevels r).getD (t.sentUs * 9600 / 1000000) true := by
  have hbit : t.sentUs * 6 / 625 = t.sentUs * 9600 / 1000000 := by omega
  rw [EventTable.uplinkLevel, h, hbit]

end Sys2Proof.Machine

namespace Sys2Proof.Proofs

open Sys2Proof.Machine

/-- Settles O54: each sweep entry by entry, and the uplink port by what it sends. -/
theorem sweepsAct : Obligations.SweepsAct := by
  intro s ha hinv
  have hserials := eventsInv_serials hinv
  obtain ⟨haged, hended, hrepeated, -⟩ := exec_sweeps ha
  refine ⟨haged, ⟨_, ?_, lineOf_endsNow hserials⟩, fun hnone => ?_, ⟨_, hrepeated, ?_⟩, fun hnone => ?_, fun hno => ?_,
    fun hsome hlast => ?_, fun kind own e => ?_, fun hidle => ⟨?_, ?_⟩,
    fun r hr => ⟨?_, serialLevels r, serialLevels_form r, ?_⟩⟩
  · rw [hended, endSweep_eq hinv, tableEnded, endedIn_endsNow hserials]
  · have hfilter : s.events.entries.filter (endsNow s) = [] := by simpa [List.filter_eq_nil_iff] using hnone
    exact hended.trans (congrArg (fun due => Host.Outcome.next (due.foldl (fun u e => endEvent u e.serial) s)) hfilter)
  · rw [repeatSweep_eq]
    exact foldl_sendRepeat s _ hserials (hserials.sublist List.filter_sublist) fun e he => List.mem_of_mem_filter he
  · have hfilter : s.events.entries.filter (repeatIsDue s) = [] := by simpa [List.filter_eq_nil_iff] using hnone
    rw [hrepeated, repeatSweep_eq, hfilter]
    rfl
  · have hnot : ¬reportSent s = true := by
      rw [reportSent_iff]
      rintro ⟨hsome, hlast⟩
      rcases hno with hnone | hearly
      · simp [hnone] at hsome
      · omega
    rw [exec_uplinkReportSent ha, if_neg hnot]
  · rw [exec_uplinkReportSent ha, if_pos ((reportSent_iff s).2 ⟨hsome, hlast⟩), uplinkNext_eq]
  · have hstand := fieldsStand_flatMap (reportFields kind own e (crc16 (((reportBytes kind own e).drop 2).take 14)))
    rwa [← reportBytes_eq_fields] at hstand
  · rw [uplinkTick, hidle]
    rfl
  · rw [pins_uplink ha, EventTable.uplinkLevel, hidle]
  · rw [uplinkTick, hr]
    rfl
  · rw [pins_uplink ha, uplinkLevel_eq hr]

end Sys2Proof.Proofs

/-! SUPPORT. A hold request at the Record Memory: the records that it names, the MARKs that it asks for, and the record that
its event stores (R119, R141). -/

namespace Sys2Proof.Machine

/-! ### The records that a request names (R141) -/

/-- The hold request of an event's key (R119). -/
def requestOf (s : State) (key : Key) (picks : List ArrayTime) : HoldReq :=
  ⟨key, usOf key.time - 5000000, usOf key.time + (s.profile.window : Int) * 1000000, picks⟩

theorem contains_iff (e : DirEntry) (u : Int) : e.contains u = true ↔
    usOf e.firstSet ≤ u ∧ (e.closed = true → ∃ l, e.lastSet = some l ∧ u ≤ usOf l) := by
  unfold DirEntry.contains
  cases e.closed <;> cases e.lastSet <;> simp

theorem overlaps_iff (e : DirEntry) (lo hi : Int) : e.overlaps lo hi = true ↔
    usOf e.firstSet ≤ hi ∧ (e.closed = true → ∃ l, e.lastSet = some l ∧ lo ≤ usOf l) := by
  unfold DirEntry.overlaps
  cases e.closed <;> cases e.lastSet <;> simp

theorem containsPick_iff (picks : List ArrayTime) (e : DirEntry) :
    picks.any (fun t => e.contains (usOf t)) = true ↔ holdsPick picks e := by
  simp only [List.any_eq_true, contains_iff]
  rfl

theorem names_iff (s : State) (key : Key) (picks : List ArrayTime) (e : DirEntry) :
    (requestOf s key picks).names e = true ↔ namedBy s key picks e := by
  unfold HoldReq.names
  rw [Bool.or_eq_true, containsPick_iff, overlaps_iff]
  rfl

/-- The records that a hold request answers with, in the order of the directory. -/
def answered (s : State) (key : Key) (picks : List ArrayTime) : List DirEntry :=
  s.rm.dir.filter (fun e => (requestOf s key picks).names e && e.hold != .released)

theorem mem_answered (s : State) (key : Key) (picks : List ArrayTime) (e : DirEntry) :
    e ∈ answered s key picks ↔ answeredBy s key picks e := by
  unfold answered answeredBy
  rw [List.mem_filter, Bool.and_eq_true, names_iff, bne_iff_ne]

/-! ### The marks that a request asks for (R141) -/

theorem pageProgrammed_iff (s : State) (p : Nat) :
    s.pageProgrammed p = true ↔ ∃ id idx, s.kindOf p = .owned id idx true := by
  unfold State.pageProgrammed
  split
  next id idx done hk => simp [hk]
  next hk =>
    refine iff_of_false Bool.false_ne_true ?_
    rintro ⟨id, idx, ho⟩
    exact hk id idx true ho

theorem mem_holdMark (s : State) (e : DirEntry) (m : MarkReq) : m ∈ holdMark s e ↔
    ∃ p, e.firstPage = some p ∧ (∃ id idx, s.kindOf p = .owned id idx true) ∧ m = ⟨e.id, p, 0⟩ := by
  unfold holdMark
  cases hpage : e.firstPage with
  | none => simp
  | some p =>
    dsimp only
    split
    next h => simp [(pageProgrammed_iff s p).1 h]
    next h => simp [mt (pageProgrammed_iff s p).2 h]

theorem holdMark_pairwise (s : State) (e : DirEntry) : (holdMark s e).Pairwise (fun a b => a.recId < b.recId) := by
  unfold holdMark
  split
  · exact List.Pairwise.nil
  · split
    · exact List.pairwise_singleton _ _
    · exact List.Pairwise.nil

/-- The MARKs that a hold request asks for, in the order of the directory. -/
def marksAsked (s : State) (key : Key) (picks : List ArrayTime) : List MarkReq :=
  (s.rm.dir.filter (fun e => (requestOf s key picks).names e && e.hold == .loose)).flatMap (holdMark s)

theorem mem_marksAsked (s : State) (key : Key) (picks : List ArrayTime) (m : MarkReq) : m ∈ marksAsked s key picks ↔
    ∃ e ∈ s.rm.dir, namedBy s key picks e ∧ e.hold = .loose ∧ ∃ p, e.firstPage = some p ∧
      (∃ id idx, s.kindOf p = .owned id idx true) ∧ m = ⟨e.id, p, 0⟩ := by
  simp only [marksAsked, List.mem_flatMap, List.mem_filter, Bool.and_eq_true, names_iff, beq_iff_eq, mem_holdMark, and_assoc]

theorem marksAsked_pairwise {s : State} (h : s.rm.dir.Pairwise (fun a b => a.id < b.id)) (key : Key)
    (picks : List ArrayTime) : (marksAsked s key picks).Pairwise (fun a b => a.recId < b.recId) := by
  unfold marksAsked
  rw [List.pairwise_flatMap]
  refine ⟨fun e _ => holdMark_pairwise s e, (h.sublist List.filter_sublist).imp fun {a b} hab x hx y hy => ?_⟩
  obtain ⟨_, -, -, rfl⟩ := (mem_holdMark s a x).1 hx
  obtain ⟨_, -, -, rfl⟩ := (mem_holdMark s b y).1 hy
  exact hab

/-! ### The record that is stored (R119) -/

/-- In a directory in order the first record with a property is the least. -/
theorem find_least {dir : List DirEntry} (h : dir.Pairwise (fun a b => a.id < b.id)) {p : DirEntry → Bool} {e : DirEntry}
    (he : e ∈ dir) (hp : p e = true) (hleast : ∀ x ∈ dir, p x = true → e.id ≤ x.id) : dir.find? p = some e := by
  obtain ⟨x, hx⟩ := Option.isSome_iff_exists.1 (List.find?_isSome.2 ⟨e, he, hp⟩)
  obtain ⟨hpx, a, b, rfl, hbefore⟩ := List.find?_eq_some_iff_append.1 hx
  have hle := hleast x (by simp) hpx
  rw [hx]
  rcases List.mem_append.1 he with ha | hb
  · simpa [hp] using hbefore e ha
  · rcases List.mem_cons.1 hb with rfl | hb
    · rfl
    · obtain ⟨-, htail, -⟩ := List.pairwise_append.1 h
      have hlt := (List.pairwise_cons.1 htail).1 e hb
      omega

theorem head_least {dir : List DirEntry} (h : dir.Pairwise (fun a b => a.id < b.id)) {e : DirEntry} (he : e ∈ dir)
    (hleast : ∀ x ∈ dir, e.id ≤ x.id) : dir.head? = some e := by
  have hfind := find_least h (p := fun _ => true) he rfl (fun x hx _ => hleast x hx)
  cases dir with
  | nil => exact absurd he List.not_mem_nil
  | cons x rest => exact hfind

theorem holdAnswer_eq (s : State) (key : Key) (picks : List ArrayTime) : holdAnswer s (requestOf s key picks) =
    match (answered s key picks).find? (fun e => picks.any (fun t => e.contains (usOf t))) with
    | some e => some e.id
    | none => (answered s key picks).head?.map DirEntry.id := rfl

/-- The Record Memory takes a hold request of an event (R119, R141). -/
theorem holdApply_taken {s : State} (h : directoryInv s) (key : Key) (picks : List ArrayTime) :
    holdTaken s key picks (holdApply s (requestOf s key picks)).rm (holdAnswer s (requestOf s key picks)) := by
  obtain ⟨-, hordered, -⟩ := h
  have hanswered : (answered s key picks).Pairwise (fun a b => a.id < b.id) := hordered.sublist List.filter_sublist
  refine ⟨⟨_, marksAsked s key picks, rfl, List.length_map _, fun i e he => ?_, mem_marksAsked s key picks,
    marksAsked_pairwise hordered key picks⟩, fun hnone => ?_, fun e he hp hleast => ?_, fun hnone e he hleast => ?_⟩
  · refine ⟨_, by rw [List.getElem?_map, he, Option.map_some], fun hn => ?_, fun hn => ?_⟩
    · rw [if_neg (mt (names_iff s key picks e).1 hn)]
    · rw [if_pos ((names_iff s key picks e).2 hn)]
      simp only [Option.isNone_iff_eq_none]
      rfl
  · have hempty : answered s key picks = [] :=
      List.eq_nil_iff_forall_not_mem.2 fun e he => hnone e ((mem_answered s key picks e).1 he)
    rw [holdAnswer_eq, hempty]
    rfl
  · rw [holdAnswer_eq, find_least hanswered ((mem_answered s key picks e).2 he) ((containsPick_iff picks e).2 hp)]
    exact fun x hx hpx => hleast x ((mem_answered s key picks x).1 hx) ((containsPick_iff picks x).1 hpx)
  · have hfind : (answered s key picks).find? (fun e => picks.any (fun t => e.contains (usOf t))) = none := by
      rw [List.find?_eq_none]
      exact fun x hx hpx => hnone x ((mem_answered s key picks x).1 hx) ((containsPick_iff picks x).1 hpx)
    rw [holdAnswer_eq, hfind, head_least hanswered ((mem_answered s key picks e).2 he)]
    · rfl
    · exact fun x hx => hleast x ((mem_answered s key picks x).1 hx)

/-- The hold request of an entry of the table, whose answer the entry stores if it names no record yet (R119). -/
theorem Held.requestHold {s : State} {e : EventEntry} (h : Held s e) (hdir : directoryInv s) (picks : List ArrayTime) :
    ∃ rm answer, holdTaken s e.key picks rm answer ∧ requestHold s e.serial picks =
      { putEvent s { e with recordId := e.recordId.or answer } with rm := rm } := by
  refine ⟨_, _, holdApply_taken hdir e.key picks, ?_⟩
  have hstores : ∀ answer : Option Nat, (if e.recordId.isNone then answer else e.recordId) = e.recordId.or answer := by
    cases e.recordId <;> simp
  have hheld : Held (holdApply s (requestOf s e.key picks)) e := h.congr rfl
  rw [Machine.requestHold, h.find]
  dsimp only
  rw [← hstores]
  exact hheld.update (fun x => { x with
    recordId := if x.recordId.isNone then holdAnswer s (requestOf s e.key picks) else x.recordId }) rfl

end Sys2Proof.Machine

/-! SUPPORT. The places of the Event Table, and what follows the making or the completion of an entry by a local declaration:
its report, its first ALERT frame and its hold request (R104 to R107, R113, R119). -/

namespace Sys2Proof.Machine

/-! ### The order of keys (R104) -/

theorem keyBefore_iff (a b : Key) : keyBefore a b = true ↔ keyAhead a b := by
  unfold keyBefore keyAhead
  simp

theorem keyAhead_asymm {a b : Key} (h : keyAhead a b) : ¬keyAhead b a := by
  unfold keyAhead at *
  omega

/-- The search finds none where no entry has the property, and else one that no other is ahead of. -/
theorem firstByKey_spec (p : EventEntry → Bool) (es : List EventEntry) :
    (firstByKey p es = none ∧ ∀ x ∈ es, p x = false) ∨
      ∃ y, firstByKey p es = some y ∧ y ∈ es ∧ p y = true ∧ ∀ x ∈ es, p x = true → ¬keyAhead x.key y.key := by
  induction es with
  | nil => exact .inl ⟨rfl, fun _ h => absurd h List.not_mem_nil⟩
  | cons e rest ih =>
    unfold firstByKey
    rcases ih with ⟨hnone, hno⟩ | ⟨f, hf, hmem, hpf, hfirst⟩
    · rw [hnone]
      cases hp : p e
      · exact .inl ⟨rfl, List.forall_mem_cons.2 ⟨hp, hno⟩⟩
      · refine .inr ⟨e, rfl, List.mem_cons_self, hp, List.forall_mem_cons.2 ⟨fun _ h => keyAhead_asymm h h, ?_⟩⟩
        exact fun x hx hpx => absurd hpx (by simp [hno x hx])
    · rw [hf]
      dsimp only
      right
      split
      next h =>
        obtain ⟨hp, hbefore⟩ := by simpa [← Bool.not_eq_true, keyBefore_iff] using h
        refine ⟨e, rfl, List.mem_cons_self, hp, List.forall_mem_cons.2 ⟨fun _ h => keyAhead_asymm h h, ?_⟩⟩
        intro x hx hpx
        have hxf := hfirst x hx hpx
        unfold keyAhead at *
        omega
      next h =>
        refine ⟨f, rfl, List.mem_cons_of_mem e hmem, hpf, List.forall_mem_cons.2 ⟨fun hp hahead => h ?_, hfirst⟩⟩
        have hbefore : ¬keyBefore f.key e.key = true := mt (keyBefore_iff _ _).1 (keyAhead_asymm hahead)
        simp [hp, hbefore]

theorem firstByKey_eq {p : EventEntry → Bool} {es : List EventEntry} {e : EventEntry} (he : e ∈ es) (hp : p e = true)
    (hfirst : ∀ x ∈ es, p x = true → x ≠ e → keyAhead e.key x.key) : firstByKey p es = some e := by
  rcases firstByKey_spec p es with ⟨-, hno⟩ | ⟨y, hy, hmem, hpy, hbest⟩
  · exact absurd hp (by simp [hno e he])
  · by_cases hye : y = e
    · exact hye ▸ hy
    · exact absurd (hfirst y hmem hpy hye) (hbest e he hp)

theorem firstByKey_none {p : EventEntry → Bool} {es : List EventEntry} (h : ∀ x ∈ es, p x = false) :
    firstByKey p es = none := by
  rcases firstByKey_spec p es with ⟨hnone, -⟩ | ⟨y, -, hmem, hpy, -⟩
  · exact hnone
  · exact absurd hpy (by simp [h y hmem])

/-! ### Places (R106, R107) -/

theorem eq_of_key {s : State} (h : eventsInv s) {a b : EventEntry} (ha : a ∈ s.events.entries) (hb : b ∈ s.events.entries)
    (hk : a.key = b.key) : a = b := by
  obtain ⟨-, hkeys, -⟩ := h
  exact List.inj_on_of_nodup_map (List.pairwise_map.2 hkeys) ha hb hk

theorem find_key {s : State} (h : eventsInv s) {e : EventEntry} (he : e ∈ s.events.entries) :
    s.events.entries.find? (fun x => x.key == e.key) = some e := by
  obtain ⟨x, hx⟩ := Option.isSome_iff_exists.1
    (List.find?_isSome (p := fun x : EventEntry => x.key == e.key).2 ⟨e, he, beq_self_eq_true e.key⟩)
  have hkey : (x.key == e.key) = true := List.find?_some (p := fun x : EventEntry => x.key == e.key) hx
  rw [hx, eq_of_key h (List.mem_of_find?_eq_some hx) he (beq_iff_eq.1 hkey)]

theorem find_key_none {s : State} {key : Key} (h : ∀ e ∈ s.events.entries, e.key ≠ key) :
    s.events.entries.find? (fun x => x.key == key) = none :=
  List.find?_eq_none.2 fun e he hk => h e he (beq_iff_eq.1 hk)

/-- One entry at most gives its place. -/
theorem givesPlace_unique {s : State} (h : eventsInv s) {key : Key} {a b : EventEntry} (ha : givesPlace s key a)
    (hb : givesPlace s key b) : a = b := by
  obtain ⟨hma, hea, hka | ⟨hna, -, hfa⟩⟩ := ha
  · obtain ⟨hmb, -, hkb | ⟨hnb, -⟩⟩ := hb
    · exact eq_of_key h hma hmb (hka.trans hkb.symm)
    · exact absurd hka (hnb a hma)
  · obtain ⟨hmb, heb, hkb | ⟨-, -, hfb⟩⟩ := hb
    · exact absurd hkb (hna b hmb)
    · by_contra hne
      exact keyAhead_asymm (hfa b hmb heb (Ne.symm hne)) (hfb a hma hea hne)

/-- The table with some entries only. -/
def withEvents (s : State) (kept : List EventEntry) : State := { s with events := { s.events with entries := kept } }

/-- The entries that stay when a new one with a key is made, in their order. -/
def keptFor (s : State) (key : Key) (kept : List EventEntry) : Prop :=
  kept.Sublist s.events.entries ∧ ∀ e, e ∈ kept ↔ staysFor s key e

/-- What is left after an entry has given its place. -/
theorem keptFor_without {s : State} (h : eventsInv s) {key : Key} {old : EventEntry} (hold : givesPlace s key old) :
    keptFor s key (s.events.entries.filter (fun e => e.serial != old.serial)) := by
  refine ⟨List.filter_sublist, fun e => ?_⟩
  have hgone : e ∈ s.events.entries → (givesPlace s key e ↔ e.serial = old.serial) := fun he =>
    ⟨fun hg => by rw [givesPlace_unique h hg hold],
      fun hs => by rwa [eq_of_serial (eventsInv_serials h) he hold.1 hs]⟩
  rw [List.mem_filter, bne_iff_ne, staysFor]
  exact and_congr_right fun he => not_congr (hgone he).symm

theorem keptFor_all {s : State} {key : Key} (h : ∀ e, ¬givesPlace s key e) : keptFor s key s.events.entries :=
  ⟨List.Sublist.refl _, fun e => ⟨fun he => ⟨he, h e⟩, fun he => he.1⟩⟩

/-- Room for an entry with a key that no entry has (R107). -/
theorem eventRoom_place {s : State} (h : eventsInv s) {key : Key} (hkey : ∀ e ∈ s.events.entries, e.key ≠ key)
    (hp : placeFor s key) : ∃ kept, eventRoom s = some (withEvents s kept) ∧ keptFor s key kept := by
  by_cases hlen : s.events.entries.length < 8
  · refine ⟨_, if_pos hlen, keptFor_all ?_⟩
    rintro e ⟨he, -, hk | ⟨-, hfull, -⟩⟩
    · exact hkey e he hk
    · omega
  · rcases hp with ⟨old, hold⟩ | ⟨-, hfree⟩
    · refine ⟨_, ?_, keptFor_without h hold⟩
      obtain ⟨hmem, hended, hk | ⟨-, -, hfirst⟩⟩ := hold
      · exact absurd hk (hkey old hmem)
      · have hfound : firstByKey (fun e => !e.active) s.events.entries = some old :=
          firstByKey_eq hmem (by simp [hended]) fun x hx hpx hne => hfirst x hx (by simpa using hpx) hne
        rw [eventRoom, if_neg hlen, hfound]
        rfl
    · exact absurd hfree hlen

theorem eventRoom_none {s : State} {key : Key} (h : noPlace s key) : eventRoom s = none := by
  obtain ⟨-, hfull, hactive⟩ := h
  have hfound : firstByKey (fun e => !e.active) s.events.entries = none :=
    firstByKey_none fun e he => by simp [hactive e he]
  rw [eventRoom, if_neg (by omega), hfound]

/-! ### A declaration at the table (R105 to R107) -/

theorem declareEvent_refused {s : State} {d : Declaration} (h : noPlace s d.key) : declareEvent s d =
    ({ s with events := { s.events with declRefused := bump s.events.declRefused } }, false) := by
  rw [declareEvent, find_key_none h.1, eventRoom_none h]

theorem declareEvent_active {s : State} (h : eventsInv s) {d : Declaration} {e : EventEntry} (he : e ∈ s.events.entries)
    (hk : e.key = d.key) (ha : e.active = true) : declareEvent s d = (completeDeclared s d e.serial, true) := by
  rw [declareEvent, ← hk, find_key h he]
  exact if_pos ha

theorem declareEvent_place {s : State} (h : eventsInv s) {d : Declaration} (hp : placeFor s d.key) :
    ∃ kept, declareEvent s d = (openDeclared (withEvents s kept) d, true) ∧ keptFor s d.key kept := by
  by_cases hkey : ∀ e ∈ s.events.entries, e.key ≠ d.key
  · obtain ⟨kept, hroom, hkept⟩ := eventRoom_place h hkey hp
    refine ⟨kept, ?_, hkept⟩
    rw [declareEvent, find_key_none hkey, hroom]
  · obtain ⟨e, he, hk⟩ : ∃ e ∈ s.events.entries, e.key = d.key := by simpa using hkey
    have hold : givesPlace s d.key e := by
      rcases hp with ⟨x, hx⟩ | ⟨hno, -⟩
      · obtain ⟨hmem, hended, hxk | ⟨hno, -⟩⟩ := hx
        · rw [eq_of_key h he hmem (hk.trans hxk.symm)]
          exact ⟨hmem, hended, .inl hxk⟩
        · exact absurd hk (hno e he)
      · exact absurd hk (hno e he)
    refine ⟨_, ?_, keptFor_without h hold⟩
    rw [declareEvent, ← hk, find_key h he]
    exact if_neg (by simp [hold.2.1])

/-! ### The first ALERT frame and the hold request of an entry (R113, R114, R119) -/

/-- An entry with its repeats to come (R105, step 3). -/
def EventEntry.alerted (e : EventEntry) (p : Profile) (due : Option ArrayTime) : EventEntry :=
  { e with repeatsLeft := p.alertRepeats - 1, repeatDue := due }

/-- An entry with the record that it stores (R119). -/
def EventEntry.storing (e : EventEntry) (answer : Option Nat) : EventEntry :=
  { e with recordId := e.recordId.or answer }

/-- The state after the first ALERT frame of an entry. -/
def frameHanded (s : State) (y : EventEntry) (l : Line) (failed : Nat) : State :=
  { s with
    line := l
    events := { s.events with entries := replaced s.events.entries y, sendFailed := failed } }

theorem alerted_refusedAt {e : EventEntry} (ha : e.active = true) (p : Profile) (now : ArrayTime) :
    (e.alerted p none).refusedAt now =
      e.alerted p (if 0 < p.alertRepeats - 1 then some (addUs now 2000000) else none) := by
  unfold EventEntry.refusedAt EventEntry.alerted
  simp only [ha, true_and]
  split <;> rfl

/-- The content of the first frame: repeat number 1 (R113). -/
theorem alertContent_alerted (e : EventEntry) {p : Profile} (h : 1 ≤ p.alertRepeats) : alertContent p (e.alerted p none) =
    { serial := e.serial, key := e.key, repeatNo := 1, best := e.best, amp := e.amp, origins := e.votes.take 16 } := by
  have hnumber : p.alertRepeats - (p.alertRepeats - 1) = 1 := by omega
  unfold alertContent EventEntry.alerted
  rw [hnumber]

/-- The first ALERT frame of an entry (R105, R113, R114). -/
theorem Held.startAlerts {s : State} {e : EventEntry} (h : Held s e) (ha : e.active = true)
    (hrepeats : 1 ≤ s.profile.alertRepeats) : ∃ due l failed,
      startAlerts s e.serial = frameHanded s (e.alerted s.profile due) l failed ∧
      firstAlert s (frameHanded s (e.alerted s.profile due) l failed) (e.alerted s.profile due) := by
  have hstart : Machine.startAlerts s e.serial = handAlert (putEvent s (e.alerted s.profile none)) e.serial :=
    congrArg (handAlert · e.serial) (h.update (fun x => x.alerted s.profile none) rfl)
  have hput : Held (putEvent s (e.alerted s.profile none)) (e.alerted s.profile none) := h.put rfl
  obtain ⟨l, r, ho⟩ : ∃ l r, s.line.offer (.alert (alertContent s.profile (e.alerted s.profile none))) none = (l, r) :=
    ⟨_, _, rfl⟩
  have hfirst := alertContent_alerted e hrepeats ▸ ho
  have hr : r = .accepted ∨ r = .refused := by
    simpa [ho] using offer_alert s.line (alertContent s.profile (e.alerted s.profile none))
  rw [hstart]
  rcases hr with rfl | rfl
  · exact ⟨none, l, s.events.sendFailed, hput.handAlert_accepted ho, rfl, l, _, rfl, hfirst, fun _ => ⟨rfl, rfl⟩, nofun⟩
  · refine ⟨if 0 < s.profile.alertRepeats - 1 then some (addUs s.tb.clock 2000000) else none, l,
      bump s.events.sendFailed, (hput.handAlert_refused ho).trans ?_, rfl, l, _, rfl, hfirst,
      fun hne => absurd rfl hne, fun _ => ⟨rfl, rfl⟩⟩
    rw [alerted_refusedAt ha]
    simp only [putEvent, frameHanded]
    rw [replaced_replaced]
    rfl

/-- An entry after its first ALERT frame and its hold request. -/
def EventEntry.handed (e : EventEntry) (p : Profile) (due : Option ArrayTime) (answer : Option Nat) : EventEntry :=
  (e.alerted p due).storing answer

/-- What follows the making or the completion of an entry by a declaration: its first ALERT frame, and its hold request with
the picks that joined (R105, R106, R119). -/
theorem Held.handOn {s : State} {e : EventEntry} (h : Held s e) (ha : e.active = true)
    (hrepeats : 1 ≤ s.profile.alertRepeats) (hdir : directoryInv s) (picks : List ArrayTime) :
    ∃ due l failed rm answer, Machine.requestHold (Machine.startAlerts s e.serial) e.serial picks =
        { frameHanded s (e.handed s.profile due answer) l failed with rm := rm } ∧
      firstAlert s (frameHanded s (e.handed s.profile due answer) l failed) (e.handed s.profile due answer) ∧
      holdTaken s e.key picks rm answer := by
  obtain ⟨due, l, failed, hstart, hfirst⟩ := h.startAlerts ha hrepeats
  have hheld : Held (frameHanded s (e.alerted s.profile due) l failed) (e.alerted s.profile due) :=
    (h.put (y := e.alerted s.profile due) rfl).congr rfl
  obtain ⟨rm, answer, htaken, hstate⟩ := hheld.requestHold hdir picks
  refine ⟨due, l, failed, rm, answer, ?_, hfirst, htaken⟩
  rw [hstart]
  refine hstate.trans ?_
  simp only [putEvent, frameHanded]
  rw [replaced_replaced]
  · rfl
  · rfl

/-- The first ALERT frame reads the profile, the line, the count of failures and local time alone. -/
theorem firstAlert_congr {s u t v : State} {y : EventEntry} (h : firstAlert u t y) (hp : u.profile = s.profile)
    (hl : u.line = s.line) (hf : u.events.sendFailed = s.events.sendFailed) (hc : u.tb = s.tb) (htl : v.line = t.line)
    (htf : v.events.sendFailed = t.events.sendFailed) : firstAlert s v y := by
  unfold firstAlert at *
  rwa [hp, hl, hf, hc, ← htl, ← htf] at h

/-! ### A new entry of a declaration (R105) -/

theorem reported_leaves (s : State) (kind : Nat) (e : EventEntry) (t : EventTable) : reported s kind e t = { t with
    sending := (reported s kind e t).sending, sentUs := (reported s kind e t).sentUs
    uplink := (reported s kind e t).uplink, uplinkDropped := (reported s kind e t).uplinkDropped } := by
  unfold reported portTakes
  split
  · split
    · rfl
    · split <;> rfl
  · rfl

/-- A report at the port, as the table stands with other entries (R117, R118). -/
theorem reported_formed {s : State} {kind : Nat} {e y : EventEntry} {t : EventTable} (entries : List EventEntry)
    (failed : Nat) (hsending : t.sending = s.events.sending) (hsent : t.sentUs = s.events.sentUs)
    (huplink : t.uplink = s.events.uplink) (hdropped : t.uplinkDropped = s.events.uplinkDropped)
    (hbytes : reportBytes kind s.own e = reportBytes kind s.own y) :
    reportFormed s kind y { reported s kind e t with entries := entries, sendFailed := failed } := by
  rintro port rfl
  unfold reported portTakes
  rw [← hsending, ← hsent, ← huplink, ← hdropped, ← hbytes]
  refine ⟨fun hrole => by simp [hrole], fun hrole => ⟨fun hidle => ?_, fun hbusy => ⟨fun hroom => ?_, fun hfull => ?_⟩⟩⟩
  · simp [hrole, hidle]
  · simp [hrole, Option.isSome_iff_ne_none.1 hbusy, hroom]
  · simp [hrole, Option.isSome_iff_ne_none.1 hbusy, Nat.not_lt.2 hfull]

/-- The table with a new entry, and the ALERT line formed again. -/
def entryAdded (s : State) (e : EventEntry) : State :=
  { s with events := { s.events with
    entries := s.events.entries ++ [e], nextSerial := s.events.nextSerial + 1
    alertLine := lineOf s.profile (s.events.entries ++ [e]) } }

theorem replaced_append_new {es : List EventEntry} {e y : EventEntry} (hnew : ∀ x ∈ es, x.serial ≠ e.serial)
    (hy : y.serial = e.serial) : replaced (es ++ [e]) y = es ++ [y] := by
  unfold replaced
  rw [List.map_append, List.map_singleton, if_pos hy.symm]
  refine congrArg (· ++ [y]) ((List.map_congr_left fun x hx => ?_).trans (List.map_id es))
  exact if_neg (hy ▸ hnew x hx)

/-- A declaration makes an entry: its report, its first ALERT frame and its hold request (R105). -/
theorem openDeclared_made {s : State} (hdiffer : SerialsDiffer s.events.entries)
    (hnew : ∀ x ∈ s.events.entries, x.serial < s.events.nextSerial) (hrepeats : 1 ≤ s.profile.alertRepeats)
    (hdir : directoryInv s) (d : Declaration) : ∃ t y due answer, openDeclared s d = t ∧
      t = { s with events := t.events, line := t.line, rm := t.rm } ∧ t.events.entries = s.events.entries ++ [y] ∧
      y = (declaredEntry s d).handed s.profile due answer ∧ reportFormed s 1 y t.events ∧ firstAlert s t y ∧
      holdTaken s d.key d.ownPicks t.rm answer := by
  have hserial : ∀ x ∈ s.events.entries, x.serial ≠ (declaredEntry s d).serial := fun x hx => (hnew x hx).ne
  have hadded : Held (entryAdded s (declaredEntry s d)) (declaredEntry s d) :=
    ⟨List.pairwise_append.2 ⟨hdiffer, List.pairwise_singleton _ _,
      fun x hx z hz => List.mem_singleton.1 hz ▸ hserial x hx⟩, List.mem_append_right _ List.mem_cons_self⟩
  have hleaves := reported_leaves s 1 (declaredEntry s d) (entryAdded s (declaredEntry s d)).events
  generalize hport : reported s 1 (declaredEntry s d) (entryAdded s (declaredEntry s d)).events = port at hleaves
  have hreport : reportOf (entryAdded s (declaredEntry s d)) 1 (declaredEntry s d).serial =
      { entryAdded s (declaredEntry s d) with events := port } := hport ▸ hadded.report 1
  have hheld : Held { entryAdded s (declaredEntry s d) with events := port } (declaredEntry s d) :=
    hadded.congr (hleaves ▸ rfl)
  obtain ⟨due, l, failed, rm, answer, hstate, hfirst, htaken⟩ := hheld.handOn rfl hrepeats hdir d.ownPicks
  have hopened := (congrArg (fun u => requestHold (startAlerts u (declaredEntry s d).serial) (declaredEntry s d).serial
    d.ownPicks) hreport).trans hstate
  refine ⟨_, (declaredEntry s d).handed s.profile due answer, due, answer, hopened, ?_⟩
  refine ⟨rfl, ?_, rfl, ?_, ?_, htaken⟩
  · exact (congrArg (fun es => replaced es _) (hleaves ▸ rfl)).trans (replaced_append_new hserial rfl)
  · subst hport
    exact reported_formed _ failed rfl rfl rfl rfl rfl
  · exact firstAlert_congr hfirst rfl rfl (hleaves ▸ rfl) rfl rfl rfl

end Sys2Proof.Machine

/-! SUPPORT. The evaluation of a new entry of the Pick List: its attachment to an event, and the search for a declaration
(R91 to R99, R105 to R108). -/

namespace Sys2Proof.Machine

/-! ### The completion of an entry by a declaration (R106) -/

/-- Origins appended in order are those of R106. -/
theorem appendVotes_joined (votes new : List Nat) : joined votes new (appendVotes votes new) := by
  unfold joined
  induction new generalizing votes with
  | nil => simp [appendVotes]
  | cons o rest ih =>
    unfold appendVotes
    by_cases hin : o ∈ votes
    · rw [if_pos (by simp [hin]), ih, List.filter_cons_of_neg (by simp [hin])]
    · rw [List.filter_cons_of_pos (by simp [hin]), List.eraseDups_cons]
      by_cases hroom : 24 ≤ votes.length
      · rw [if_pos (by simp [hroom]), ih, Nat.sub_eq_zero_of_le hroom, List.take_zero, List.take_zero]
      · have hleft : 24 - votes.length = 24 - (votes ++ [o]).length + 1 := by
          rw [List.length_append, List.length_singleton]
          omega
        have hrest : (rest.filter (fun x => decide (x ∉ votes))).filter (fun x => !(x == o)) =
            rest.filter (fun x => decide (x ∉ votes ++ [o])) := by
          rw [List.filter_filter]
          refine List.filter_congr fun x _ => ?_
          by_cases hx : x = o <;> simp [hx, hin]
        rw [if_neg (by simp [hin, hroom]), ih, hleft, List.take_succ_cons, hrest, List.append_assoc,
          List.singleton_append]

/-- An ACTIVE entry that a declaration completes (R106). -/
def completedEntry (s : State) (d : Declaration) (e : EventEntry) : EventEntry :=
  { e with
    localDecl := true
    declaredBy := if e.declaredBy.contains s.own then e.declaredBy else e.declaredBy ++ [s.own]
    votes := appendVotes e.votes d.votes
    best := min e.best d.best
    amp := max e.amp d.amp
    kNeeded := some d.kNeeded
    position := some d.position
    lastActivity := s.tb.clock }

/-- A declaration completes an entry: its first ALERT frame and its hold request (R106). -/
theorem Held.completeDeclared {s : State} {e : EventEntry} (h : Held s e) (ha : e.active = true)
    (hrepeats : 1 ≤ s.profile.alertRepeats) (hdir : directoryInv s) (d : Declaration) : ∃ t y due answer,
      completeDeclared s d e.serial = t ∧ t = { s with events := t.events, line := t.line, rm := t.rm } ∧
      t.events.entries = replaced s.events.entries y ∧
      y = (completedEntry s d e).handed s.profile due answer ∧ firstAlert s t y ∧
      holdTaken s e.key d.ownPicks t.rm answer ∧ t.events.uplink = s.events.uplink ∧
      t.events.sending = s.events.sending := by
  have hupdate : eventUpdate s e.serial (completedEntry s d) = putEvent s (completedEntry s d e) := h.update _ rfl
  have hheld : Held (formAlertLine (putEvent s (completedEntry s d e))) (completedEntry s d e) :=
    (h.put (y := completedEntry s d e) rfl).congr rfl
  obtain ⟨due, l, failed, rm, answer, hstate, hfirst, htaken⟩ := hheld.handOn ha hrepeats hdir d.ownPicks
  have hcompleted := (congrArg (fun u => Machine.requestHold (Machine.startAlerts (formAlertLine u) e.serial) e.serial
    d.ownPicks) hupdate).trans hstate
  exact ⟨_, (completedEntry s d e).handed s.profile due answer, due, answer, hcompleted, rfl, replaced_replaced _ rfl, rfl,
    firstAlert_congr hfirst rfl rfl rfl rfl rfl rfl, htaken, rfl, rfl⟩

/-! ### The declaration of a candidate set (R95, R96) -/

/-- The least value on a list, with a value to begin with. -/
theorem foldl_min_spec {α β : Type} [LinearOrder β] (f : α → β) (l : List α) (g : β) :
    l.foldl (fun m x => min m (f x)) g ≤ g ∧ (∀ x ∈ l, l.foldl (fun m x => min m (f x)) g ≤ f x) ∧
      (l.foldl (fun m x => min m (f x)) g = g ∨ ∃ x ∈ l, f x = l.foldl (fun m x => min m (f x)) g) := by
  induction l generalizing g with
  | nil => exact ⟨le_rfl, fun _ h => absurd h List.not_mem_nil, .inl rfl⟩
  | cons a rest ih =>
    obtain ⟨hle, hall, hreached⟩ := ih (min g (f a))
    rw [List.foldl_cons]
    refine ⟨hle.trans (min_le_left _ _), List.forall_mem_cons.2 ⟨hle.trans (min_le_right _ _), hall⟩, ?_⟩
    rcases hreached with heq | ⟨x, hx, hfx⟩
    · rcases min_choice g (f a) with hg | ha
      · exact .inl (heq.trans hg)
      · exact .inr ⟨a, List.mem_cons_self, (heq.trans ha).symm⟩
    · exact .inr ⟨x, List.mem_cons_of_mem a hx, hfx⟩

/-- The greatest value on a list, with a value to begin with. -/
theorem foldl_max_spec {α : Type} (f : α → Nat) (l : List α) (g : Nat) :
    g ≤ l.foldl (fun m x => max m (f x)) g ∧ (∀ x ∈ l, f x ≤ l.foldl (fun m x => max m (f x)) g) ∧
      (l.foldl (fun m x => max m (f x)) g = g ∨ ∃ x ∈ l, f x = l.foldl (fun m x => max m (f x)) g) :=
  foldl_min_spec (β := ℕᵒᵈ) f l g

/-- The best grade and the amplitude class of a declaration are its members' (R96). -/
theorem declarationOf_spec (s : State) {f : PickEntry} {members : List PickEntry} (hf : f ∈ members) :
    (∀ m ∈ members, (declarationOf s f members).best ≤ m.grade ∧ m.amp ≤ (declarationOf s f members).amp) ∧
      (∃ m ∈ members, m.grade = (declarationOf s f members).best) ∧
      ∃ m ∈ members, m.amp = (declarationOf s f members).amp := by
  obtain ⟨-, hbest, hgrade⟩ := foldl_min_spec PickEntry.grade members f.grade
  obtain ⟨-, hamp, hclass⟩ := foldl_max_spec PickEntry.amp members f.amp
  exact ⟨fun m hm => ⟨hbest m hm, hamp m hm⟩, hgrade.elim (fun h => ⟨f, hf, h.symm⟩) id,
    hclass.elim (fun h => ⟨f, hf, h.symm⟩) id⟩

/-- The best grade and the amplitude class of an entry that a declaration completes (R106). -/
theorem completedEntry_spec (s : State) {f : PickEntry} {members : List PickEntry} {e y : EventEntry} (hf : f ∈ members)
    (hy : y = completedEntry s (declarationOf s f members) e) :
    (∀ m ∈ members, y.best ≤ m.grade ∧ m.amp ≤ y.amp) ∧ y.best ≤ e.best ∧ e.amp ≤ y.amp ∧
      (y.best = e.best ∨ ∃ m ∈ members, m.grade = y.best) ∧ (y.amp = e.amp ∨ ∃ m ∈ members, m.amp = y.amp) := by
  obtain ⟨hall, ⟨g, hg, hgrade⟩, ⟨c, hc, hclass⟩⟩ := declarationOf_spec s hf
  have hbest : y.best = min e.best (declarationOf s f members).best := by rw [hy]; rfl
  have hamp : y.amp = max e.amp (declarationOf s f members).amp := by rw [hy]; rfl
  rw [hbest, hamp]
  refine ⟨fun m hm => ⟨(min_le_right _ _).trans (hall m hm).1, (hall m hm).2.trans (le_max_right _ _)⟩, min_le_left _ _,
    le_max_left _ _, ?_, ?_⟩
  · exact (min_choice _ _).imp id fun h => ⟨g, hg, hgrade.trans h.symm⟩
  · exact (max_choice _ _).imp id fun h => ⟨c, hc, hclass.trans h.symm⟩

theorem completedEntry_declaredBy (s : State) (d : Declaration) (e : EventEntry) : (completedEntry s d e).declaredBy =
    if s.own ∈ e.declaredBy then e.declaredBy else e.declaredBy ++ [s.own] := by
  unfold completedEntry
  simp only [List.contains_iff_mem]

theorem declarationOf_ownPicks (s : State) (f : PickEntry) (members : List PickEntry) :
    (declarationOf s f members).ownPicks =
      (members.filter (fun m => decide (s.ownId = some m.origin))).map PickEntry.time := by
  unfold declarationOf
  simp only [beq_eq_decide]

/-- The declaration of the candidate set of a first member (R96). -/
abbrev declarationFrom (s : State) (f : PickEntry) : Declaration := declarationOf s f ((candidateSet s f).take 24)

theorem first_mem_candidates (s : State) (f : PickEntry) : f ∈ (candidateSet s f).take 24 := List.mem_cons_self

/-! ### The search (R95 to R97) -/

theorem free_iff (e : PickEntry) : e.free = true ↔ e.assigned = none ∧ e.counted = true := by
  unfold PickEntry.free
  rw [Bool.and_eq_true, Option.isNone_iff_eq_none]

/-- The members of a declaration assigned to its event, and the declaration counted (R97). -/
def declaredPicks (s : State) (key : Key) (members : List PickEntry) : PickList :=
  { s.picks with
    entries := s.picks.entries.map (fun y => if members.any (fun m => m.origin == y.origin && m.seq == y.seq)
      then { y with assigned := some key } else y)
    declared := min (s.picks.declared + 1) 65535 }

theorem anySame_eq (members : List PickEntry) (y : PickEntry) :
    members.any y.same = members.any (fun m => m.origin == y.origin && m.seq == y.seq) := by
  unfold PickEntry.same
  simp only [Bool.beq_comm]

theorem declareSearch_none {s : State} (h : ∀ f, freePick s f → (candidateSet s f).length < kNeeded s) :
    declareSearch s = s := by
  have hnone : s.picks.entries.find? (fun f => f.free && decide (kNeeded s ≤ (candidateSet s f).length)) = none := by
    refine List.find?_eq_none.2 fun f hf hp => ?_
    obtain ⟨hfree, hsize⟩ := by simpa only [Bool.and_eq_true, free_iff, decide_eq_true_iff] using hp
    exact absurd hsize (Nat.not_le.2 (h f ⟨hf, hfree⟩))
  rw [declareSearch, hnone]

section
variable {s : State} {a b : List PickEntry} {f : PickEntry} (hsplit : s.picks.entries = a ++ f :: b) (hfree : freePick s f)
  (hsize : kNeeded s ≤ (candidateSet s f).length)
  (hbefore : ∀ y ∈ a, freePick s y → (candidateSet s y).length < kNeeded s)
include hsplit hfree hsize hbefore

/-- The search finds the first candidate whose set reaches K_needed (R95). -/
theorem declareSearch_found :
    s.picks.entries.find? (fun f => f.free && decide (kNeeded s ≤ (candidateSet s f).length)) = some f := by
  refine List.find?_eq_some_iff_append.2 ⟨?_, a, b, hsplit, fun y hy => ?_⟩
  · simp [(free_iff f).2 hfree.2, hsize]
  · have hmem : y ∈ s.picks.entries := hsplit ▸ List.mem_append_left _ hy
    by_contra hp
    obtain ⟨hy', hreach⟩ := by simpa only [Bool.not_eq_true', Bool.not_eq_false, Bool.and_eq_true, free_iff,
      decide_eq_true_iff] using hp
    exact absurd hreach (Nat.not_le.2 (hbefore y hy ⟨hmem, hy'⟩))

theorem declareSearch_refused (h : noPlace s ⟨f.origin, f.time⟩) : declareSearch s =
    { s with events := { s.events with declRefused := bump s.events.declRefused } } := by
  rw [declareSearch, declareSearch_found hsplit hfree hsize hbefore]
  dsimp only
  rw [declareEvent_refused (d := declarationFrom s f) h]
  rfl

/-- A declaration that the Event Table accepts. -/
theorem declareSearch_accepted {u : State} (hpicks : u.picks = s.picks)
    (h : declareEvent s (declarationFrom s f) = (u, true)) : declareSearch s =
      { u with picks := declaredPicks s ⟨f.origin, f.time⟩ ((candidateSet s f).take 24) } := by
  rw [declareSearch, declareSearch_found hsplit hfree hsize hbefore]
  dsimp only
  rw [h]
  simp only [assignPicks, anySame_eq, hpicks]
  rfl

end

/-! ### An attachment (R92, R93, R108) -/

theorem attaches_iff (s : State) (n : PickEntry) (e : EventEntry) :
    e ∈ s.events.entries ∧ attaches s n e = true ↔ attachable s n e := by
  unfold attaches attachable
  simp only [positionGiven_iff, Bool.and_eq_true, Bool.not_eq_true', decide_eq_true_iff, and_assoc]
  cases firstPosition s e <;> simp [PickEntry.place]

/-- Where a new entry is evaluated: below shed level 3, and not in listen-only (R91). -/
theorem evaluates {s : State} (hshed : s.bat.shed ≠ 3) (hlisten : s.listenOnly = false) :
    ¬(decide (s.bat.shed = 3) || s.listenOnly) = true := by
  simp [hshed, hlisten]

theorem assignPicks_same (s : State) (key : Key) (n : PickEntry) : assignPicks s key n.same =
    { s with picks := { s.picks with
      entries := s.picks.entries.map (fun y =>
        if y.origin = n.origin ∧ y.seq = n.seq then { y with assigned := some key } else y) } } := by
  unfold assignPicks
  simp only [same_iff, eq_comm (a := n.origin), eq_comm (a := n.seq)]

/-- An event with the vote of a new entry (R108). -/
def votedEntry (s : State) (n : PickEntry) (e : EventEntry) : EventEntry :=
  { e with
    votes := e.votes ++ [n.origin], best := min e.best n.grade, amp := max e.amp n.amp, lastActivity := s.tb.clock }

/-- A new entry attaches to an event, which makes its hold request (R108, R119). -/
theorem Held.attachVote {s : State} {e : EventEntry} (h : Held s e) (hdir : directoryInv s) (n : PickEntry) :
    ∃ rm answer, holdTaken s e.key (if s.ownId = some n.origin then [n.time] else []) rm answer ∧
      attachVote (assignPicks s e.key n.same) e.serial n = { s with
        rm := rm
        picks := { s.picks with
          entries := s.picks.entries.map (fun y =>
            if y.origin = n.origin ∧ y.seq = n.seq then { y with assigned := some e.key } else y) }
        events := { s.events with entries := replaced s.events.entries ((votedEntry s n e).storing answer) } } := by
  have hassigned : Held (assignPicks s e.key n.same) e := h.congr rfl
  have hupdate : eventUpdate (assignPicks s e.key n.same) e.serial (votedEntry s n) =
      putEvent (assignPicks s e.key n.same) (votedEntry s n e) := hassigned.update _ rfl
  have hheld : Held (putEvent (assignPicks s e.key n.same) (votedEntry s n e)) (votedEntry s n e) := hassigned.put rfl
  obtain ⟨rm, answer, htaken, hstate⟩ := hheld.requestHold hdir (if s.ownId = some n.origin then [n.time] else [])
  have hvoted := (congrArg (fun u => Machine.requestHold u e.serial (if s.ownId = some n.origin then [n.time] else []))
    hupdate).trans hstate
  refine ⟨rm, answer, htaken, hvoted.trans ?_⟩
  rw [assignPicks_same]
  simp only [putEvent]
  rw [replaced_replaced]
  · rfl
  · rfl

theorem evaluatePick_attaches {s : State} (hshed : s.bat.shed ≠ 3)
    (hlisten : s.listenOnly = false) {n : PickEntry} {e : EventEntry} (he : attachable s n e)
    (hfirst : ∀ x, attachable s n x → x ≠ e → keyAhead e.key x.key) :
    evaluatePick s n = attachVote (assignPicks s e.key n.same) e.serial n := by
  obtain ⟨hmem, hattaches⟩ := (attaches_iff s n e).2 he
  have hfound : firstByKey (attaches s n) s.events.entries = some e :=
    firstByKey_eq hmem hattaches fun x hx hax hne => hfirst x ((attaches_iff s n x).1 ⟨hx, hax⟩) hne
  rw [evaluatePick, if_neg (evaluates hshed hlisten), hfound]

theorem evaluatePick_searches {s : State} (hshed : s.bat.shed ≠ 3) (hlisten : s.listenOnly = false) {n : PickEntry}
    (h : ∀ e, ¬attachable s n e) : evaluatePick s n = declareSearch s := by
  have hnone : firstByKey (attaches s n) s.events.entries = none :=
    firstByKey_none fun e he => Bool.eq_false_iff.2 fun ha => h e ((attaches_iff s n e).1 ⟨he, ha⟩)
  rw [evaluatePick, if_neg (evaluates hshed hlisten), hnone]

end Sys2Proof.Machine

namespace Sys2Proof.Proofs

open Sys2Proof.Machine

/-- Settles O34: an attachment, else the search, whose declaration is refused, makes an entry or completes one. -/
theorem newEntryIsEvaluated : Obligations.NewEntryIsEvaluated := by
  intro s n hevents _ hdir hprofile _ _
  have hserials := eventsInv_serials hevents
  have hrepeats : 1 ≤ s.profile.alertRepeats := by
    obtain ⟨-, -, -, -, ⟨-, -, hle, -⟩, -⟩ := hprofile
    exact hle
  refine ⟨fun hoff => if_pos (by simpa using hoff), fun hshed hlisten => ⟨fun e he hfirst => ?_, fun hno => ?_⟩⟩
  · obtain ⟨rm, answer, htaken, hstate⟩ := Held.attachVote ⟨hserials, he.1⟩ hdir n
    exact ⟨rm, answer, htaken, (evaluatePick_attaches hshed hlisten he hfirst).trans hstate⟩
  rw [evaluatePick_searches hshed hlisten hno]
  refine ⟨declareSearch_none, ?_⟩
  rintro a f b _ hsplit hfree hsize hbefore rfl _ _ _ rfl rfl rfl
  have hmem := first_mem_candidates s f
  obtain ⟨hall, hgrade, hclass⟩ := declarationOf_spec s hmem
  refine ⟨declareSearch_refused hsplit hfree hsize hbefore, fun hplace => ?_, fun e he hkey hactive => ?_⟩
  · obtain ⟨kept, hdeclared, hsub, hkept⟩ := declareEvent_place hevents (d := declarationFrom s f) hplace
    have hnew : ∀ x ∈ kept, x.serial < s.events.nextSerial := by
      obtain ⟨-, -, -, hlt, -⟩ := hevents
      exact fun x hx => hlt x (hsub.subset hx)
    obtain ⟨t, y, due, answer, ht, hframe, hentries, hy, hreport, hfirst, htaken⟩ :=
      openDeclared_made (s := withEvents s kept) (hserials.sublist hsub) hnew hrepeats hdir (declarationFrom s f)
    rw [ht] at hdeclared
    refine ⟨_, declareSearch_accepted hsplit hfree hsize hbefore (by rw [hframe]; rfl) hdeclared, by rw [hframe]; rfl,
      fun e he => hentries ▸ List.mem_append_left [y] ((hkept e).2 he), y,
      hentries ▸ List.mem_append_right kept List.mem_cons_self, fun z hz => ?_, ?_⟩
    · rcases List.mem_append.1 (hentries ▸ hz) with hz | hz
      · exact .inr ((hkept z).1 hz)
      · exact .inl (List.mem_singleton.1 hz)
    subst hy
    exact ⟨rfl, rfl, rfl, rfl, rfl, rfl, hall, hgrade, hclass, rfl, rfl, hreport, hfirst,
      declarationOf_ownPicks s f _ ▸ htaken⟩
  · obtain ⟨t, y, due, answer, ht, hframe, hentries, hy, hfirst, htaken, huplink, hsending⟩ :=
      Held.completeDeclared ⟨hserials, he⟩ hactive hrepeats hdir (declarationFrom s f)
    have hdeclared := declareEvent_active hevents (d := declarationFrom s f) he hkey hactive
    rw [ht] at hdeclared
    refine ⟨_, y, declareSearch_accepted hsplit hfree hsize hbefore (by rw [hframe]) hdeclared, by rw [hframe]; rfl, ?_⟩
    obtain ⟨hall', hbest, hamp, hgrade', hclass'⟩ := completedEntry_spec s (e := e) hmem rfl
    subst hy
    exact ⟨hentries, rfl, hkey, hactive, rfl, completedEntry_declaredBy s (declarationFrom s f) e, appendVotes_joined _ _,
      rfl, hall', hbest, hamp, hgrade', hclass', rfl, rfl, hfirst,
      ⟨answer, hkey ▸ declarationOf_ownPicks s f _ ▸ htaken, rfl⟩, huplink, hsending⟩

end Sys2Proof.Proofs

/-! SUPPORT. The entry that a received ALERT matches (R110). -/

namespace Sys2Proof.Machine

/-- One entry is a better match for a time than another (R110). -/
def matchesBefore (t : ArrayTime) (a b : EventEntry) : Prop :=
  keyDistance a t < keyDistance b t ∨ (keyDistance a t = keyDistance b t ∧
    (a.key.origin < b.key.origin ∨ (a.key.origin = b.key.origin ∧ usOf a.key.time < usOf b.key.time)))

theorem betterMatch_iff (t : ArrayTime) (a b : EventEntry) : betterMatch t a b = true ↔ matchesBefore t a b := by
  unfold betterMatch matchesBefore
  simp

theorem matchesBefore_asymm {t : ArrayTime} {a b : EventEntry} (h : matchesBefore t a b) : ¬matchesBefore t b a := by
  unfold matchesBefore at *
  omega

/-- The search finds none where no entry is near enough, and else one that no other near entry is matched before. -/
theorem matchAlert_spec (w : Nat) (t : ArrayTime) (es : List EventEntry) :
    (matchAlert w t es = none ∧ ∀ x ∈ es, w * 1000000 < keyDistance x t) ∨
      ∃ y, matchAlert w t es = some y ∧ y ∈ es ∧ keyDistance y t ≤ w * 1000000 ∧
        ∀ x ∈ es, keyDistance x t ≤ w * 1000000 → ¬matchesBefore t x y := by
  induction es with
  | nil => exact .inl ⟨rfl, fun _ h => absurd h List.not_mem_nil⟩
  | cons e rest ih =>
    unfold matchAlert
    rcases ih with ⟨hnone, hno⟩ | ⟨f, hf, hmem, hnear, hfirst⟩
    · rw [hnone]
      by_cases he : keyDistance e t ≤ w * 1000000
      · refine .inr ⟨e, if_pos he, List.mem_cons_self, he, List.forall_mem_cons.2 ⟨fun _ h => matchesBefore_asymm h h, ?_⟩⟩
        exact fun x hx hnear => absurd hnear (Nat.not_le.2 (hno x hx))
      · exact .inl ⟨if_neg he, List.forall_mem_cons.2 ⟨Nat.lt_of_not_le he, hno⟩⟩
    · rw [hf]
      dsimp only
      right
      split
      next h =>
        obtain ⟨he, hbetter⟩ := by simpa [← Bool.not_eq_true, betterMatch_iff] using h
        refine ⟨e, rfl, List.mem_cons_self, he, List.forall_mem_cons.2 ⟨fun _ h => matchesBefore_asymm h h, ?_⟩⟩
        intro x hx hxnear
        have hxf := hfirst x hx hxnear
        unfold matchesBefore at *
        omega
      next h =>
        refine ⟨f, rfl, List.mem_cons_of_mem e hmem, hnear, List.forall_mem_cons.2 ⟨fun he hbefore => h ?_, hfirst⟩⟩
        have hbetter : ¬betterMatch t f e = true := mt (betterMatch_iff t f e).1 (matchesBefore_asymm hbefore)
        simp [he, hbetter]

/-- An entry that the search finds stands in the table. -/
theorem mem_of_matchAlert {w : Nat} {t : ArrayTime} {es : List EventEntry} {e : EventEntry}
    (h : matchAlert w t es = some e) : e ∈ es := by
  rcases matchAlert_spec w t es with ⟨hnone, -⟩ | ⟨y, hy, hmem, -⟩
  · rw [hnone] at h
    cases h
  · cases hy.symm.trans h
    exact hmem

/-- Where the search finds none, no entry has a key of that time. -/
theorem time_ne_of_matchAlert {w : Nat} {t : ArrayTime} {es : List EventEntry} (h : matchAlert w t es = none)
    {e : EventEntry} (he : e ∈ es) : e.key.time ≠ t := by
  rcases matchAlert_spec w t es with ⟨-, hno⟩ | ⟨y, hy, -⟩
  · rintro rfl
    have hfar := hno e he
    rw [keyDistance, diffUs_self] at hfar
    exact absurd hfar (Nat.not_lt_zero _)
  · rw [hy] at h
    cases h

end Sys2Proof.Machine

/-! SUPPORT. The Event Table under every operation: its bounds and the agreement of the ALERT line with its entries (R104,
R116), and what the part holds while step 1 of a start is to come. -/

namespace Sys2Proof.Machine

/-! ### The bounds of the table -/

/-- The bounds of the Event Table: 8 entries of distinct keys and serials, the station itself in a declared-by list only of an
event it declared, and 16 reports. -/
structure EventTable.Arranged (own : Nat) (t : EventTable) : Prop where
  room : t.entries.length ≤ 8
  keys : t.entries.Pairwise (fun a b => a.key ≠ b.key)
  serials : SerialsDiffer t.entries
  numbered : ∀ e ∈ t.entries, e.serial < t.nextSerial
  port : t.uplink.length ≤ 16
  declared : ∀ e ∈ t.entries, own ∈ e.declaredBy → e.localDecl = true

/-- The table is within its bounds, and the ALERT line is as its entries call for (R116). -/
structure EventsSound (s : State) : Prop where
  arranged : s.events.Arranged s.own
  line : s.events.alertLine = lineOf s.profile s.events.entries

/-- What the part holds while step 1 of a start is to come: no entry, and nothing that could make one. -/
structure NotStarted (s : State) : Prop where
  entries : s.events.entries = []
  deaf : s.line.rx = .deaf
  queue : s.line.queue = []
  access : s.line.access = .idle
  nextTick : s.tb.nextTick = none
  lastTick : s.tb.lastTick = none
  nextInstant : s.tb.nextInstant = none

theorem eventsInv_iff (s : State) : eventsInv s ↔ EventsSound s ∧ (s.phase = .step1 → NotStarted s) := by
  constructor
  · rintro ⟨hroom, hkeys, hserials, hnumbered, hport, hline, hdeclared, hstart⟩
    refine ⟨⟨⟨hroom, hkeys, hserials, hnumbered, hport, hdeclared⟩, (alertAgrees_iff s).1 hline⟩, fun hp => ?_⟩
    obtain ⟨h1, h2, h3, h4, h5, h6, h7⟩ := hstart hp
    exact ⟨h1, h2, h3, h4, h5, h6, h7⟩
  · rintro ⟨⟨⟨hroom, hkeys, hserials, hnumbered, hport, hdeclared⟩, hline⟩, hstart⟩
    refine ⟨hroom, hkeys, hserials, hnumbered, hport, (alertAgrees_iff s).2 hline, hdeclared, fun hp => ?_⟩
    obtain ⟨h1, h2, h3, h4, h5, h6, h7⟩ := hstart hp
    exact ⟨h1, h2, h3, h4, h5, h6, h7⟩

/-- An entry changed, in what the bounds read of it: its serial and its key stand, and it names the own identifier only where it
is declared locally. -/
structure EventEntry.Follows (own : Nat) (x y : EventEntry) : Prop where
  serial : y.serial = x.serial
  key : y.key = x.key
  declared : own ∈ y.declaredBy → y.localDecl = true

namespace EventTable.Arranged

variable {own : Nat} {t : EventTable}

/-- The bounds read the entries, the next serial and the report queue alone. -/
theorem congr {u : EventTable} (h : t.Arranged own) (he : u.entries = t.entries) (hn : u.nextSerial = t.nextSerial)
    (hu : u.uplink.length ≤ 16) : u.Arranged own where
  room := he ▸ h.room
  keys := he ▸ h.keys
  serials := he ▸ h.serials
  numbered := he ▸ hn ▸ h.numbered
  port := hu
  declared := he ▸ h.declared

theorem sublist (h : t.Arranged own) {es : List EventEntry} (hes : es.Sublist t.entries) :
    Arranged own { t with entries := es } where
  room := hes.length_le.trans h.room
  keys := h.keys.sublist hes
  serials := h.serials.sublist hes
  numbered e he := h.numbered e (hes.subset he)
  port := h.port
  declared e he := h.declared e (hes.subset he)

/-- The entries changed, each in its place. -/
theorem map (h : t.Arranged own) {f : EventEntry → EventEntry} (hf : ∀ x ∈ t.entries, x.Follows own (f x)) :
    Arranged own { t with entries := t.entries.map f } where
  room := (List.length_map f).trans_le h.room
  keys := List.pairwise_map.2 (h.keys.imp_of_mem fun ha hb hne => by rwa [(hf _ ha).key, (hf _ hb).key])
  serials := List.pairwise_map.2 (h.serials.imp_of_mem fun ha hb hne => by rwa [(hf _ ha).serial, (hf _ hb).serial])
  numbered := List.forall_mem_map.2 fun x hx => (hf x hx).serial ▸ h.numbered x hx
  port := h.port
  declared := List.forall_mem_map.2 fun x hx => (hf x hx).declared

/-- A new entry, of a key that no entry has. -/
theorem add (h : t.Arranged own) {e : EventEntry} (hroom : t.entries.length < 8) (hkey : ∀ x ∈ t.entries, x.key ≠ e.key)
    (hserial : e.serial = t.nextSerial) (hdeclared : own ∈ e.declaredBy → e.localDecl = true) :
    Arranged own { t with entries := t.entries ++ [e], nextSerial := t.nextSerial + 1 } where
  room := by
    simp only [List.length_append, List.length_singleton]
    omega
  keys := List.pairwise_append.2 ⟨h.keys, List.pairwise_singleton _ _,
    fun x hx y hy => List.mem_singleton.1 hy ▸ hkey x hx⟩
  serials := List.pairwise_append.2 ⟨h.serials, List.pairwise_singleton _ _,
    fun x hx y hy => List.mem_singleton.1 hy ▸ hserial ▸ (h.numbered x hx).ne⟩
  numbered := by
    simp only [List.forall_mem_append, List.forall_mem_singleton]
    exact ⟨fun x hx => Nat.lt_succ_of_lt (h.numbered x hx), hserial ▸ Nat.lt_succ_self _⟩
  port := h.port
  declared := by
    simp only [List.forall_mem_append, List.forall_mem_singleton]
    exact ⟨h.declared, hdeclared⟩

end EventTable.Arranged

/-! ### What keeps the table sound -/

/-- Two states, the second with its Event Table sound where the first has. -/
def EventsKept (s t : State) : Prop := EventsSound s → EventsSound t

theorem EventsKept.trans {s t u : State} (h : EventsKept s t) (k : EventsKept t u) : EventsKept s u := k ∘ h

/-- What the own identifier, the profile and the table decide. -/
def sameTable (s t : State) : Prop := t.events = s.events ∧ t.profile = s.profile ∧ t.ownId = s.ownId

theorem EventsKept.of_same {s t : State} (h : sameTable s t) : EventsKept s t := by
  obtain ⟨he, hp, ho⟩ := h
  have hown : t.own = s.own := by unfold State.own; rw [ho]
  rintro ⟨harranged, hline⟩
  exact ⟨by rwa [he, hown], by rwa [he, hp]⟩

/-- An operation that comes after one that leaves the table alone. -/
theorem EventsKept.after {s t u : State} (k : EventsKept t u) (h : sameTable s t) : EventsKept s u :=
  (EventsKept.of_same h).trans k

/-- The table changed in other fields than its entries, its serials and its ALERT line. -/
theorem EventsKept.of_fields {s : State} {t : EventTable} (he : t.entries = s.events.entries)
    (hn : t.nextSerial = s.events.nextSerial) (hl : t.alertLine = s.events.alertLine)
    (hu : s.events.uplink.length ≤ 16 → t.uplink.length ≤ 16) : EventsKept s { s with events := t } :=
  fun h => ⟨h.arranged.congr he hn (hu h.arranged.port), hl.trans (h.line.trans (by rw [he]))⟩

/-- The ALERT line formed again (R116). -/
theorem formAlertLine_sound {s : State} (h : s.events.Arranged s.own) : EventsSound (formAlertLine s) :=
  ⟨h.congr rfl rfl h.port, rfl⟩

theorem eventUpdate_arranged {s : State} {serial : Nat} {f : EventEntry → EventEntry} (h : s.events.Arranged s.own)
    (hf : ∀ x ∈ s.events.entries, x.serial = serial → x.Follows s.own (f x)) :
    (eventUpdate s serial f).events.Arranged s.own := by
  refine h.map fun x hx => ?_
  split
  next hs => exact hf x hx (beq_iff_eq.1 hs)
  next => exact ⟨rfl, rfl, h.declared x hx⟩

/-- An entry counts for the ALERT line (R116). -/
def EventEntry.confirmed (p : Profile) (e : EventEntry) : Bool :=
  e.active && decide (p.confirmCount ≤ e.declaredBy.length)

theorem lineOf_map {p : Profile} {es : List EventEntry} {f : EventEntry → EventEntry}
    (hf : ∀ x ∈ es, (f x).confirmed p = x.confirmed p) : lineOf p (es.map f) = lineOf p es := by
  have hany : ∀ l, lineOf p l = l.any (EventEntry.confirmed p) := fun _ => rfl
  rw [Bool.eq_iff_iff, hany, hany, List.any_map, List.any_eq_true, List.any_eq_true]
  exact exists_congr fun x => and_congr_right fun hx => by rw [Function.comp_apply, hf x hx]

/-- An entry changed by its serial, where the change does not bear on the ALERT line. -/
theorem eventUpdate_kept {s : State} {serial : Nat} {f : EventEntry → EventEntry}
    (hf : EventsSound s → ∀ x ∈ s.events.entries, x.serial = serial →
      x.Follows s.own (f x) ∧ (f x).confirmed s.profile = x.confirmed s.profile) : EventsKept s (eventUpdate s serial f) := by
  refine fun h => ⟨eventUpdate_arranged h.arranged fun x hx hs => (hf h x hx hs).1, h.line.trans (lineOf_map fun x hx => ?_).symm⟩
  split
  next hs => exact (hf h x hx (beq_iff_eq.1 hs)).2
  next => rfl

/-- The fields of an entry that the bounds and the ALERT line read. -/
def EventEntry.standing (e : EventEntry) : Nat × Key × Bool × List Nat × Bool :=
  (e.serial, e.key, e.active, e.declaredBy, e.localDecl)

theorem follows_of_standing {own : Nat} {x y : EventEntry} (h : y.standing = x.standing)
    (hx : own ∈ x.declaredBy → x.localDecl = true) : x.Follows own y := by
  simp only [EventEntry.standing, Prod.mk.injEq] at h
  obtain ⟨hserial, hkey, -, hdeclared, hlocal⟩ := h
  exact ⟨hserial, hkey, by rwa [hdeclared, hlocal]⟩

theorem confirmed_of_standing {x y : EventEntry} (h : y.standing = x.standing) (p : Profile) :
    y.confirmed p = x.confirmed p := by
  simp only [EventEntry.standing, Prod.mk.injEq] at h
  obtain ⟨-, -, hactive, hdeclared, -⟩ := h
  unfold EventEntry.confirmed
  rw [hactive, hdeclared]

/-- An entry changed in no field that the bounds or the ALERT line read. -/
theorem eventUpdate_standing {s : State} {serial : Nat} {f : EventEntry → EventEntry}
    (hf : ∀ x, (f x).standing = x.standing) : EventsKept s (eventUpdate s serial f) :=
  eventUpdate_kept fun h x hx _ =>
    ⟨follows_of_standing (hf x) (h.arranged.declared x hx), confirmed_of_standing (hf x) s.profile⟩

/-! ### Reports, ALERT frames and hold requests (R113 to R119) -/

theorem queueReport_kept (s : State) (kind : Nat) (e : EventEntry) : EventsKept s (queueReport s kind e) := by
  unfold queueReport
  dsimp only
  split
  · exact id
  · split
    · exact .of_fields rfl rfl rfl id
    · split
      next hroom => exact .of_fields rfl rfl rfl fun _ => (List.length_append ..).trans_le hroom
      next => exact .of_fields rfl rfl rfl id

theorem reportOf_kept (s : State) (kind serial : Nat) : EventsKept s (reportOf s kind serial) := by
  unfold reportOf
  split
  · exact id
  · exact queueReport_kept s kind _

theorem alertDone_kept (s : State) (serial : Nat) (failed : Bool) : EventsKept s (alertDone s serial failed) := by
  have hcounted : EventsKept s
      (if failed then { s with events := { s.events with sendFailed := bump s.events.sendFailed } } else s) := by
    split
    · exact .of_fields rfl rfl rfl id
    · exact id
  refine hcounted.trans (eventUpdate_standing fun x => ?_)
  split <;> rfl

theorem handAlert_kept (s : State) (serial : Nat) : EventsKept s (handAlert s serial) := by
  unfold handAlert
  split
  · exact id
  · dsimp only
    split
    · exact (alertDone_kept _ _ _).after ⟨rfl, rfl, rfl⟩
    · exact .of_same ⟨rfl, rfl, rfl⟩

theorem startAlerts_kept (s : State) (serial : Nat) : EventsKept s (startAlerts s serial) :=
  fun h => handAlert_kept _ serial (eventUpdate_standing (fun _ => rfl) h)

theorem requestHold_kept (s : State) (serial : Nat) (picks : List ArrayTime) :
    EventsKept s (requestHold s serial picks) := by
  unfold requestHold
  split
  · exact id
  · exact EventsKept.after (eventUpdate_standing fun _ => rfl) ⟨rfl, rfl, rfl⟩

/-! ### Declarations and attachments (R105 to R108) -/

theorem eventAdd_arranged {s : State} (h : s.events.Arranged s.own) {e : EventEntry} (hroom : s.events.entries.length < 8)
    (hkey : ∀ x ∈ s.events.entries, x.key ≠ e.key) (hdeclared : s.own ∈ e.declaredBy → e.localDecl = true) :
    (eventAdd s e).events.Arranged s.own := h.add hroom hkey rfl hdeclared

/-- The table after an entry that has given its place. -/
theorem room_without {s : State} (h : s.events.Arranged s.own) {old : EventEntry} (hold : old ∈ s.events.entries) :
    (s.events.entries.filter (fun e => e.serial != old.serial)).length < 8 :=
  lt_of_lt_of_le (List.length_filter_lt_length_iff_exists.2 ⟨old, hold, by simp⟩) h.room

/-- Room for a new entry: a free place, or one that an entry has given (R107). -/
theorem eventRoom_arranged {s u : State} (h : s.events.Arranged s.own) (hu : eventRoom s = some u) : ∃ kept,
    u = withEvents s kept ∧ kept.Sublist s.events.entries ∧ kept.length < 8 := by
  unfold eventRoom at hu
  split at hu
  next hroom =>
    cases hu
    exact ⟨s.events.entries, rfl, List.Sublist.refl _, hroom⟩
  next =>
    rcases firstByKey_spec (fun e => !e.active) s.events.entries with ⟨hnone, -⟩ | ⟨old, hold, hmem, -⟩
    · rw [hnone] at hu
      cases hu
    · rw [hold] at hu
      cases hu
      exact ⟨_, rfl, List.filter_sublist, room_without h hmem⟩

/-- An entry made by a declaration, where there is room and no entry has its key (R105). -/
theorem openDeclared_sound {s : State} (h : s.events.Arranged s.own) {d : Declaration} (hroom : s.events.entries.length < 8)
    (hkey : ∀ x ∈ s.events.entries, x.key ≠ d.key) : EventsSound (openDeclared s d) := by
  have hadded : (eventAdd s (declaredEntry s d)).events.Arranged s.own := eventAdd_arranged h hroom hkey fun _ => rfl
  exact requestHold_kept _ _ _ (startAlerts_kept _ _ (reportOf_kept _ _ _ (formAlertLine_sound hadded)))

theorem completeDeclared_kept (s : State) (d : Declaration) (serial : Nat) : EventsKept s (completeDeclared s d serial) := by
  intro h
  have hcompleted : (eventUpdate s serial (completedEntry s d)).events.Arranged s.own :=
    eventUpdate_arranged h.arranged fun _ _ _ => ⟨rfl, rfl, fun _ => rfl⟩
  exact requestHold_kept _ _ _ (startAlerts_kept _ _ (formAlertLine_sound hcompleted))

theorem declareEvent_kept (s : State) (d : Declaration) : EventsKept s (declareEvent s d).1 := by
  intro h
  unfold declareEvent
  split
  next e he =>
    have hmem : e ∈ s.events.entries := List.mem_of_find?_eq_some he
    have hkey : e.key = d.key := by simpa using List.find?_some he
    split
    · exact completeDeclared_kept s d _ h
    · refine openDeclared_sound (s := withEvents s (s.events.entries.filter fun x => x.serial != e.serial))
        (h.arranged.sublist List.filter_sublist) (room_without h.arranged hmem) fun x hx hxk => ?_
      obtain ⟨hx, hserial⟩ := List.mem_filter.1 hx
      have heq : x = e := List.inj_on_of_nodup_map (List.pairwise_map.2 h.arranged.keys) hx hmem (hxk.trans hkey.symm)
      simp [heq] at hserial
  next hnone =>
    split
    next u hu =>
      obtain ⟨kept, rfl, hsub, hroom⟩ := eventRoom_arranged h.arranged hu
      refine openDeclared_sound (s := withEvents s kept) (h.arranged.sublist hsub) hroom fun x hx hxk => ?_
      exact List.find?_eq_none.1 hnone x (hsub.subset hx) (beq_iff_eq.2 hxk)
    next => exact EventsKept.of_fields rfl rfl rfl id h

theorem attachVote_kept (s : State) (serial : Nat) (p : PickEntry) : EventsKept s (attachVote s serial p) :=
  fun h => requestHold_kept _ _ _ (eventUpdate_standing (fun _ => rfl) h)

theorem declareSearch_kept (s : State) : EventsKept s (declareSearch s) := by
  unfold declareSearch
  split
  · exact id
  · rename_i f _
    have h := declareEvent_kept s (declarationOf s f ((candidateSet s f).take 24))
    dsimp only
    split
    · exact h.trans (.of_same ⟨rfl, rfl, rfl⟩)
    · exact h

theorem evaluatePick_kept (s : State) (n : PickEntry) : EventsKept s (evaluatePick s n) := by
  unfold evaluatePick
  split
  · exact id
  · split
    · exact (attachVote_kept _ _ _).after ⟨rfl, rfl, rfl⟩
    · exact declareSearch_kept s

theorem offerPick_kept (s : State) (n : PickEntry) : EventsKept s (offerPick s n) := by
  unfold offerPick
  dsimp only
  split
  · exact .of_same ⟨rfl, rfl, rfl⟩
  · split
    · exact .of_same ⟨rfl, rfl, rfl⟩
    · split
      · exact .of_same ⟨rfl, rfl, rfl⟩
      · exact (evaluatePick_kept _ n).after ⟨rfl, rfl, rfl⟩

theorem pickRemote_kept (s : State) (sender : Nat) (p : PickPayload) : EventsKept s (pickRemote s sender p) := by
  unfold pickRemote
  split
  · exact .of_same ⟨rfl, rfl, rfl⟩
  · exact offerPick_kept s _

/-! ### Received ALERTs (R109 to R112) -/

theorem mergeAlert_follows {own sender : Nat} {e : EventEntry} (a : AlertPayload) (hs : sender ≠ own)
    (he : own ∈ e.declaredBy → e.localDecl = true) : e.Follows own (mergeAlert e sender a) where
  serial := rfl
  key := rfl
  declared h := he (by
    unfold mergeAlert at h
    dsimp only at h
    split at h
    · simpa [hs.symm] using h
    · exact h)

theorem alertMatched_kept {s : State} {e : EventEntry} (he : e ∈ s.events.entries) {sender : Nat} (hs : sender ≠ s.own)
    (a : AlertPayload) : EventsKept s (alertMatched s e sender a) := by
  intro h
  have hfound : ∀ x ∈ s.events.entries, x.serial = e.serial → x = e := fun x hx hxe =>
    eq_of_serial h.arranged.serials hx he hxe
  unfold alertMatched
  split
  · split
    · exact eventUpdate_standing (fun _ => rfl) h
    · have hmerged : (eventUpdate s e.serial fun _ =>
          { mergeAlert e sender a with lastActivity := s.tb.clock }).events.Arranged s.own :=
        eventUpdate_arranged h.arranged fun x hx hxe => by
          rw [hfound x hx hxe]
          obtain ⟨hserial, hkey, hdeclared⟩ := mergeAlert_follows a hs (h.arranged.declared e he)
          exact ⟨hserial, hkey, hdeclared⟩
      dsimp only
      split
      · exact requestHold_kept _ _ _ (formAlertLine_sound hmerged)
      · exact formAlertLine_sound hmerged
  next hended =>
    have hcounted : EventsSound { s with events := { s.events with alertLate := bump s.events.alertLate } } :=
      EventsKept.of_fields rfl rfl rfl id h
    dsimp only
    split
    · exact hcounted
    · refine eventUpdate_kept (fun _ x hx hxe => ⟨mergeAlert_follows a hs (h.arranged.declared x hx), ?_⟩) hcounted
      have hx' : x.active = false := by
        rw [hfound x hx hxe]
        simpa using hended
      simp [EventEntry.confirmed, mergeAlert, hx']

theorem alertUnmatched_kept {s : State} {sender : Nat} (hs : sender ≠ s.own) {a : AlertPayload}
    (hkey : ∀ x ∈ s.events.entries, x.key.time ≠ wireTime a.keyTime) : EventsKept s (alertUnmatched s sender a) := by
  intro h
  unfold alertUnmatched
  split
  next => exact EventsKept.of_fields rfl rfl rfl id h
  next u hu =>
    obtain ⟨kept, rfl, hsub, hroom⟩ := eventRoom_arranged h.arranged hu
    have hadded : (eventAdd (withEvents s kept) (alertEntry (withEvents s kept) sender a)).events.Arranged s.own :=
      eventAdd_arranged (s := withEvents s kept) (h.arranged.sublist hsub) hroom
        (fun x hx hxk => hkey x (hsub.subset hx) (congrArg Key.time hxk))
        (fun hown => absurd (List.mem_singleton.1 hown).symm hs)
    exact requestHold_kept _ _ _ (reportOf_kept _ _ _ (formAlertLine_sound hadded))

theorem eventAlert_kept {s : State} {sender : Nat} (hs : sender ≠ s.own) (a : AlertPayload) :
    EventsKept s (eventAlert s sender a) := by
  unfold eventAlert
  split
  · exact id
  · split
    · exact .of_fields rfl rfl rfl id
    · split
      next hmatch => exact alertMatched_kept (mem_of_matchAlert hmatch) hs a
      next hnone => exact alertUnmatched_kept hs fun x hx => time_ne_of_matchAlert hnone hx

/-! ### The sweeps, the uplink port and the end of a transmission -/

theorem endEvent_kept (s : State) (serial : Nat) : EventsKept s (endEvent s serial) := by
  intro h
  have hended : (eventUpdate s serial EventEntry.ended).events.Arranged s.own :=
    eventUpdate_arranged h.arranged fun x hx _ => ⟨rfl, rfl, h.arranged.declared x hx⟩
  exact reportOf_kept _ _ _ (formAlertLine_sound hended)

theorem endSweep_kept (s : State) : EventsKept s (endSweep s) := by
  unfold endSweep
  generalize s.events.entries.filter _ = due
  induction due generalizing s with
  | nil => exact id
  | cons e rest ih => exact (endEvent_kept s e.serial).trans (ih _)

theorem sendRepeat_kept (s : State) (serial : Nat) : EventsKept s (sendRepeat s serial) :=
  fun h => handAlert_kept _ serial (eventUpdate_standing (fun _ => rfl) h)

theorem repeatSweep_kept (s : State) : EventsKept s (repeatSweep s) := by
  unfold repeatSweep
  generalize s.events.entries.filter _ = due
  induction due generalizing s with
  | nil => exact id
  | cons e rest ih => exact (sendRepeat_kept s e.serial).trans (ih _)

theorem uplinkNext_kept (s : State) : EventsKept s (uplinkNext s) := by
  rw [uplinkNext_eq]
  exact .of_fields rfl rfl rfl fun h => (List.drop_sublist 1 _).length_le.trans h

theorem uplinkTick_kept (s : State) : EventsKept s (uplinkTick s) := by
  unfold uplinkTick
  split
  · exact id
  · exact .of_fields rfl rfl rfl id

theorem reportFrame_kept (s : State) (q : QFrame) (failed : Bool) : EventsKept s (reportFrame s q failed) := by
  unfold reportFrame
  split
  · exact alertDone_kept s _ failed
  · exact id

theorem frameDone_kept (s : State) (q : QFrame) : EventsKept s (frameDone s q) :=
  (reportFrame_kept _ q false).after ⟨rfl, rfl, rfl⟩

theorem frameMismatch_kept (s : State) (q : QFrame) : EventsKept s (frameMismatch s q) := by
  unfold frameMismatch
  dsimp only
  split
  · exact (reportFrame_kept _ q true).after ⟨rfl, rfl, rfl⟩
  · exact .of_same ⟨rfl, rfl, rfl⟩

/-! ### A tick -/

theorem engineKick_sameTable (s : State) : sameTable s (engineKick s) := by simp [sameTable]

theorem handPick_kept (s : State) (k : StationPick) : EventsKept s (handPick s k) := by
  have hpicked : EventsKept s (pickLocal (capturePick s k.onset) k) :=
    (offerPick_kept (capturePick s k.onset) _).after (by simp [sameTable])
  unfold handPick
  exact hpicked.trans (.of_same (by simp [sameTable]))

theorem voteMet_kept (s : State) (guard : Bool) : EventsKept s (voteMet s guard) := by
  unfold voteMet
  split
  · exact .of_same (by simp [sameTable])
  · split
    · exact id
    · split
      · exact .of_same (by simp [sameTable])
      · exact (handPick_kept (spendPick s _) _).after (by simp [sameTable])

theorem detectSet_kept (s : State) (x : SampleSet) : EventsKept s (detectSet s x) := by
  unfold detectSet
  dsimp only
  split
  · exact (voteMet_kept _ _).after (by simp [sameTable])
  · split <;> exact .of_same (by simp [sameTable])

theorem tickSweeps_kept (s : State) : EventsKept s (tickSweeps s) := by
  have hended : EventsKept s (endSweep (ageSweep s)) := (endSweep_kept _).after (by simp [sameTable])
  unfold tickSweeps
  exact (hended.trans (repeatSweep_kept _)).trans (.of_same (by simp [sameTable]))

theorem seismicWork_kept (s : State) (inp : TickInput) (n : ArrayTime) : EventsKept s (seismicWork s inp n) := by
  unfold seismicWork
  dsimp only
  exact ((detectSet_kept _ _).after (by simp [sameTable])).trans (.of_same (engineKick_sameTable _))

theorem samplerWork_events (s : State) (inp : TickInput) (n : ArrayTime) : EventsKept s (samplerWork s inp n) := by
  have hreaders : ∀ u i r, EventsKept u (engineKick (hkReaders u i n r)) := fun u i r => .of_same (by simp [sameTable])
  unfold samplerWork
  dsimp only
  split
  · exact ((seismicWork_kept _ inp n).after (by simp [sameTable])).trans (hreaders _ _ _)
  · exact (hreaders _ _ _).after (by simp [sameTable])

theorem tickWork_events (s : State) (inp : TickInput) (n : ArrayTime) : EventsKept s (tickWork s inp n) := by
  unfold tickWork
  exact ((tickSweeps_kept (issueTick s n)).after (by simp [sameTable])).trans (samplerWork_events _ inp n)

/-! ### Heard frames and queries -/

/-- A heard frame leaves the table alone but for its work, which is done where the frame passes the tests of R195. -/
theorem takeFrame_table (s : State) (kind sender : Nat) (work : State → State) : ∃ u, sameTable s u ∧
    (takeFrame s kind sender work = u ∨ (framePasses s kind sender = true ∧ takeFrame s kind sender work = work u)) := by
  have hscreen : sameTable s (screenFrame (endFrame s) kind sender) := by simp [sameTable]
  unfold takeFrame
  split
  · exact ⟨s, ⟨rfl, rfl, rfl⟩, .inl rfl⟩
  · split
    next hp => exact ⟨_, hscreen, .inr ⟨hp, rfl⟩⟩
    next => exact ⟨_, hscreen, .inl rfl⟩

/-- A frame that passes the tests of R195 has another sender than the part. -/
theorem framePasses_sender {s : State} {kind sender : Nat} (h : framePasses s kind sender = true) : sender ≠ s.own := by
  simp only [framePasses, badSenderOf, ownSender, Bool.and_eq_true, Bool.not_eq_true', Bool.or_eq_false_iff,
    beq_eq_false_iff_ne] at h
  obtain ⟨⟨⟨⟨h0, -⟩, -⟩, -⟩, hown⟩ := h
  unfold State.own
  cases ho : s.ownId with
  | none => exact h0
  | some n => exact fun hn => hown (ho.trans (congrArg some hn.symm))

/-- A heard frame keeps the table sound where its work does. -/
theorem takeFrame_eventsKept (s : State) (kind sender : Nat) (work : State → State)
    (h : ∀ u : State, sender ≠ u.own → EventsKept u (work u)) : EventsKept s (takeFrame s kind sender work) := by
  obtain ⟨u, hu, hc | ⟨hp, hc⟩⟩ := takeFrame_table s kind sender work <;> rw [hc]
  · exact .of_same hu
  · have hown : u.own = s.own := by
      obtain ⟨-, -, ho⟩ := hu
      unfold State.own
      rw [ho]
    exact (h u (hown ▸ framePasses_sender hp)).after hu

theorem latchClearWork_eventsKept (s : State) : EventsKept s (latchClearWork s) := by
  have hown : (latchClearWork s).own = s.own := by simp [State.own]
  rintro ⟨harranged, hline⟩
  exact ⟨hown ▸ harranged.congr rfl rfl harranged.port, hline⟩

theorem latchClear_eventsKept (s : State) (q : QueryHeader) :
    EventsKept s (takeQuery s q fun u => carryOut u q 9 fun v => ⟨latchClearWork v, .ok, []⟩) := by
  refine takeFrame_eventsKept s _ _ _ fun u _ => ?_
  dsimp only
  split
  · refine EventsKept.trans ?_ (.of_same (engineKick_sameTable _))
    unfold carryOut
    split
    · exact .of_same (by simp [sameTable])
    · exact (latchClearWork_eventsKept u).trans (.of_same (by simp [sameTable]))
  · exact id

/-! ### Every command -/

theorem startState_sound (s : State) : EventsSound (startState s) :=
  ⟨⟨Nat.zero_le _, .nil, .nil, fun _ h => absurd h List.not_mem_nil, Nat.zero_le _, fun _ h => absurd h List.not_mem_nil⟩, rfl⟩

theorem startState_notStarted (s : State) : NotStarted (startState s) := ⟨rfl, rfl, rfl, rfl, rfl, rfl, rfl⟩

/-- Step 1 of a start finds no entry, whatever the profile that it leaves. -/
theorem loadProfile_sound {s : State} (h : EventsSound s) (hn : NotStarted s) (reads : List (Option (List Byte))) :
    EventsSound { loadProfile s reads with phase := .step2 } := by
  have hevents : (loadProfile s reads).events = s.events := by simp
  have hnone : ∀ e, e ∉ s.events.entries := fun e => hn.entries ▸ List.not_mem_nil
  constructor
  · exact ⟨hevents ▸ h.arranged.room, hevents ▸ h.arranged.keys, hevents ▸ h.arranged.serials,
      hevents ▸ h.arranged.numbered, hevents ▸ h.arranged.port, hevents ▸ fun e he => absurd he (hnone e)⟩
  · dsimp only
    rw [hevents, h.line, hn.entries]
    rfl

theorem Effect.eventsSound {s t : State} (h : Effect s t) (hstart : s.phase = .step1 → NotStarted s) : EventsKept s t := by
  cases h with
  | start => exact fun _ => startState_sound s
  | profileRead reads hp => exact fun h => loadProfile_sound h (hstart hp) reads
  | sampleTick inp n => exact tickWork_events s inp n
  | eventEnd => exact endSweep_kept s
  | alertRepeatDue => exact repeatSweep_kept s
  | uplinkReportSent => exact uplinkNext_kept s
  | pickFrameReceived sender p =>
    exact takeFrame_eventsKept s _ _ _ fun u _ => (pickRemote_kept u sender p).trans (.of_same (engineKick_sameTable _))
  | alertFrameReceived sender a =>
    exact takeFrame_eventsKept s _ _ _ fun u hs => (eventAlert_kept hs a).trans (.of_same (engineKick_sameTable _))
  | readingQuery q code work hw => exact .of_same (by simp [sameTable, hw])
  | latchClear q => exact latchClear_eventsKept s q
  | mismatch q => exact frameMismatch_kept s q
  | frameSent q => exact frameDone_kept s q
  | nominalMicrosecond =>
    have hport : EventsKept s (uplinkTick { s with tb := s.tb.nominal }) := (uplinkTick_kept _).after ⟨rfl, rfl, rfl⟩
    exact hport.trans (.of_same (by simp [sameTable]))
  | _ => exact .of_same (by simp [sameTable])

/-! ### While step 1 of a start is to come -/

/-- The ticks and the instants that are scheduled or have been. -/
def Timebase.schedule (b : Timebase) : Option ArrayTime × Option ArrayTime × Option ArrayTime :=
  (b.nextTick, b.lastTick, b.nextInstant)

/-- No tick and no instant is scheduled or has been. -/
def Timebase.unscheduled (b : Timebase) : Prop := b.schedule = (none, none, none)

/-- A Timebase whose work schedules no tick and no instant. -/
def ScheduleKept (s t : State) : Prop := s.tb.unscheduled → t.tb.unscheduled

theorem ScheduleKept.of_eq {s t : State} (h : t.tb.schedule = s.tb.schedule) : ScheduleKept s t := h.trans

theorem stepClock_schedule (s : State) (d : Int) : ScheduleKept s (stepClock s d) := by
  intro h
  simp only [Timebase.unscheduled, Timebase.schedule, Prod.mk.injEq] at h ⊢
  obtain ⟨hnext, hlast, hinstant⟩ := h
  simp [stepClock, hnext, hlast, hinstant]

/-- An edge steps local time, or leaves the line and the schedule alone (R7 to R9). -/
theorem ppsEdgeWork_steps (s : State) : ∃ u, (u = s ∨ ∃ d, u = stepClock s d) ∧ (ppsEdgeWork s).line = u.line ∧
    (ppsEdgeWork s).tb.schedule = u.tb.schedule := by
  unfold ppsEdgeWork
  dsimp only
  generalize ppsError s.tb.clock = e
  split_ifs
  · refine ⟨_, .inr ⟨-e, rfl⟩, ?_⟩
    unfold ppsReacquire
    dsimp only
    split <;> exact ⟨rfl, rfl⟩
  · unfold ppsAlign
    split
    · exact ⟨_, .inl rfl, rfl, rfl⟩
    · exact ⟨_, .inr ⟨-e, rfl⟩, rfl, rfl⟩
  · exact ⟨_, .inl rfl, rfl, rfl⟩
  · unfold ppsAnchor correctBy
    dsimp only
    split_ifs
    · exact ⟨_, .inl rfl, rfl, rfl⟩
    · exact ⟨_, .inr ⟨-e, rfl⟩, rfl, rfl⟩
    · exact ⟨_, .inl rfl, rfl, rfl⟩
  · exact ⟨_, .inl rfl, rfl, rfl⟩

theorem quietTest_schedule (s : State) : (quietTest s).tb.schedule = s.tb.schedule := by
  have hdrop : ∀ (b : Timebase) gone, (b.dropSeed gone).schedule = b.schedule := fun b gone => by
    unfold Timebase.dropSeed
    split
    · rfl
    · split <;> rfl
  have htime : ∀ u : State, (sectionTime u).tb.schedule = u.tb.schedule := fun u => by
    unfold sectionTime
    split <;> rfl
  unfold quietTest sectionResetWork
  split
  · exact (htime _).trans (hdrop _ _)
  · rfl

theorem quietTest_line (s : State) : (quietTest s).line.rx = s.line.rx ∧ (quietTest s).line.queue = s.line.queue ∧
    (quietTest s).line.access = s.line.access := by
  unfold quietTest sectionResetWork
  split <;> simp

theorem announceShed_schedule (s : State) (old : Nat) : ScheduleKept s (announceShed s old) := by
  intro h
  have hsame : rescheduleTick s = s := by
    simp only [Timebase.unscheduled, Timebase.schedule, Prod.mk.injEq] at h
    obtain ⟨-, hlast, -⟩ := h
    rw [rescheduleTick, hlast]
  unfold announceShed
  rw [hsame]
  split
  · simpa using h
  · split
    · simpa using h
    · exact h

theorem setShed_schedule (s : State) (level : Nat) : ScheduleKept s (setShed s level) := by
  have htb : ∀ u : State, (snapshotDue (formPermission u) .shed).tb = u.tb := fun u => by simp
  unfold setShed ScheduleKept
  dsimp only
  rw [htb]
  exact announceShed_schedule { s with bat := { s.bat with
    shed := level, exit := OnDelay.stopped
    shedRaises := if s.bat.shed < level then bump s.bat.shedRaises else s.bat.shedRaises } } s.bat.shed

theorem nominal_schedule (b : Timebase) : b.nominal.schedule = b.schedule := by
  simp only [Timebase.nominal, Timebase.schedule]
  split_ifs <;> simp

theorem receiving_deaf {s : State} (h : s.line.rx = .deaf) : s.receiving = false := by
  simp [State.receiving, h]

theorem heard_deaf {s : State} (h : s.line.rx = .deaf) : s.heard = none := by
  unfold State.heard
  rw [receiving_deaf h]

/-- A receiver that is not enabled takes no frame (R194, R199). -/
theorem takeFrame_deaf {s : State} (h : s.line.rx = .deaf) (kind sender : Nat) (work : State → State) :
    takeFrame s kind sender work = s := by
  unfold takeFrame
  rw [heard_deaf h]
  rfl

theorem takeQuery_deaf {s : State} (h : s.line.rx = .deaf) (q : QueryHeader) (handler : State → State) :
    takeQuery s q handler = s := takeFrame_deaf h _ _ _

namespace NotStarted

variable {s t : State} (h : NotStarted s)
include h

theorem unscheduled : s.tb.unscheduled := by
  unfold Timebase.unscheduled Timebase.schedule
  rw [h.nextTick, h.lastTick, h.nextInstant]

/-- The entries, the line and the schedule decide whether a start is still to come. -/
theorem of_blocks (he : t.events.entries = s.events.entries) (hx : t.line.rx = s.line.rx)
    (hq : t.line.queue = s.line.queue) (ha : t.line.access = s.line.access) (hs : ScheduleKept s t) : NotStarted t := by
  have hnone := hs h.unscheduled
  simp only [Timebase.unscheduled, Timebase.schedule, Prod.mk.injEq] at hnone
  obtain ⟨hnext, hlast, hinstant⟩ := hnone
  exact ⟨he.trans h.entries, hx.trans h.deaf, hq.trans h.queue, ha.trans h.access, hnext, hlast, hinstant⟩

theorem of_same (he : t.events.entries = s.events.entries) (hl : t.line = s.line) (ht : t.tb = s.tb) : NotStarted t :=
  h.of_blocks he (by rw [hl]) (by rw [hl]) (by rw [hl]) (.of_eq (by rw [ht]))

theorem endSweep : Machine.endSweep s = s := by
  unfold Machine.endSweep
  rw [h.entries]
  rfl

theorem repeatSweep : Machine.repeatSweep s = s := by
  unfold Machine.repeatSweep
  rw [h.entries]
  rfl

theorem lineTick : Machine.lineTick s = s := by
  unfold Machine.lineTick
  rw [tick_deaf h.deaf]
  exact takeStamp_not_due fun q rest hq => by
    rw [h.queue] at hq
    cases hq

end NotStarted

/-- Step 1 of a start comes after a start alone. -/
theorem Effect.step1_cases {s t : State} (h : Effect s t) (ht : t.phase = .step1) : t = startState s ∨ s.phase = .step1 := by
  cases h with
  | start => exact .inl rfl
  | brownOut | profileRead | careRestore | startUpScan | lineEnable | samplerStart => cases ht
  | readingQuery q code work hw => exact .inr (by simpa [hw] using ht)
  | careSnapshotComplete p offset bytes =>
    have hdone : ∀ u : State, (careDone u).phase = .step1 → u.phase = .step1 := fun u hu => by
      unfold careDone at hu
      dsimp only at hu
      split at hu
      · exact hu
      · split at hu
        · cases hu
        · simpa using hu
    have hphase : (careDone (clearFlight { s with mem := memProgram s.mem (pageBase p + offset) bytes })).phase = .step1 := by
      simpa [careProgramDone] using ht
    exact .inr (by simpa using hdone _ hphase)
  | _ => exact .inr (by simpa using ht)

/-- While step 1 of a start is to come, no command makes an entry, or what could make one. -/
theorem NotStarted.kept {s t : State} (hs : NotStarted s) (h : Effect s t) (ht : t.phase = .step1) : NotStarted t := by
  have hnone : ∀ {q rest}, s.line.queue = q :: rest → NotStarted t := fun hq => by
    rw [hs.queue] at hq
    cases hq
  cases h with
  | start => exact startState_notStarted s
  | brownOut | profileRead | careRestore | startUpScan | lineEnable | samplerStart => cases ht
  | sampleTick inp n ha hn => simp [tickDue, hs.nextTick] at hn
  | eventEnd => rwa [hs.endSweep]
  | alertRepeatDue => rwa [hs.repeatSweep]
  | uplinkReportSent =>
    rw [uplinkNext_eq]
    exact hs.of_same rfl rfl rfl
  | shedExit =>
    exact hs.of_blocks (by simp) (by simp) (by simp) (by simp) fun hu => by simpa using setShed_schedule s _ hu
  | steeringInstant ha hr => simp [instantReached, hs.nextInstant] at hr
  | ppsEdge =>
    obtain ⟨u, hu, hline, hschedule⟩ := ppsEdgeWork_steps s
    have hu' : NotStarted u := by
      rcases hu with rfl | ⟨d, rfl⟩
      · exact hs
      · exact hs.of_blocks rfl rfl rfl rfl (stepClock_schedule s d)
    exact hu'.of_blocks (by simp [hs.entries, hu'.entries]) (by rw [hline]) (by rw [hline]) (by rw [hline]) (.of_eq hschedule)
  | beaconReceived | pickFrameReceived | alertFrameReceived | frameNotHandedOn => rwa [takeFrame_deaf hs.deaf]
  | badFrame hh => simp [heard_deaf hs.deaf] at hh
  | readingQuery | badRequest | release | wipe | setSeconds | latchClear | restart => rwa [takeQuery_deaf hs.deaf]
  | idleGapMet q rest hq | backoffExpiry q rest hq | mismatch q rest hq | frameSent q rest e stamp hq => exact hnone hq
  | lineTurnsBusy d hr => simp [receiving_deaf hs.deaf] at hr
  | sectionReset =>
    obtain ⟨hrx, hqueue, haccess⟩ := quietTest_line s
    exact hs.of_blocks (by simp) hrx hqueue haccess (.of_eq (quietTest_schedule s))
  | nominalMicrosecond =>
    have hport : NotStarted (uplinkTick { s with tb := s.tb.nominal }) :=
      hs.of_blocks (by unfold uplinkTick; split <;> rfl) (by simp) (by simp) (by simp)
        (.of_eq (by simpa using nominal_schedule s.tb))
    rwa [hport.lineTick]
  | _ => exact hs.of_same (by simp) (by simp) (by simp)

/-- Every command keeps the table sound, and a start that is to come free of entries. -/
theorem Effect.eventsInv {s t : State} (h : Effect s t) (hs : eventsInv s) : eventsInv t := by
  rw [eventsInv_iff] at *
  obtain ⟨hsound, hstart⟩ := hs
  refine ⟨h.eventsSound hstart hsound, fun ht => ?_⟩
  rcases h.step1_cases ht with rfl | hp
  · exact startState_notStarted s
  · exact (hstart hp).kept h ht

end Sys2Proof.Machine

namespace Sys2Proof.Proofs

open Sys2Proof.Machine

/-- Settles O7: each command's work on the Event Table keeps its bounds and forms the ALERT line where it changes what the line
depends on; step 1 of a start, which may change confirm_count, finds no entry. -/
theorem alertLineAgreesWithEvents : Obligations.AlertLineAgreesWithEvents := by
  intro s t hs h
  rcases step_effect h with rfl | ⟨rest, he⟩
  · exact hs
  · exact he.eventsInv hs

end Sys2Proof.Proofs

/-! SUPPORT. A received ALERT at the Event Table: its checks, its match, and the entry that it makes or is merged into (R109 to
R112, R119). -/

namespace Sys2Proof.Machine

/-! ### The checks and the match (R109, R110) -/

theorem alertGood_iff {sender : Nat} (a : AlertPayload) (h : sender ≤ 254) : alertGood sender a = true ↔ alertFits sender a := by
  have hsender : (!(decide (240 ≤ sender) && decide (sender ≤ 254))) = true ↔ sender ≤ 239 := by
    simp only [Bool.not_eq_true', Bool.and_eq_false_iff, decide_eq_false_iff_not]
    omega
  have hnodup : (a.origins.map BitVec.toNat).Nodup ↔ a.origins.Nodup :=
    List.nodup_map_iff fun _ _ => BitVec.eq_of_toNat_eq
  unfold alertGood alertFits
  simp only [Bool.and_eq_true, hsender, hnodup, decide_eq_true_iff, beq_iff_eq, List.length_map, List.all_map,
    List.all_eq_true, Function.comp_apply, and_assoc]

theorem alertDistance_eq (a : AlertPayload) (e : EventEntry) :
    alertDistance a e = (keyDistance e (wireTime a.keyTime) : Int) := (Int.natCast_natAbs _).symm

theorem alertCandidate_iff (s : State) (a : AlertPayload) (e : EventEntry) : alertCandidate s a e ↔
    e ∈ s.events.entries ∧ keyDistance e (wireTime a.keyTime) ≤ s.profile.window * 1000000 := by
  unfold alertCandidate
  rw [alertDistance_eq]
  refine and_congr_right fun _ => ?_
  omega

theorem matchAlert_none {s : State} {a : AlertPayload} (h : ∀ e, ¬alertCandidate s a e) :
    matchAlert s.profile.window (wireTime a.keyTime) s.events.entries = none := by
  rcases matchAlert_spec s.profile.window (wireTime a.keyTime) s.events.entries with ⟨hnone, -⟩ | ⟨y, -, hmem, hnear, -⟩
  · exact hnone
  · exact absurd ((alertCandidate_iff s a y).2 ⟨hmem, hnear⟩) (h y)

theorem matchAlert_eq {s : State} {a : AlertPayload} {e : EventEntry} (h : alertMatch s a e) :
    matchAlert s.profile.window (wireTime a.keyTime) s.events.entries = some e := by
  obtain ⟨hcandidate, hfirst⟩ := h
  obtain ⟨hmem, hnear⟩ := (alertCandidate_iff s a e).1 hcandidate
  rcases matchAlert_spec s.profile.window (wireTime a.keyTime) s.events.entries with
    ⟨-, hno⟩ | ⟨y, hy, hymem, hynear, hbest⟩
  · exact absurd hnear (Nat.not_le.2 (hno e hmem))
  · by_cases hye : y = e
    · exact hye ▸ hy
    · have hahead := hfirst y ((alertCandidate_iff s a y).2 ⟨hymem, hynear⟩) hye
      simp only [alertDistance_eq, Nat.cast_lt, Nat.cast_inj] at hahead
      exact absurd hahead (hbest e hmem hnear)

/-! ### ALERT_FRAME_RECEIVED -/

/-- An ALERT of 1 to 16 origins, heard from another station, reaches the Event Table (R194, R195). -/
theorem exec_alertFrameReceived {s : State} {h : FrameHeader} {a : AlertPayload} (hx : heardFrom s h.sender.toNat)
    (h1 : 1 ≤ a.origins.length) (h16 : a.origins.length ≤ 16) :
    exec (.alertFrameReceived h a) s = .next (engineKick (eventAlert (renewed s) h.sender.toNat a)) := by
  obtain ⟨r, hr⟩ := hx.1
  have hexec : exec (.alertFrameReceived h a) s = if lengthSuits 1 (12 + a.origins.length) then
      .next (takeFrame s 1 h.sender.toNat (fun u => engineKick (eventAlert u h.sender.toNat a)))
    else doWhen s.heard.isSome s discardFrame := rfl
  have hsuits : lengthSuits 1 (12 + a.origins.length) = true := by
    simp [lengthSuits]
    omega
  rw [hexec, if_pos hsuits, takeFrame_station hr hx (.inl rfl)]

/-- A part that hears the line is not before step 1 of a start. -/
theorem eventsInv_renewed {s : State} {x : Nat} (h : eventsInv s) (hx : heardFrom s x) : eventsInv (renewed s) := by
  obtain ⟨⟨r, -, -, hrx⟩, -⟩ := hx
  rw [eventsInv_iff] at *
  obtain ⟨hsound, hstart⟩ := h
  have hkept : EventsKept s (renewed s) := .of_same ⟨rfl, rfl, rfl⟩
  refine ⟨hkept hsound, fun hp => ?_⟩
  have hdeaf := (hstart hp).deaf
  rw [hrx] at hdeaf
  cases hdeaf

section
variable {s : State} {sender : Nat} {a : AlertPayload} (hlisten : s.listenOnly = false)
include hlisten

theorem eventAlert_malformed (h : alertGood sender a = false) : eventAlert s sender a =
    { s with events := { s.events with alertMalformed := bump s.events.alertMalformed } } := by
  unfold eventAlert
  rw [hlisten, h]
  rfl

theorem eventAlert_unmatched (h : alertGood sender a = true) (hno : ∀ e, ¬alertCandidate s a e) :
    eventAlert s sender a = alertUnmatched s sender a := by
  unfold eventAlert
  rw [hlisten, h, matchAlert_none hno]
  rfl

theorem eventAlert_matched (h : alertGood sender a = true) {e : EventEntry} (he : alertMatch s a e) :
    eventAlert s sender a = alertMatched s e sender a := by
  unfold eventAlert
  rw [hlisten, h, matchAlert_eq he]
  rfl

end

/-! ### An ALERT without a match (R112) -/

/-- The key that an ALERT carries (R109, R112). -/
def alertKey (a : AlertPayload) : Key := ⟨a.keyOrigin.toNat, wireTime a.keyTime⟩

/-- A new entry's report and its hold request (R112, R117, R119). -/
theorem entryAdded_reported {s : State} {e : EventEntry} (hdiffer : SerialsDiffer s.events.entries)
    (hserial : ∀ x ∈ s.events.entries, x.serial ≠ e.serial) (hdir : directoryInv s) : ∃ port rm answer,
      requestHold (reportOf (entryAdded s e) 1 e.serial) e.serial [] = { s with events := port, rm := rm } ∧
      reportFormed s 1 (e.storing answer) port ∧ port.entries = s.events.entries ++ [e.storing answer] ∧
      holdTaken s e.key [] rm answer := by
  have hadded : Held (entryAdded s e) e :=
    ⟨List.pairwise_append.2 ⟨hdiffer, List.pairwise_singleton _ _,
      fun x hx z hz => List.mem_singleton.1 hz ▸ hserial x hx⟩, List.mem_append_right _ List.mem_cons_self⟩
  obtain ⟨hentries, -⟩ := reported_entries (entryAdded s e) 1 e (entryAdded s e).events
  have hheld : Held { entryAdded s e with events := reported (entryAdded s e) 1 e (entryAdded s e).events } e :=
    hadded.congr hentries
  obtain ⟨rm, answer, htaken, hstate⟩ := hheld.requestHold hdir []
  refine ⟨_, rm, answer, (congrArg (requestHold · e.serial []) (hadded.report 1)).trans hstate, ?_, ?_, htaken⟩
  · exact reported_formed _ _ rfl rfl rfl rfl rfl
  · exact (congrArg (replaced · (e.storing answer)) hentries).trans (replaced_append_new hserial rfl)

/-- An ALERT makes an entry in a table where it has a place: its report and its hold request (R112, R117, R119). -/
theorem alertUnmatched_made {s : State} (h : eventsInv s) (hdir : directoryInv s) {sender : Nat} {a : AlertPayload}
    (hkey : ∀ e ∈ s.events.entries, e.key ≠ alertKey a) (hplace : placeFor s (alertKey a)) : ∃ t kept answer, alertUnmatched s sender a = t ∧
      t = { s with events := t.events, rm := t.rm } ∧ keptFor s (alertKey a) kept ∧
      t.events.entries = kept ++ [(alertEntry s sender a).storing answer] ∧
      reportFormed s 1 ((alertEntry s sender a).storing answer) t.events ∧
      holdTaken s (alertKey a) [] t.rm answer := by
  obtain ⟨kept, hroom, hkept⟩ := eventRoom_place h hkey hplace
  have hserial : ∀ x ∈ kept, x.serial ≠ (alertEntry s sender a).serial := fun x hx => by
    obtain ⟨-, -, -, hlt, -⟩ := h
    exact (hlt x (hkept.1.subset hx)).ne
  obtain ⟨port, rm, answer, hmade, hformed, hentries, htaken⟩ :=
    entryAdded_reported (s := withEvents s kept) (e := alertEntry s sender a) ((eventsInv_serials h).sublist hkept.1) hserial hdir
  refine ⟨{ s with events := port, rm := rm }, kept, answer, ?_, rfl, hkept, hentries, hformed, htaken⟩
  rw [alertUnmatched, hroom]
  exact hmade

/-! ### An ALERT with a match (R111) -/

theorem votes_length_lt {votes new after : List Nat} (h : joined votes new after) :
    votes.length < after.length ↔ after ≠ votes := by
  obtain ⟨gained, rfl⟩ : ∃ gained, after = votes ++ gained := ⟨_, h⟩
  simp [List.length_pos_iff]

/-- An ACTIVE entry into which the first ALERT of a sender is merged (R111). -/
def mergedEntry (s : State) (e : EventEntry) (sender : Nat) (a : AlertPayload) : EventEntry :=
  { mergeAlert e sender a with lastActivity := s.tb.clock }

theorem mergeAlert_joined (e : EventEntry) (sender : Nat) (a : AlertPayload) :
    joined e.votes (a.origins.map BitVec.toNat) (mergeAlert e sender a).votes := appendVotes_joined _ _

/-- A repeat from a sender renews the last activity alone (R111). -/
theorem alertMatched_repeat {s : State} {e : EventEntry} {sender : Nat} {a : AlertPayload} (ha : e.active = true)
    (hs : sender ∈ e.declaredBy) : alertMatched s e sender a = { s with events := { s.events with
      entries := s.events.entries.map (fun y =>
        if y.serial = e.serial then { y with lastActivity := s.tb.clock } else y) } } := by
  unfold alertMatched eventUpdate
  rw [if_pos ha, if_pos (by simpa using hs)]
  simp only [beq_iff_eq]

section
variable {s : State} {e : EventEntry} (h : Held s e) {sender : Nat} {a : AlertPayload}
include h

/-- The first ALERT of a sender is merged into an ACTIVE entry, and makes a hold request where it gains an origin (R111, R119). -/
theorem Held.alertMatched_merge (hdir : directoryInv s) (ha : e.active = true) (hs : sender ∉ e.declaredBy) :
    ∃ rm line record, alertMatched s e sender a = { s with
        rm := rm
        events := { s.events with
          entries := replaced s.events.entries { mergedEntry s e sender a with recordId := record }, alertLine := line } } ∧
      ((mergedEntry s e sender a).votes = e.votes → rm = s.rm ∧ record = e.recordId) ∧
      ((mergedEntry s e sender a).votes ≠ e.votes → ∃ answer, holdTaken s e.key [] rm answer ∧
        record = e.recordId.or answer) := by
  have hupdate : eventUpdate s e.serial (fun _ => mergedEntry s e sender a) = putEvent s (mergedEntry s e sender a) :=
    h.update _ rfl
  have hheld : Held (formAlertLine (putEvent s (mergedEntry s e sender a))) (mergedEntry s e sender a) :=
    (h.put (y := mergedEntry s e sender a) rfl).congr rfl
  have hlonger : e.votes.length < (mergedEntry s e sender a).votes.length ↔ (mergedEntry s e sender a).votes ≠ e.votes :=
    votes_length_lt (mergeAlert_joined e sender a)
  have hmatched : alertMatched s e sender a = if e.votes.length < (mergedEntry s e sender a).votes.length then
      Machine.requestHold (formAlertLine (putEvent s (mergedEntry s e sender a))) (mergedEntry s e sender a).serial []
      else formAlertLine (putEvent s (mergedEntry s e sender a)) := by
    rw [← hupdate, alertMatched, if_pos ha, if_neg (by simpa using hs)]
    rfl
  rw [hmatched]
  by_cases hgained : (mergedEntry s e sender a).votes = e.votes
  · rw [if_neg (mt hlonger.1 (not_not.2 hgained)), formAlertLine_eq]
    exact ⟨s.rm, _, e.recordId, rfl, fun _ => ⟨rfl, rfl⟩, fun hne => absurd hgained hne⟩
  · obtain ⟨rm, answer, htaken, hstate⟩ := hheld.requestHold hdir []
    rw [if_pos (hlonger.2 hgained), hstate]
    refine ⟨rm, lineOf s.profile (replaced s.events.entries (mergedEntry s e sender a)), e.recordId.or answer, ?_,
      fun heq => absurd heq hgained, fun _ => ⟨answer, htaken, rfl⟩⟩
    simp only [putEvent, formAlertLine_eq]
    rw [replaced_replaced]
    · rfl
    · rfl

/-- A late ALERT is counted; that of a new sender is merged into the ENDED entry (R111; log entry 51). -/
theorem Held.alertMatched_late (ha : e.active = false) : alertMatched s e sender a =
    { s with events := { s.events with
      alertLate := bump s.events.alertLate
      entries := replaced s.events.entries (if sender ∈ e.declaredBy then e else mergeAlert e sender a) } } := by
  have hcounted : Held { s with events := { s.events with alertLate := bump s.events.alertLate } } e := h.congr rfl
  unfold alertMatched
  rw [if_neg (by simp [ha])]
  dsimp only
  by_cases hs : sender ∈ e.declaredBy
  · rw [if_pos (by simpa using hs), if_pos hs]
    have hsame : replaced s.events.entries e = s.events.entries :=
      (map_serial_eq_replaced h.differ h.mem id rfl).symm.trans (by simp)
    rw [hsame]
  · rw [if_neg (by simpa using hs), if_neg hs]
    exact hcounted.update (fun x => mergeAlert x sender a) rfl

end

end Sys2Proof.Machine

namespace Sys2Proof.Proofs

open Sys2Proof.Machine

/-- Settles O35: an ALERT that reaches the Event Table is ignored, counted, refused, or makes an entry. -/
theorem alertMakesEntry : Obligations.AlertMakesEntry := by
  rintro s h a _ hevents hdir rfl hx h1 h16 _ rfl
  have hreaches := exec_alertFrameReceived hx h1 h16
  have hrenewed : eventsInv (renewed s) := eventsInv_renewed hevents hx
  have hsender : h.sender.toNat ≤ 254 := by
    obtain ⟨-, -, hle, -⟩ := hx
    exact hle
  refine ⟨fun hlisten => ?_, fun hlisten hmalformed => ?_, fun hlisten hfits hno => ?_⟩
  · rw [hreaches, eventAlert, if_pos (show (renewed s).listenOnly = true from hlisten)]
  · rw [hreaches, eventAlert_malformed (s := renewed s) hlisten]
    · rfl
    · exact Bool.eq_false_iff.2 (mt (alertGood_iff a hsender).1 hmalformed)
  · have hgood := (alertGood_iff a hsender).2 hfits
    have hkey : ∀ e ∈ s.events.entries, e.key ≠ alertKey a := fun e he hk =>
      time_ne_of_matchAlert (matchAlert_none hno) he (congrArg Key.time hk)
    rw [hreaches, eventAlert_unmatched (s := renewed s) hlisten hgood hno]
    refine ⟨fun hnone => ?_, fun hplace => ?_⟩
    · rw [alertUnmatched, eventRoom_none (s := renewed s) hnone]
      rfl
    · obtain ⟨t, kept, answer, hmade, hframe, hkept, hentries, hreport, htaken⟩ :=
        alertUnmatched_made (s := renewed s) (sender := h.sender.toNat) (a := a) hrenewed hdir hkey hplace
      rw [hmade]
      exact ⟨t, _, kept, rfl, hframe, hentries, hkept.1, hkept.2, rfl, rfl, rfl, rfl, rfl, rfl, rfl, rfl, rfl, rfl, rfl, rfl,
        hreport, htaken⟩

/-- Settles O36: a repeat, a merge, or a late ALERT. -/
theorem alertIsMerged : Obligations.AlertIsMerged := by
  rintro s h a _ e hevents hdir rfl hx hlisten hfits hmatch
  have hheld : Held (renewed s) e := Held.congr ⟨eventsInv_serials hevents, hmatch.1.1⟩ rfl
  have hmatched : exec (.alertFrameReceived h a) s = .next (engineKick (alertMatched (renewed s) e h.sender.toNat a)) := by
    obtain ⟨hsender, -, -, -, -, -, h1, h16, hcount, -⟩ := id hfits
    rw [exec_alertFrameReceived hx (hcount ▸ h1) (hcount ▸ h16), eventAlert_matched (s := renewed s) hlisten _ hmatch]
    exact (alertGood_iff a (by omega)).2 hfits
  rw [hmatched]
  refine ⟨fun hactive hin => ?_, fun hactive hnew => ?_, fun hended => ?_⟩
  · rw [alertMatched_repeat hactive hin]
    rfl
  · obtain ⟨rm, line, record, hmerged, hsame, hgained⟩ := hheld.alertMatched_merge (a := a) hdir hactive hnew
    rw [hmerged]
    exact ⟨_, { mergedEntry (renewed s) e h.sender.toNat a with recordId := record }, rfl, rfl, hsame, hgained, rfl, hactive,
      mergeAlert_joined e h.sender.toNat a, rfl, rfl, rfl, rfl, rfl, rfl, rfl⟩
  · rw [hheld.alertMatched_late (sender := h.sender.toNat) (a := a) hended]
    refine ⟨_, if h.sender.toNat ∈ e.declaredBy then e else mergeAlert e h.sender.toNat a, rfl, ?_, fun hin => if_pos hin,
      fun hnew => ⟨_, mergeAlert_joined e h.sender.toNat a, (if_neg hnew).trans rfl⟩⟩
    have hserial : (if h.sender.toNat ∈ e.declaredBy then e else mergeAlert e h.sender.toNat a).serial = e.serial := by
      split <;> rfl
    rw [replaced, hserial]
    rfl

/-- Settles O50: a hold request of an entry of the table. -/
theorem holdRequestsAct : Obligations.HoldRequestsAct := by
  intro s e picks hevents hdir he
  exact Held.requestHold ⟨eventsInv_serials hevents, he⟩ hdir picks

end Sys2Proof.Proofs

/-! SUPPORT. The end of a transmission: the rows FRAME_SENT and MISMATCH, and the completion of an ALERT (R113, R114, R191 to
R193). -/

namespace Sys2Proof.Machine

/-- The entries after the completion of an ALERT frame of a serial: the next repeat is due 2 s later while repeats remain
(R114). -/
def nextDue (s : State) (serial : Nat) : List EventEntry :=
  s.events.entries.map (fun e =>
    if e.serial = serial ∧ e.active = true ∧ 0 < e.repeatsLeft
    then { e with repeatDue := some (addUs s.tb.clock 2000000) } else e)

theorem alertDone_eq (s : State) (serial : Nat) (failed : Bool) : alertDone s serial failed = { s with
    events := { s.events with
      entries := nextDue s serial
      sendFailed := if failed = true then bump s.events.sendFailed else s.events.sendFailed } } := by
  have hentries : ∀ now : ArrayTime, s.events.entries.map (fun e => if e.serial == serial then
      (if e.active && decide (0 < e.repeatsLeft) then { e with repeatDue := some (addUs now 2000000) } else e) else e) =
        s.events.entries.map (fun e => if e.serial = serial ∧ e.active = true ∧ 0 < e.repeatsLeft
          then { e with repeatDue := some (addUs now 2000000) } else e) := fun now =>
    List.map_congr_left fun e _ => by
      simp only [beq_iff_eq, Bool.and_eq_true, decide_eq_true_iff, ← ite_and]
  unfold alertDone eventUpdate nextDue
  rw [← hentries]
  cases failed <;> rfl

/-- The completion of an ALERT is reported; that of another frame is not (R113). -/
theorem reportFrame_alert {q : QFrame} {a : AlertContent} (h : q.frame = .alert a) (s : State) (failed : Bool) :
    reportFrame s q failed = alertDone s a.serial failed := by
  unfold reportFrame
  rw [h]

theorem reportFrame_other {q : QFrame} (h : ∀ a, q.frame ≠ .alert a) (s : State) (failed : Bool) :
    reportFrame s q failed = s := by
  unfold reportFrame
  split
  next a ha => exact absurd ha (h a)
  next => rfl

theorem freshAccess_eq (rest : List QFrame) : freshAccess rest = if rest = [] then .idle else .waiting := by
  cases rest <;> rfl

theorem attemptLimit_eq (q : QFrame) : attemptLimit q = if q.frame.priority = 2 then 16 else 12 := by
  unfold attemptLimit Frame.priority
  cases q.frame <;> rfl

section
variable {s : State} {q : QFrame} {rest : List QFrame} (ha : s.awake = true) (hq : s.line.queue = q :: rest)
include ha hq

/-- FRAME_SENT acts once the last stop bit has left (R193). -/
theorem exec_frameSent {e : Nat} {stamp : Option ArrayTime} (ht : s.line.access = .transmitting e stamp) :
    exec .frameSent s = .next (if frameUs q ≤ e then frameDone s q else s) := by
  have hexec : exec .frameSent s = execFrameSent s := rfl
  rw [hexec, execFrameSent, hq, ht]
  simp [doWhen, ha]

/-- MISMATCH acts while a recessive bit is driven (R191). -/
theorem exec_mismatch : exec .mismatch s = .next (if s.pins.line = some true then frameMismatch s q else s) := by
  have hexec : exec .mismatch s = execMismatch s := rfl
  have hpins : s.pins.line = if s.awake then s.line.level else none := rfl
  rw [hexec, execMismatch, hpins, ha, if_pos rfl, hq]
  split
  next x _ level hx hlevel =>
    rw [if_pos hlevel, (List.cons.inj hx).1]
    rfl
  next hother =>
    rw [if_neg]
    exact fun hlevel => hother q rest rfl hlevel

end

end Sys2Proof.Machine

namespace Sys2Proof.Proofs

open Sys2Proof.Machine

/-- Settles O40: a frame that is sent, one that fails, and one that is dropped at its limit. -/
theorem transmissionEnds : Obligations.TransmissionEnds := by
  rintro s q rest e stamp left ha hq ht hleft due hdue
  have hleave : leaveQueue s.line = left := by rw [hleft, leaveQueue, hq, List.drop_one, List.tail_cons, freshAccess_eq]
  have hnext : ∀ serial, nextDue s serial = due serial := fun serial => by rw [hdue]; rfl
  refine ⟨fun hlt => ?_, fun hle sent hsent => ⟨fun hother => ?_, fun a halert => ?_⟩, fun hline => ?_,
    fun hline limit hlimit => ⟨fun hlt => ?_, fun hle dropped hdropped => ⟨fun hother => ?_, fun a halert => ?_⟩⟩⟩
  · rw [exec_frameSent ha hq ht, if_neg (Nat.not_le.2 hlt)]
  · rw [exec_frameSent ha hq ht, if_pos hle, frameDone, reportFrame_other hother, hleave, hsent]
    rfl
  · rw [exec_frameSent ha hq ht, if_pos hle, frameDone, reportFrame_alert halert, alertDone_eq, hleave, hsent, ← hnext]
    rfl
  · rw [exec_mismatch ha hq, if_neg hline]
  · rw [exec_mismatch ha hq, if_pos hline, frameMismatch, attemptLimit_eq, ← hlimit, if_neg (Nat.not_le.2 hlt)]
    simp only [frameFailed, hq]
    rfl
  · rw [exec_mismatch ha hq, if_pos hline, frameMismatch, attemptLimit_eq, ← hlimit, if_pos hle, frameDropped,
      reportFrame_other hother, hdropped, ← hleave]
    rfl
  · rw [exec_mismatch ha hq, if_pos hline, frameMismatch, attemptLimit_eq, ← hlimit, if_pos hle, frameDropped,
      reportFrame_alert halert, alertDone_eq, hdropped, ← hleave, ← hnext]
    rfl

end Sys2Proof.Proofs

/-! SUPPORT. The record directory, the page map and the record memory's bytes under every operation (R123, R126, R127). -/

namespace Sys2Proof.Machine

/-! ### What the invariants read of the Record Memory -/

/-- What the invariants of the directory and of the page map read: the page map, the identifiers of the directory, the next one,
and the pages of the page buffer. -/
def RecordMem.outline (m : RecordMem) : List PageKind × List Nat × Nat × Option Nat × Option Nat :=
  (m.map, m.dir.map DirEntry.id, m.nextId, m.cap.buf.page, m.cap.buf.next)

/-- The identifiers of a directory: at most 64, ascending, none given twice (R126). -/
structure IdsOrdered (ids : List Nat) (next : Nat) : Prop where
  room : ids.length ≤ 64
  order : ids.Pairwise (fun a b => a < b)
  bound : next ≤ 4294967295
  given : next = 4294967295 ∨ ∀ n ∈ ids, n < next

/-- A page map of 512 entries, of which exactly the care pages are CARE (R123). -/
structure MapOrdered (map : List PageKind) : Prop where
  size : map.length = 512
  care : ∀ p < 512, map.getD p .care = .care ↔ isCarePage p = true

/-- A page of the page buffer, if there is one, is a pool page (R123). -/
def inPool (page : Option Nat) : Prop := ∀ p, page = some p → poolPage p

theorem inPool_none : inPool none := fun _ h => by cases h

theorem directoryInv_iff (s : State) : directoryInv s ↔ IdsOrdered (s.rm.dir.map DirEntry.id) s.rm.nextId := by
  have hroom : (s.rm.dir.map DirEntry.id).length = s.rm.dir.length := List.length_map _
  constructor
  · rintro ⟨h1, h2, h3, h4⟩
    exact ⟨hroom ▸ h1, List.pairwise_map.2 h2, h3, by simpa using h4⟩
  · rintro ⟨h1, h2, h3, h4⟩
    exact ⟨hroom ▸ h1, List.pairwise_map.1 h2, h3, by simpa using h4⟩

theorem pageMapInv_iff (s : State) :
    pageMapInv s ↔ MapOrdered s.rm.map ∧ inPool s.rm.cap.buf.page ∧ inPool s.rm.cap.buf.next := by
  constructor
  · rintro ⟨hsize, hcare, hpage, hnext⟩
    exact ⟨⟨hsize, hcare⟩, hpage, hnext⟩
  · rintro ⟨⟨hsize, hcare⟩, hpage, hnext⟩
    exact ⟨hsize, hcare, hpage, hnext⟩

theorem IdsOrdered.sublist {ids kept : List Nat} {next : Nat} (h : IdsOrdered ids next) (hk : kept.Sublist ids) :
    IdsOrdered kept next :=
  ⟨hk.length_le.trans h.room, h.order.sublist hk, h.bound, h.given.imp_right fun hg n hn => hg n (hk.subset hn)⟩

/-- The next identifier given to a new record (R126, R132). -/
theorem IdsOrdered.append {ids : List Nat} {next : Nat} (h : IdsOrdered ids next) (hr : ids.length < 64)
    (hn : next ≠ 4294967295) : IdsOrdered (ids ++ [next]) (next + 1) := by
  have hlt : ∀ n ∈ ids, n < next := h.given.resolve_left hn
  refine ⟨by simpa using hr, ?_, ?_, .inr fun n hm => ?_⟩
  · rw [List.pairwise_append]
    exact ⟨h.order, List.pairwise_singleton _ _, fun a ha b hb => by rw [List.mem_singleton.1 hb]; exact hlt a ha⟩
  · have := h.bound
    omega
  · rcases List.mem_append.1 hm with hm | hm
    · exact Nat.lt_succ_of_lt (hlt n hm)
    · rw [List.mem_singleton.1 hm]
      exact Nat.lt_succ_self next

/-- The pages of the map that are not CARE are the pool pages (R123). -/
theorem MapOrdered.pool_iff {map : List PageKind} (h : MapOrdered map) (p : Nat) :
    poolPage p ↔ map.getD p .care ≠ .care := by
  unfold poolPage
  by_cases hp : p < 512
  · rw [ne_eq, h.care p hp, Bool.not_eq_true]
    exact and_iff_right hp
  · simp [hp, List.getD_eq_getElem?_getD, List.getElem?_eq_none (h.size.trans_le (Nat.le_of_not_lt hp))]

/-- A pool page's entry replaced. -/
theorem MapOrdered.set {map : List PageKind} (h : MapOrdered map) {p : Nat} {k : PageKind} (hp : poolPage p) (hk : k ≠ .care) :
    MapOrdered (map.set p k) := by
  refine ⟨(List.length_set ..).trans h.size, fun q hq => ?_⟩
  rw [← h.care q hq]
  by_cases hqp : p = q
  · subst hqp
    have hold := (h.pool_iff p).1 hp
    rw [List.getD_eq_getElem?_getD, List.getElem?_set_self (h.size ▸ hq)]
    exact iff_of_false hk hold
  · simp [List.getD_eq_getElem?_getD, List.getElem?_set_ne hqp]

/-- Entries replaced by what they are: CARE stays CARE, and no other becomes it. -/
theorem MapOrdered.map {map : List PageKind} (h : MapOrdered map) {f : PageKind → PageKind}
    (hf : ∀ k, f k = .care ↔ k = .care) : MapOrdered (map.map f) := by
  refine ⟨(List.length_map ..).trans h.size, fun q hq => ?_⟩
  have hin : q < map.length := h.size ▸ hq
  rw [← h.care q hq]
  simp [List.getD_eq_getElem?_getD, List.getElem?_eq_getElem hin, hf]

/-- A state `t` meets each of the two invariants that a state `s` meets. -/
structure RecordsKept (s t : State) : Prop where
  dir : directoryInv s → directoryInv t
  map : pageMapInv s → pageMapInv t

theorem RecordsKept.trans {s t u : State} (h : RecordsKept s t) (k : RecordsKept t u) : RecordsKept s u :=
  ⟨k.dir ∘ h.dir, k.map ∘ h.map⟩

theorem RecordsKept.of_outline {s t : State} (h : t.rm.outline = s.rm.outline) : RecordsKept s t := by
  simp only [RecordMem.outline, Prod.mk.injEq] at h
  obtain ⟨hmap, hdir, hnext, hpage, hahead⟩ := h
  constructor
  · rw [directoryInv_iff, directoryInv_iff, hdir, hnext]
    exact id
  · rw [pageMapInv_iff, pageMapInv_iff, hmap, hpage, hahead]
    exact id

theorem RecordsKept.refl (s : State) : RecordsKept s s := .of_outline rfl

/-- A directory that changes alone, its identifiers among the old ones. -/
theorem RecordsKept.of_dir {s t : State} (hmap : t.rm.map = s.rm.map) (hnext : t.rm.nextId = s.rm.nextId)
    (hpage : t.rm.cap.buf.page = s.rm.cap.buf.page) (hahead : t.rm.cap.buf.next = s.rm.cap.buf.next)
    (hdir : (t.rm.dir.map DirEntry.id).Sublist (s.rm.dir.map DirEntry.id)) : RecordsKept s t := by
  constructor
  · rw [directoryInv_iff, directoryInv_iff, hnext]
    exact fun h => h.sublist hdir
  · rw [pageMapInv_iff, pageMapInv_iff, hmap, hpage, hahead]
    exact id

/-- The page map and the pages of the buffer change, the directory's identifiers do not. -/
theorem RecordsKept.of_map {s t : State} (hdir : t.rm.dir.map DirEntry.id = s.rm.dir.map DirEntry.id)
    (hnext : t.rm.nextId = s.rm.nextId)
    (hmap : pageMapInv s → MapOrdered t.rm.map ∧ inPool t.rm.cap.buf.page ∧ inPool t.rm.cap.buf.next) :
    RecordsKept s t := by
  constructor
  · rw [directoryInv_iff, directoryInv_iff, hdir, hnext]
    exact id
  · exact fun h => (pageMapInv_iff t).2 (hmap h)

/-- A capture put in place, whose buffer's pages are pool pages. -/
theorem RecordsKept.setCap {s t : State} (h : RecordsKept s t) {c : Capture}
    (hc : pageMapInv s → pageMapInv t → inPool c.buf.page ∧ inPool c.buf.next) : RecordsKept s (setCap t c) :=
  ⟨fun hs => h.dir hs, fun hs => (pageMapInv_iff _).2 ⟨((pageMapInv_iff t).1 (h.map hs)).1, hc hs (h.map hs)⟩⟩

theorem setCap_recordsKept {s : State} {c : Capture} (h : pageMapInv s → inPool c.buf.page ∧ inPool c.buf.next) :
    RecordsKept s (Machine.setCap s c) := (RecordsKept.refl s).setCap fun hs _ => h hs

/-! ### The page map and the directory -/

theorem map_id_of_update (dir : List DirEntry) (id : Nat) (f : DirEntry → DirEntry) (hf : ∀ e, (f e).id = e.id) :
    (dir.map (fun e => if e.id == id then f e else e)).map DirEntry.id = dir.map DirEntry.id := by
  rw [List.map_map]
  refine List.map_congr_left fun e _ => ?_
  rw [Function.comp_apply]
  split
  · exact hf e
  · rfl

theorem dirUpdate_outline (s : State) (id : Nat) (f : DirEntry → DirEntry) (hf : ∀ e, (f e).id = e.id) :
    (dirUpdate s id f).rm.outline = s.rm.outline := by
  unfold RecordMem.outline dirUpdate
  rw [map_id_of_update _ _ _ hf]

@[simp] theorem lookAhead_outline (s : State) : (lookAhead s).rm.outline = s.rm.outline := by
  obtain ⟨ahead, h⟩ := lookAhead_rm s
  rw [h]
  rfl

theorem setKind_recordsKept {s : State} {p : Nat} {k : PageKind} (hp : pageMapInv s → poolPage p) (hk : k ≠ .care) :
    RecordsKept s (setKind s p k) :=
  .of_map rfl rfl fun hs => by
    obtain ⟨hmap, hbuf⟩ := (pageMapInv_iff s).1 hs
    exact ⟨hmap.set (hp hs) hk, hbuf⟩

/-- A page whose entry is not CARE is a pool page. -/
theorem poolPage_of_kindOf {s : State} (h : pageMapInv s) {p : Nat} (hp : s.kindOf p ≠ .care) : poolPage p :=
  (((pageMapInv_iff s).1 h).1.pool_iff p).2 hp

theorem dirRemove_recordsKept (s : State) (id : Nat) : RecordsKept s (dirRemove s id) :=
  .of_dir rfl rfl rfl rfl (List.filter_sublist.map _)

theorem freePages_recordsKept (s : State) (id : Nat) : RecordsKept s (freePages s id) :=
  .of_map rfl rfl fun hs => by
    obtain ⟨hmap, hbuf⟩ := (pageMapInv_iff s).1 hs
    refine ⟨hmap.map fun k => ?_, hbuf⟩
    split
    next ho => cases k <;> simp_all [PageKind.isOwnedBy]
    next => rfl

theorem reclaim_recordsKept {s t : State} (h : reclaim s = some t) : RecordsKept s t := by
  unfold reclaim at h
  split at h
  · cases h
  next e _ =>
    obtain rfl := Option.some.inj h
    have hgone := (freePages_recordsKept s e.id).trans (dirRemove_recordsKept _ e.id)
    generalize dirRemove (freePages s e.id) e.id = u at hgone ⊢
    refine hgone.trans (.of_outline ?_)
    rw [lookAhead_outline]
    rfl

/-- The next free page is a pool page (R123, R135). -/
theorem poolPage_of_nextFree {s : State} (h : pageMapInv s) {p : Nat} (hp : nextFree s = some p) : poolPage p := by
  obtain ⟨k, -, -, hfree, -⟩ := (nextFree_eq_some_iff s p).1 hp
  refine poolPage_of_kindOf h ?_
  rcases hfree with hf | hf <;> rw [hf] <;> decide

theorem takePage_outline (s : State) (p id idx : Nat) :
    (takePage s p id idx).rm.outline = (setKind s p (.owned id idx false)).rm.outline := by
  unfold takePage
  rw [lookAhead_outline]
  exact dirUpdate_outline (setKind s p _) id (fun e =>
    { e with pages := e.pages + 1, firstPage := if e.firstPage.isNone then some p else e.firstPage }) fun _ => rfl

theorem takePage_recordsKept {s : State} {p : Nat} (id idx : Nat) (hp : nextFree s = some p) :
    RecordsKept s (takePage s p id idx) :=
  (setKind_recordsKept (fun hs => poolPage_of_nextFree hs hp) (by simp)).trans (.of_outline (takePage_outline s p id idx))

/-- An allocation keeps the directory and the page map in order, and the page it gives is a pool page (R135, R136). -/
theorem allocate_recordsKept (fuel : Nat) (s : State) (id idx : Nat) :
    RecordsKept s (allocate fuel s id idx).state ∧
      ∀ t p, allocate fuel s id idx = .got t p → pageMapInv s → poolPage p := by
  have hfound : ∀ (u : State) p, nextFree u = some p →
      RecordsKept u (if u.kindOf p = .freeErased then Alloc.got (takePage u p id idx) p else .wait (lookAhead u)).state ∧
        ∀ t q, (if u.kindOf p = .freeErased then Alloc.got (takePage u p id idx) p else .wait (lookAhead u)) = .got t q →
          pageMapInv u → poolPage q := by
    intro u p hp
    split
    · refine ⟨?_, fun t q h hu => ?_⟩
      · rw [Alloc.state]
        exact takePage_recordsKept id idx hp
      · obtain ⟨-, rfl⟩ := Alloc.got.inj h
        exact poolPage_of_nextFree hu hp
    · refine ⟨?_, fun t q h => by cases h⟩
      rw [Alloc.state]
      exact .of_outline (lookAhead_outline u)
  induction fuel generalizing s with
  | zero =>
    unfold allocate allocateOr
    split
    · exact hfound s _ ‹_›
    · exact ⟨.refl s, fun t p h => by cases h⟩
  | succ k ih =>
    unfold allocate allocateOr
    split
    · exact hfound s _ ‹_›
    · dsimp only
      split
      · exact ⟨.refl s, fun t p h => by cases h⟩
      next u hu =>
        have hkept := reclaim_recordsKept hu
        exact ⟨hkept.trans (ih u).1, fun t p h hs => (ih u).2 t p h (hkept.map hs)⟩

/-! ### The capture -/

theorem countClose_outline (s : State) (cause : EndCause) : (countClose s cause).rm.outline = s.rm.outline := by
  cases cause <;> rfl

@[simp] theorem countClose_cap (s : State) (cause : EndCause) : (countClose s cause).rm.cap = s.rm.cap := by
  cases cause <;> rfl

theorem returnIf_recordsKept {s : State} (id : Nat) {page : Option Nat} (hp : pageMapInv s → inPool page) :
    RecordsKept s (returnIf s id page) := by
  cases page with
  | none => exact .refl s
  | some p =>
    exact (setKind_recordsKept (fun hs => hp hs p rfl) (by simp)).trans (.of_outline (dirUpdate_outline _ _ _ fun _ => rfl))

theorem captureFreed_recordsKept (s : State) : RecordsKept s (captureFreed s) := by
  rw [captureFreed_eq]
  refine setCap_recordsKept fun _ => ?_
  unfold freedCapture
  split <;> exact ⟨inPool_none, inPool_none⟩

theorem captureClosing_recordsKept {s : State} {b : PageBuffer} (h : pageMapInv s → inPool b.page ∧ inPool b.next) :
    RecordsKept s (captureClosing s b) := setCap_recordsKept h

theorem dropRecord_recordsKept (s : State) (id : Nat) : RecordsKept s (dropRecord s id) :=
  (dirRemove_recordsKept s id).trans (.of_outline rfl)

theorem markClosed_outline (s : State) (id : Nat) (cause : EndCause) : (markClosed s id cause).rm.outline = s.rm.outline :=
  dirUpdate_outline _ _ _ fun _ => rfl

theorem returnIf_cap (s : State) (id : Nat) (page : Option Nat) : (returnIf s id page).rm.cap = s.rm.cap := by
  cases page <;> rfl

theorem closeRecord_recordsKept (s : State) (cause : EndCause) : RecordsKept s (closeRecord s cause) := by
  refine RecordsKept.trans (.of_outline (countClose_outline s cause)) ?_
  unfold closeRecord
  generalize countClose s cause = u
  have hbuf : pageMapInv u → inPool u.rm.cap.buf.page ∧ inPool u.rm.cap.buf.next := fun h => ((pageMapInv_iff u).1 h).2
  dsimp only
  split
  · exact .refl u
  next id _ =>
    split_ifs
    · exact captureClosing_recordsKept hbuf
    · exact (returnIf_recordsKept id fun h => (hbuf h).2).trans
        (captureClosing_recordsKept fun h => ⟨by
          have := ((pageMapInv_iff _).1 h).2.1
          rwa [returnIf_cap] at this, inPool_none⟩)
    · exact ((returnIf_recordsKept id fun h => (hbuf h).1).trans (dropRecord_recordsKept _ id)).trans
        (captureFreed_recordsKept _)
    · exact ((returnIf_recordsKept id fun h => (hbuf h).1).trans (.of_outline (markClosed_outline _ id cause))).trans
        (captureFreed_recordsKept _)
    · exact (captureClosing_recordsKept hbuf).trans (.of_outline rfl)

theorem dropWaiting_recordsKept (s : State) : RecordsKept s (dropWaiting s) := by
  unfold dropWaiting
  split
  · exact .refl s
  · exact (dropRecord_recordsKept s _).trans (.of_outline rfl)

theorem closeAtOnce_recordsKept (s : State) (cause : EndCause) : RecordsKept s (closeAtOnce s cause) := by
  unfold closeAtOnce
  split
  · exact closeRecord_recordsKept s cause
  · split
    · exact RecordsKept.trans (.of_outline (countClose_outline s cause)) (dropWaiting_recordsKept _)
    · exact .refl s

theorem announceDisplaced_recordsKept (s : State) (num : Nat) : RecordsKept s (announceDisplaced s num) := by
  unfold announceDisplaced
  split
  · exact closeAtOnce_recordsKept s _
  · exact .refl s

theorem bufferSet_outline (s : State) (id : Nat) (x : SampleSet) : (bufferSet s id x).rm.outline = s.rm.outline :=
  dirUpdate_outline s id (fun e => { e with lastSet := some x.stamp }) fun _ => rfl

theorem storeSet_recordsKept (s : State) (id : Nat) (x : SampleSet) : RecordsKept s (storeSet s id x) := by
  have hset : RecordsKept s (bufferSet s id x) := .of_outline (bufferSet_outline s id x)
  unfold storeSet
  dsimp only
  split
  · exact hset.trans (closeRecord_recordsKept _ _)
  · exact hset

/-- A page that an allocation gives, put into the capture's buffer. -/
theorem allocatePage_setCap {s t : State} {id idx p : Nat} (h : allocatePage s id idx = .got t p) {c : Capture}
    (hpage : c.buf.page = some p ∨ c.buf.page = t.rm.cap.buf.page)
    (hnext : c.buf.next = some p ∨ c.buf.next = t.rm.cap.buf.next) :
    RecordsKept s (setCap t c) := by
  obtain ⟨hkept, hpool⟩ := allocate_recordsKept s.rm.dir.length s id idx
  rw [← allocatePage, h] at hkept
  refine hkept.setCap fun hs ht => ?_
  have hp : inPool (some p) := fun q hq => by cases hq; exact hpool t p h hs
  obtain ⟨-, hbuf⟩ := (pageMapInv_iff t).1 ht
  constructor
  · rcases hpage with h | h <;> rw [h]
    exacts [hp, hbuf.1]
  · rcases hnext with h | h <;> rw [h]
    exacts [hp, hbuf.2]

theorem captureStep_recordsKept (s : State) : RecordsKept s (captureStep s).1 := by
  have hother : ∀ id idx, RecordsKept s (allocatePage s id idx).state := fun id idx =>
    (allocate_recordsKept s.rm.dir.length s id idx).1
  unfold captureStep
  dsimp only
  split
  · exact .refl s
  next id _ =>
    have hkept := hother id s.rm.cap.buf.idx
    split
    next t p h => exact allocatePage_setCap h (.inl rfl) (.inr rfl)
    next h => rwa [h] at hkept
    next h =>
      rw [h] at hkept
      exact hkept.trans (closeRecord_recordsKept _ _)
  · exact closeRecord_recordsKept s .normal
  next id _ =>
    have hkept := hother id (s.rm.cap.buf.idx + 1)
    split
    next t p h => 
      exact (allocatePage_setCap h (c := { t.rm.cap with buf := { t.rm.cap.buf with next := some p, busy := true } })
        (.inr rfl) (.inl rfl)).trans (.of_outline rfl)
    next h => rwa [h] at hkept
    next h =>
      rw [h] at hkept
      exact hkept.trans (closeRecord_recordsKept _ _)
  · exact storeSet_recordsKept s _ _

theorem captureTake_recordsKept (s : State) : RecordsKept s (captureTake s) := by
  unfold captureTake
  generalize captureFuel = fuel
  induction fuel generalizing s with
  | zero => exact .refl s
  | succ k ih =>
    unfold captureRun
    split
    · exact (captureStep_recordsKept s).trans (ih _)
    · exact captureStep_recordsKept s

/-! ### Picks (R132, R133) -/

/-- A capture begun in a state whose directory has room for the new record (R132). -/
theorem RecordsKept.captureBegin {r s : State} (h : RecordsKept r s) (hroom : directoryInv r → s.rm.dir.length < 64)
    (hn : s.rm.nextId ≠ 4294967295) (onset : ArrayTime) : RecordsKept r (Machine.captureBegin s onset) := by
  obtain ⟨u, ⟨start, k, first, cap, -, -, -, -, hclosing, hopened, rfl⟩, htake⟩ := captureBegin_eq s onset
  rw [htake]
  refine RecordsKept.trans ⟨fun hr => ?_, fun hr => ?_⟩
    (RecordsKept.trans (.of_outline (lookAhead_outline _)) (captureTake_recordsKept _))
  · have hs := (directoryInv_iff s).1 (h.dir hr)
    rw [directoryInv_iff]
    dsimp only
    rw [List.map_append]
    exact hs.append (by simpa using hroom hr) hn
  · obtain ⟨hmap, hbuf⟩ := (pageMapInv_iff s).1 (h.map hr)
    refine (pageMapInv_iff _).2 ⟨hmap, ?_⟩
    by_cases hm : s.rm.cap.mode = .closing
    · rw [hclosing hm]
      exact hbuf
    · rw [hopened hm]
      exact ⟨inPool_none, inPool_none⟩

/-- A reclaim takes one record from the directory at least, and no identifier (R136). -/
theorem reclaim_room {s t : State} (h : reclaim s = some t) :
    t.rm.dir.length < s.rm.dir.length ∧ t.rm.nextId = s.rm.nextId := by
  cases hf : s.rm.dir.find? DirEntry.reclaimable with
  | none => rw [reclaim, hf] at h; cases h
  | some e =>
    have hfirst : firstReclaimed s e := (firstWith_iff reclaimable _ reclaimable_iff _ _).2 hf
    rw [reclaim_first hfirst] at h
    obtain rfl := Option.some.inj h
    obtain ⟨-, -, hnext, -⟩ := reclaimedOf_rm s e
    exact ⟨reclaimedOf_dir_lt hfirst, hnext⟩

/-- The room of the directory for a new record, after the reclaim that it needs, if any (R132). -/
theorem directoryRoom_spec {s t : State} (h : directoryRoom s = some t) : RecordsKept s t ∧
    (directoryInv s → t.rm.dir.length < 64) ∧ t.rm.nextId = s.rm.nextId := by
  unfold directoryRoom at h
  split at h
  next hlt =>
    cases h
    exact ⟨.refl s, fun _ => hlt, rfl⟩
  next =>
    obtain ⟨hlen, hnext⟩ := reclaim_room h
    exact ⟨reclaim_recordsKept h, fun hs => hlen.trans_le hs.1, hnext⟩

/-- The room of the pool for a new record, after the reclaim that it needs, if any (R132). -/
theorem pageRoom_spec {s t : State} (h : pageRoom s = some t) : RecordsKept s t ∧
    t.rm.dir.length ≤ s.rm.dir.length ∧ t.rm.nextId = s.rm.nextId := by
  unfold pageRoom at h
  split at h
  · cases h
    exact ⟨.refl s, le_rfl, rfl⟩
  next =>
    obtain ⟨hlen, hnext⟩ := reclaim_room h
    exact ⟨reclaim_recordsKept h, hlen.le, hnext⟩

theorem capturePick_recordsKept (s : State) (onset : ArrayTime) : RecordsKept s (capturePick s onset) := by
  have hrefused : ∀ u, RecordsKept u (captureRefused u) := fun u => .of_outline rfl
  unfold capturePick
  split
  · exact .of_outline rfl
  · split
    · exact hrefused s
    next hbarred =>
      have hn : s.rm.nextId ≠ 4294967295 := fun h => hbarred (by simp [h])
      split
      · exact hrefused s
      next u hu =>
        obtain ⟨hsu, hlu, hnu⟩ := directoryRoom_spec hu
        split
        · exact hsu.trans (hrefused u)
        next v hv =>
          obtain ⟨huv, hlv, hnv⟩ := pageRoom_spec hv
          exact (hsu.trans huv).captureBegin (fun hs => hlv.trans_lt (hlu hs)) (by rwa [hnv, hnu]) onset

@[simp] theorem captureTriggerEnd_outline (s : State) (stamp : ArrayTime) :
    (captureTriggerEnd s stamp).rm.outline = s.rm.outline := by
  unfold captureTriggerEnd
  split <;> rfl

/-! ### The blocks that make hold requests (R119) -/

@[simp] theorem holdApply_outline (s : State) (r : HoldReq) : (holdApply s r).rm.outline = s.rm.outline := by
  unfold RecordMem.outline holdApply
  dsimp only
  rw [List.map_map, show (DirEntry.id ∘ _ : DirEntry → Nat) = DirEntry.id from funext fun e => by
    rw [Function.comp_apply]; split <;> rfl]

@[simp] theorem requestHold_outline (s : State) (serial : Nat) (picks : List ArrayTime) :
    (requestHold s serial picks).rm.outline = s.rm.outline := by
  unfold requestHold
  split
  · rfl
  · simp

@[simp] theorem openDeclared_outline (s : State) (d : Declaration) : (openDeclared s d).rm.outline = s.rm.outline := by
  simp [openDeclared]

@[simp] theorem completeDeclared_outline (s : State) (d : Declaration) (serial : Nat) :
    (completeDeclared s d serial).rm.outline = s.rm.outline := by
  simp [completeDeclared]

/-- Room for a new entry is made in the Event Table alone (R107). -/
theorem eventRoom_rm {s t : State} (h : eventRoom s = some t) : t.rm = s.rm := by
  unfold eventRoom at h
  split at h
  · cases h; rfl
  · split at h
    · cases h
    · cases h; rfl

@[simp] theorem declareEvent_outline (s : State) (d : Declaration) : (declareEvent s d).1.rm.outline = s.rm.outline := by
  unfold declareEvent
  split
  · split <;> simp
  · split
    next u hu => rw [openDeclared_outline, eventRoom_rm hu]
    next => rfl

@[simp] theorem attachVote_outline (s : State) (serial : Nat) (p : PickEntry) :
    (attachVote s serial p).rm.outline = s.rm.outline := by
  simp [attachVote]

@[simp] theorem declareSearch_outline (s : State) : (declareSearch s).rm.outline = s.rm.outline := by
  unfold declareSearch
  split
  · rfl
  · dsimp only
    split <;> simp

@[simp] theorem evaluatePick_outline (s : State) (n : PickEntry) : (evaluatePick s n).rm.outline = s.rm.outline := by
  unfold evaluatePick
  split
  · rfl
  · split <;> simp

theorem enterPick_outline (s : State) (n : PickEntry) : (enterPick s n).rm.outline = s.rm.outline := by
  unfold enterPick
  rw [evaluatePick_outline]

@[simp] theorem offerPick_outline (s : State) (n : PickEntry) : (offerPick s n).rm.outline = s.rm.outline := by
  have hage : (ageSweep s).rm.outline = s.rm.outline := rfl
  rw [offerPick_eq]
  generalize ageSweep s = u at hage ⊢
  rw [← hage]
  split_ifs
  · rfl
  · rfl
  · rfl
  · exact enterPick_outline u n

@[simp] theorem pickRemote_outline (s : State) (sender : Nat) (p : PickPayload) :
    (pickRemote s sender p).rm.outline = s.rm.outline := by
  unfold pickRemote
  split <;> simp

@[simp] theorem alertMatched_outline (s : State) (e : EventEntry) (sender : Nat) (a : AlertPayload) :
    (alertMatched s e sender a).rm.outline = s.rm.outline := by
  unfold alertMatched
  dsimp only
  split_ifs <;> simp

@[simp] theorem alertUnmatched_outline (s : State) (sender : Nat) (a : AlertPayload) :
    (alertUnmatched s sender a).rm.outline = s.rm.outline := by
  unfold alertUnmatched
  split
  · rfl
  next u hu => simp [eventRoom_rm hu]

@[simp] theorem eventAlert_outline (s : State) (sender : Nat) (a : AlertPayload) :
    (eventAlert s sender a).rm.outline = s.rm.outline := by
  unfold eventAlert
  split_ifs
  · rfl
  · rfl
  · split <;> simp

/-! ### Steps of local time (R21, R140) -/

@[simp] theorem stepClock_outline (s : State) (d : Int) : (stepClock s d).rm.outline = s.rm.outline := by
  unfold stepClock RecordMem.outline
  rfl

@[simp] theorem correctBy_outline (s : State) (e t : Int) : (correctBy s e t).rm.outline = s.rm.outline := by
  unfold correctBy
  split <;> simp

theorem peerPath_outline (s : State) (own : Nat) : (peerPath s own).rm.outline = s.rm.outline := by
  unfold peerPath
  split
  · simp
  · split_ifs <;> simp

theorem unsetPath_outline (s : State) : (unsetPath s).rm.outline = s.rm.outline := by
  unfold unsetPath seedStep
  split <;> simp

@[simp] theorem steerPath_outline (s : State) : (steerPath s).rm.outline = s.rm.outline := by
  unfold steerPath
  split
  · exact unsetPath_outline s
  · split
    · exact peerPath_outline s 1
    · rfl
  · exact peerPath_outline s _

@[simp] theorem steeringWork_outline (s : State) : (steeringWork s).rm.outline = s.rm.outline := by
  simp [steeringWork, shiftedInstant]

@[simp] theorem ppsEdgeWork_outline (s : State) : (ppsEdgeWork s).rm.outline = s.rm.outline := by
  have hreacquire : ∀ e, (ppsReacquire s e).rm.outline = s.rm.outline := fun e => by
    unfold ppsReacquire
    dsimp only
    split <;> simp
  have halign : ∀ e, (ppsAlign s e).rm.outline = s.rm.outline := fun e => by
    unfold ppsAlign
    split <;> simp
  have hanchor : ∀ e, (ppsAnchor s e).rm.outline = s.rm.outline := fun e => by
    unfold ppsAnchor
    dsimp only
    split <;> simp
  unfold ppsEdgeWork
  dsimp only
  split_ifs <;> simp [hreacquire, halign, hanchor]

/-! ### Queries -/

@[simp] theorem secondsReply_outline (s : State) (n : Nat) : (secondsReply s n).state.rm.outline = s.rm.outline := by
  unfold secondsReply setSecondsWork
  split
  · dsimp only
    split <;> simp
  · rfl

@[simp] theorem releaseReply_outline (s : State) (id : Nat) : (releaseReply s id).state.rm.outline = s.rm.outline := by
  unfold releaseReply
  split
  · rfl
  · split_ifs
    · rfl
    · rfl
    · split <;> rfl

theorem wipeReply_recordsKept (s : State) : RecordsKept s (wipeReply s).state := by
  unfold wipeReply
  split_ifs
  · exact .refl s
  · exact .refl s
  · refine ⟨fun hs => ?_, fun hs => ?_⟩
    · exact (directoryInv_iff _).2 (((directoryInv_iff s).1 hs).sublist (List.nil_sublist _))
    · obtain ⟨hmap, hbuf⟩ := (pageMapInv_iff s).1 hs
      exact (pageMapInv_iff _).2 ⟨hmap.map fun k => by split <;> simp_all, hbuf⟩

/-! ### The engine (R127 to R130) -/

theorem startFirst_outline {s t : State} (h : startFirst s = some t) : t.rm.outline = s.rm.outline := by
  have hcare : ∀ {u}, startCare s = some u → u.rm.outline = s.rm.outline := fun {u} h => by
    unfold startCare at h
    split at h
    · cases h
    · split at h <;> cases h <;> rfl
  have hmark : ∀ {u}, startMark s = some u → u.rm.outline = s.rm.outline := fun {u} h => by
    unfold startMark at h
    split at h <;> cases h
    rfl
  have hprogram : ∀ {u}, startProgram s = some u → u.rm.outline = s.rm.outline := fun {u} h => by
    unfold startProgram at h
    split at h <;> cases h
    rfl
  have hahead : ∀ {u}, startAhead s = some u → u.rm.outline = s.rm.outline := fun {u} h => by
    unfold startAhead at h
    split at h
    · cases h
    · split at h <;> cases h
      rfl
  have hwipe : ∀ {u}, startWipe s = some u → u.rm.outline = s.rm.outline := fun {u} h => by
    unfold startWipe at h
    split at h <;> cases h
    rfl
  unfold startFirst at h
  split at h
  next u hu =>
    obtain rfl := Option.some.inj h
    split at hu
    · exact hcare hu
    · cases hu
  next =>
    split at h
    · simp only [Option.or_eq_some_iff] at h
      obtain h | ⟨-, h | ⟨-, h | ⟨-, h⟩⟩⟩ := h
      · exact hmark h
      · exact hprogram h
      · exact hahead h
      · exact hwipe h
    · cases h

@[simp] theorem engineKick_outline (s : State) : (engineKick s).rm.outline = s.rm.outline := by
  unfold engineKick
  split
  · rfl
  · cases h : startFirst s with
    | none => rfl
    | some t => exact startFirst_outline h

theorem setProgrammed_recordsKept (s : State) (page : Nat) : RecordsKept s (setProgrammed s page) := by
  have hmark : ∀ u id p, (markIfPending u id p).rm.outline = u.rm.outline := fun u id p => by
    unfold markIfPending
    split
    · rfl
    · split <;> rfl
  unfold setProgrammed
  split
  next id idx done hk =>
    have hset : RecordsKept s (setKind s page (.owned id idx true)) :=
      setKind_recordsKept (fun hs => poolPage_of_kindOf hs (by rw [hk]; simp)) (by simp)
    dsimp only
    split
    · exact hset.trans (.of_outline (hmark _ _ _))
    · exact hset
  · exact .refl s

theorem capturePageDone_recordsKept (s : State) : RecordsKept s (capturePageDone s) := by
  have hnext : pageMapInv s → inPool s.rm.cap.buf.next := fun hs => ((pageMapInv_iff s).1 hs).2.2
  unfold capturePageDone
  dsimp only
  split
  · exact .refl s
  next id _ =>
    split
    next cause _ =>
      exact (RecordsKept.trans (.of_outline (markClosed_outline s id cause)) (captureFreed_recordsKept _)).trans
        (captureTake_recordsKept _)
    next =>
      split
      next => exact (setCap_recordsKept fun hs => ⟨hnext hs, inPool_none⟩).trans (captureTake_recordsKept _)
      next t _ =>
        split
        next x _ =>
          refine .of_map ?_ rfl fun hs => ⟨((pageMapInv_iff s).1 hs).1, hnext hs, inPool_none⟩
          exact map_id_of_update s.rm.dir id (fun e => { e with lastSet := some x.stamp }) fun _ => rfl
        next =>
          exact (((returnIf_recordsKept id hnext).trans (.of_outline (markClosed_outline _ id t.cause))).trans
            (captureFreed_recordsKept _)).trans (captureTake_recordsKept _)

theorem recordProgramDone_recordsKept (s : State) (page : Nat) (bytes : List Byte) :
    RecordsKept s (recordProgramDone s page bytes) := by
  have hmem : RecordsKept s (clearFlight { s with mem := memProgram s.mem (pageBase page) bytes }) := .of_outline rfl
  exact (hmem.trans (setProgrammed_recordsKept _ page)).trans (capturePageDone_recordsKept _)

theorem poolErased_recordsKept (s : State) (page : Nat) : RecordsKept s (poolErased s page) := by
  have hmem : RecordsKept s (clearFlight { s with mem := memErase s.mem page }) := .of_outline rfl
  unfold poolErased
  dsimp only
  split
  next hk => exact hmem.trans (setKind_recordsKept (fun hs => poolPage_of_kindOf hs (by rw [hk]; simp)) (by simp))
  next => exact hmem

theorem wipeErased_recordsKept (s : State) (page : Nat) : RecordsKept s (wipeErased s page) := by
  unfold wipeErased
  dsimp only
  split
  · exact (poolErased_recordsKept s page).trans (.of_outline rfl)
  · exact poolErased_recordsKept s page

theorem careErased_outline (s : State) (page : Nat) : (careErased s page).rm.outline = s.rm.outline := by
  unfold careErased
  dsimp only
  split <;> rfl

theorem careProgramDone_outline (s : State) (page offset : Nat) (bytes : List Byte) :
    (careProgramDone s page offset bytes).rm.outline = s.rm.outline := by
  have hdone : ∀ u, (careDone u).rm.outline = u.rm.outline := fun u => by simp
  exact hdone _

theorem markDone_outline (s : State) (m : MarkReq) : (markDone s m).rm.outline = s.rm.outline :=
  dirUpdate_outline _ m.recId (fun e => { e with hold := if m.which = 0 then .held else .released }) fun _ => rfl

/-! ### The Battery Monitor and the tick -/

@[simp] theorem detectorOff_outline (s : State) : (detectorOff s).rm.outline = s.rm.outline := by
  unfold detectorOff
  dsimp only
  split
  · rw [captureTriggerEnd_outline]
  · rfl

/-- A state with the Record Memory of another. -/
theorem RecordsKept.of_rm {s t : State} (h : t.rm = s.rm) : RecordsKept s t := .of_outline (by rw [h])

theorem announceShed_recordsKept (s : State) (old : Nat) : RecordsKept s (announceShed s old) := by
  unfold announceShed
  split_ifs
  · exact RecordsKept.trans (t := detectorOff (rescheduleTick s)) (.of_outline (by simp)) (closeAtOnce_recordsKept _ _)
  · exact .of_rm (by simp)
  · exact .refl s

theorem setShed_recordsKept (s : State) (level : Nat) : RecordsKept s (setShed s level) := by
  have hset : RecordsKept s (levelSet s level) := .of_rm rfl
  rw [setShed_eq, ← snapshotDue_eq_dueSnapshot]
  exact (hset.trans (announceShed_recordsKept _ s.bat.shed)).trans (.of_rm (by simp))

theorem evaluateShed_recordsKept (s : State) : RecordsKept s (evaluateShed s) := by
  unfold evaluateShed exitRule
  dsimp only
  split_ifs
  · exact setShed_recordsKept s _
  · exact .refl s
  · exact setShed_recordsKept s _
  · exact .of_rm rfl

theorem batteryVoltage_recordsKept (s : State) : RecordsKept s (batteryVoltage s) := by
  unfold batteryVoltage
  have hanchors : RecordsKept s (emptyAnchor (fullAnchor s)) := .of_rm (by simp)
  exact (hanchors.trans (evaluateShed_recordsKept _)).trans (.of_rm (by simp))

theorem batteryCurrent_recordsKept (s : State) (n : ArrayTime) (current : Int) :
    RecordsKept s (batteryCurrent s n current) := by
  unfold batteryCurrent
  have hcount : RecordsKept s (fullAnchor (countCharge s n current)) := .of_rm (by simp)
  exact hcount.trans (evaluateShed_recordsKept _)

theorem hkReaders_recordsKept (s : State) (i : HkInput) (n : ArrayTime) (r : Option Int) :
    RecordsKept s (hkReaders s i n r) := by
  cases i with
  | batVolt => exact batteryVoltage_recordsKept s
  | batCurr => exact batteryCurrent_recordsKept s n _
  | batTemp | encTemp | heatCurr | srcVolt => exact .of_rm (by simp [hkReaders])

theorem handPick_recordsKept (s : State) (k : StationPick) : RecordsKept s (handPick s k) := by
  refine (capturePick_recordsKept s k.onset).trans (.of_outline ?_)
  unfold handPick pickLocal
  simp

theorem voteMet_recordsKept (s : State) (guard : Bool) : RecordsKept s (voteMet s guard) := by
  have hspent : ∀ k, RecordsKept s (spendPick s k) := fun k => .of_rm (by simp)
  unfold voteMet
  split
  · exact .of_rm rfl
  · split
    · exact .refl s
    · split
      · exact .of_rm rfl
      · exact (hspent _).trans (handPick_recordsKept _ _)

theorem detectSet_recordsKept (s : State) (x : SampleSet) : RecordsKept s (detectSet s x) := by
  have hformed : RecordsKept s (formTrigger (stepChannels s x) x) := .of_rm (by simp)
  unfold detectSet
  generalize formTrigger (stepChannels s x) x = u at hformed
  dsimp only
  split
  · exact hformed.trans (voteMet_recordsKept _ _)
  · split
    · exact hformed.trans (.of_outline (captureTriggerEnd_outline _ _))
    · exact hformed

theorem ringEnter_recordsKept (s : State) (x : SampleSet) : RecordsKept s (ringEnter s x) := by
  unfold ringEnter
  dsimp only
  split
  · exact .of_rm rfl
  · exact (announceDisplaced_recordsKept s _).trans (.of_rm rfl)

theorem seismicWork_recordsKept (s : State) (inp : TickInput) (n : ArrayTime) : RecordsKept s (seismicWork s inp n) := by
  unfold seismicWork
  dsimp only
  refine RecordsKept.trans (RecordsKept.trans (RecordsKept.trans ?_ (ringEnter_recordsKept _ _)) (captureTake_recordsKept _))
    ((detectSet_recordsKept _ _).trans (.of_outline (engineKick_outline _)))
  exact .of_rm rfl

theorem tickWork_recordsKept (s : State) (inp : TickInput) (n : ArrayTime) : RecordsKept s (tickWork s inp n) := by
  have hsweeps : RecordsKept s (tickSweeps (issueTick s n)) := .of_outline (by simp [tickSweeps])
  have hreaders : ∀ u i r, RecordsKept u (engineKick (hkReaders u i n r)) := fun u i r =>
    (hkReaders_recordsKept u i n r).trans (.of_outline (engineKick_outline _))
  unfold tickWork
  refine hsweeps.trans ?_
  generalize tickSweeps (issueTick s n) = u
  unfold samplerWork
  dsimp only
  split
  · refine RecordsKept.trans (RecordsKept.trans ?_ (seismicWork_recordsKept _ inp n)) (hreaders _ _ _)
    exact .of_rm rfl
  · refine RecordsKept.trans ?_ (hreaders _ _ _)
    exact .of_rm rfl

/-! ### The start-up scan (R146 to R148) -/

theorem mem_insertId (n x : Nat) (ids : List Nat) : x ∈ insertId n ids ↔ x = n ∨ x ∈ ids := by
  induction ids with
  | nil => simp [insertId]
  | cons y rest ih =>
    unfold insertId
    split_ifs with h1 h2
    · simp
    · subst h2
      simp
    · simp only [List.mem_cons, ih]
      tauto

theorem insertId_order {n : Nat} {ids : List Nat} (h : ids.Pairwise (fun a b => a < b)) :
    (insertId n ids).Pairwise (fun a b => a < b) := by
  induction ids with
  | nil => exact List.pairwise_singleton _ _
  | cons y rest ih =>
    obtain ⟨hy, hrest⟩ := List.pairwise_cons.1 h
    unfold insertId
    split_ifs with h1 h2
    · refine List.pairwise_cons.2 ⟨fun z hz => ?_, h⟩
      rcases List.mem_cons.1 hz with rfl | hz
      · exact h1
      · exact h1.trans (hy z hz)
    · exact h
    · refine List.pairwise_cons.2 ⟨fun z hz => ?_, ih hrest⟩
      rcases (mem_insertId n z rest).1 hz with rfl | hz
      · omega
      · exact hy z hz

/-- The identifiers of the valid pages ascend, each once (R147). -/
theorem recordIds_order (hs : List PageHeader) : (recordIds hs).Pairwise (fun a b => a < b) := by
  induction hs with
  | nil => exact .nil
  | cons h rest ih => exact insertId_order ih

theorem mem_recordIds (hs : List PageHeader) (n : Nat) : n ∈ recordIds hs ↔ ∃ h ∈ hs, h.id = n := by
  induction hs with
  | nil => simp [recordIds]
  | cons h rest ih =>
    rw [show recordIds (h :: rest) = insertId h.id (recordIds rest) from rfl, mem_insertId, ih]
    simp [eq_comm]

theorem rebuildRecord_id {torn : List Nat} {hs : List PageHeader} {id : Nat} {r : DirEntry × List PageHeader}
    (h : rebuildRecord torn hs id = some r) : r.1.id = id := by
  unfold rebuildRecord at h
  dsimp only at h
  split at h
  · obtain rfl := Option.some.inj h
    rfl
  · cases h

/-- A list of which each answer names what it answers for. -/
theorem filterMap_names {α : Type} (f : Nat → Option α) (name : α → Nat) (hf : ∀ n r, f n = some r → name r = n)
    (ns : List Nat) : ((ns.filterMap f).map name).Sublist ns := by
  induction ns with
  | nil => exact List.Sublist.refl _
  | cons n rest ih =>
    cases h : f n with
    | none =>
      rw [List.filterMap_cons_none h]
      exact ih.cons n
    | some r =>
      rw [List.filterMap_cons_some h, List.map_cons, hf n r h]
      exact ih.cons_cons n

/-- The rebuilt records stand in ascending order of identifier (R147, R148). -/
theorem rebuiltRecords_ids (torn : List Nat) (hs : List PageHeader) :
    ((rebuiltRecords torn hs).map (fun r : DirEntry × List PageHeader => r.1.id)).Sublist (recordIds hs) := by
  unfold rebuiltRecords
  dsimp only
  exact ((List.drop_sublist _ _).map _).trans
    (filterMap_names _ (fun r : DirEntry × List PageHeader => r.1.id) (fun _ _ => rebuildRecord_id) _)

theorem rebuiltRecords_length (torn : List Nat) (hs : List PageHeader) : (rebuiltRecords torn hs).length ≤ 64 := by
  unfold rebuiltRecords
  dsimp only
  rw [List.length_drop]
  omega

theorem scannedKind_care (cs : List (Nat × PageClass)) (owned : List PageHeader) (p : Nat) :
    scannedKind cs owned p = .care ↔ isCarePage p = true := by
  unfold scannedKind
  split
  next h => simp [h]
  next h =>
    split
    · simp [h]
    · split <;> simp [h]

/-- The headers that the scan keeps: of several valid pages with one identifier and index, that of the lowest page (R147). -/
def keptHeaders (m : Memory) : List PageHeader := dropDoubles [] (validHeaders (scanAll m))

/-- The records that the scan rebuilds and keeps, with their runs (R147, R148). -/
def scanRecords (m : Memory) : List (DirEntry × List PageHeader) := rebuiltRecords (tornPages (scanAll m)) (keptHeaders m)

/-- The headers of the pages that the kept records own (R148). -/
def ownedHeaders (m : Memory) : List PageHeader := (scanRecords m).flatMap Prod.snd

/-- The identifier past those of the kept records (R148). -/
def idPast (m : Memory) : Nat :=
  (scanRecords m).foldl (fun n (r : DirEntry × List PageHeader) => max n (r.1.id + 1)) 0

/-- What the scan makes of the Record Memory, before its look at the next free page (R146 to R148). -/
def scanned (s : State) : State :=
  { s with rm := { s.rm with
      map := (List.range pageCount).map (scannedKind (scanAll s.mem) (ownedHeaders s.mem))
      dir := (scanRecords s.mem).map Prod.fst
      nextId := min 4294967295 (max s.bat.restoredNextId (idPast s.mem))
      allocPtr := scannedPointer (ownedHeaders s.mem)
      torn := bumpBy ((tornPages (scanAll s.mem)).length +
        ((validHeaders (scanAll s.mem)).length - (keptHeaders s.mem).length)) s.rm.torn
      dropped := bumpBy ((keptHeaders s.mem).length - (ownedHeaders s.mem).length) s.rm.dropped } }

theorem scanMemory_eq (s : State) : scanMemory s = lookAhead (scanned s) := rfl

/-- The identifiers of the scanned directory ascend, and the next one lies past them (R126, R148). -/
theorem scanned_ids (s : State) : IdsOrdered ((scanned s).rm.dir.map DirEntry.id) (scanned s).rm.nextId := by
  have hids : (scanned s).rm.dir.map DirEntry.id =
      (scanRecords s.mem).map (fun r : DirEntry × List PageHeader => r.1.id) := by
    unfold scanned
    rw [List.map_map]
    rfl
  obtain ⟨-, hpast, -⟩ := foldl_max_spec (fun r : DirEntry × List PageHeader => r.1.id + 1) (scanRecords s.mem) 0
  rw [hids]
  refine ⟨(List.length_map _).trans_le (rebuiltRecords_length _ _), (recordIds_order _).sublist (rebuiltRecords_ids _ _),
    min_le_left _ _, ?_⟩
  rcases Nat.le_total 4294967295 (max s.bat.restoredNextId (idPast s.mem)) with hcap | hcap
  · exact .inl (min_eq_left hcap)
  · refine .inr fun n hn => ?_
    obtain ⟨r, hr, rfl⟩ := List.mem_map.1 hn
    exact lt_of_lt_of_le (hpast r hr) ((le_max_right _ _).trans (min_eq_right hcap).ge)

/-- The scanned page map has its 512 entries, of which exactly the care pages are CARE (R123). -/
theorem scanned_map (s : State) : MapOrdered (scanned s).rm.map := by
  refine ⟨by simp [scanned, pageCount], fun p hp => ?_⟩
  rw [← scannedKind_care (scanAll s.mem) (ownedHeaders s.mem)]
  simp [scanned, pageCount, List.getD_eq_getElem?_getD, List.getElem?_range hp]

theorem scanMemory_recordsKept (s : State) : RecordsKept s (scanMemory s) := by
  rw [scanMemory_eq]
  refine RecordsKept.trans (t := scanned s) ⟨fun _ => (directoryInv_iff _).2 (scanned_ids s), fun hs => ?_⟩
    (.of_outline (lookAhead_outline _))
  obtain ⟨-, hbuf⟩ := (pageMapInv_iff s).1 hs
  exact (pageMapInv_iff _).2 ⟨scanned_map s, hbuf⟩

/-! ### Every command -/

theorem startState_recordsKept (s : State) : RecordsKept s (startState s) := by
  obtain ⟨-, -, -, -, -, -, -, hdir, hmap, -⟩ := Proofs.resetMeetsInvariants
  exact ⟨fun _ => hdir, fun _ => hmap⟩

theorem stopPart_recordsKept (s : State) (a : Bool) : RecordsKept s (stopPart s a) :=
  .of_map rfl rfl fun hs => ⟨((pageMapInv_iff s).1 hs).1, inPool_none, inPool_none⟩

theorem latchClearWork_recordsKept (s : State) : RecordsKept s (latchClearWork s) := by
  have hcounters : ∀ u, (clearMoreCounters u).rm.outline = u.rm.outline := fun _ => rfl
  have hlatches : (clearCounters (clearLatches s)).rm = s.rm := by simp
  unfold latchClearWork
  exact .of_outline (by rw [hcounters, hlatches])

/-- A heard frame keeps the records in order where its work does. -/
theorem takeFrame_recordsKept (s : State) (kind sender : Nat) (work : State → State)
    (h : ∀ u : State, RecordsKept u (work u)) :
    RecordsKept s (takeFrame s kind sender work) := by
  have hscreen : RecordsKept s (screenFrame (endFrame s) kind sender) := .of_rm (by simp)
  rcases takeFrame_cases s kind sender work with hc | hc | hc <;> rw [hc]
  · exact .refl s
  · exact hscreen
  · exact hscreen.trans (h _)

/-- A query keeps the records in order where its work does. -/
theorem takeQuery_recordsKept (s : State) (q : QueryHeader) (code : Nat) (work : State → Reply)
    (h : ∀ u : State, RecordsKept u (work u).state) :
    RecordsKept s (takeQuery s q (fun u => carryOut u q code work)) := by
  unfold takeQuery
  refine takeFrame_recordsKept s _ _ _ fun u => ?_
  split
  · refine RecordsKept.trans ?_ (.of_outline (engineKick_outline _))
    unfold carryOut
    dsimp only
    split
    · exact .of_rm (by simp)
    · exact (h u).trans (.of_rm (by simp))
  · exact .refl u

/-- Every command keeps the directory and the page map in order (R123, R126). -/
theorem Effect.recordsKept {s t : State} (h : Effect s t) : RecordsKept s t := by
  cases h with
  | start => exact startState_recordsKept s
  | brownOut a => exact stopPart_recordsKept s a
  | startUpScan =>
    refine (scanMemory_recordsKept s).trans (.of_rm ?_)
    dsimp only
  | sampleTick inp n => exact tickWork_recordsKept s inp n
  | captureMove => exact (captureStep_recordsKept s).trans (.of_outline (engineKick_outline _))
  | shedExit => exact (setShed_recordsKept s _).trans (.of_outline (engineKick_outline _))
  | pickFrameReceived sender p => exact takeFrame_recordsKept s _ _ _ fun u => .of_outline (by simp)
  | alertFrameReceived sender a => exact takeFrame_recordsKept s _ _ _ fun u => .of_outline (by simp)
  | readingQuery q code work hw => exact takeQuery_recordsKept s q code work fun u => .of_rm (by rw [hw])
  | badRequest q code => 
    unfold takeQuery
    exact takeFrame_recordsKept s _ _ _ fun u => .of_outline (by split <;> simp)
  | release q id => exact takeQuery_recordsKept s q 6 _ fun u => .of_outline (by simp)
  | wipe q => exact takeQuery_recordsKept s q 7 _ wipeReply_recordsKept
  | setSeconds q n => exact takeQuery_recordsKept s q 8 _ fun u => .of_outline (by simp)
  | latchClear q => exact takeQuery_recordsKept s q 9 _ latchClearWork_recordsKept
  | restart q => exact takeQuery_recordsKept s q 10 _ fun u => .of_rm (by simp)
  | careErased p => exact .of_outline (by simp [careErased_outline])
  | aheadErased p =>
    exact (((poolErased_recordsKept s p).trans (.of_outline (lookAhead_outline _))).trans (captureTake_recordsKept _)).trans
      (.of_outline (engineKick_outline _))
  | wipeErased p => exact (wipeErased_recordsKept s p).trans (.of_outline (engineKick_outline _))
  | captureProgramComplete p bytes =>
    exact (recordProgramDone_recordsKept s p bytes).trans (.of_outline (engineKick_outline _))
  | careSnapshotComplete p offset bytes => exact .of_outline (by simp [careProgramDone_outline])
  | markComplete m => exact .of_outline (by simp [markDone_outline])
  | _ => exact .of_outline (by simp)

/-! ### The bytes (R127, R149) -/

theorem brownOutMem_wf {s : State} (h : Memory.wf s.mem) (a : Bool) : Memory.wf (brownOutMem s a) := by
  unfold brownOutMem
  split
  · exact h
  · split
    · exact completeFlight_wf h _
    · exact cutFlight_wf h _ _

theorem poolErased_mem (s : State) (p : Nat) : (poolErased s p).mem = memErase s.mem p := by
  unfold poolErased
  dsimp only
  split <;> rfl

theorem wipeErased_mem (s : State) (p : Nat) : (wipeErased s p).mem = memErase s.mem p := by
  unfold wipeErased
  dsimp only
  split <;> exact poolErased_mem s p

theorem careErased_mem (s : State) (p : Nat) : (careErased s p).mem = memErase s.mem p := by
  unfold careErased
  dsimp only
  split <;> rfl

theorem recordProgramDone_mem (s : State) (p : Nat) (bytes : List Byte) :
    (recordProgramDone s p bytes).mem = memProgram s.mem (pageBase p) bytes := by
  simp [recordProgramDone]

theorem careProgramDone_mem (s : State) (p offset : Nat) (bytes : List Byte) :
    (careProgramDone s p offset bytes).mem = memProgram s.mem (pageBase p + offset) bytes := by
  simp [careProgramDone]

theorem markDone_mem (s : State) (m : MarkReq) : (markDone s m).mem = memProgram s.mem (markAddress m) [0] := rfl

/-- Every command keeps the canonical form of the record memory: the completions and a brown-out alone write to it. -/
theorem Effect.memoryInv {s t : State} (h : Effect s t) (hs : memoryInv s) : memoryInv t := by
  unfold Sys2Proof.memoryInv at *
  cases h with
  | brownOut a => exact brownOutMem_wf hs a
  | readingQuery q code work hw => simpa [hw] using hs
  | careErased p => simpa [careErased_mem] using memErase_wf hs p
  | aheadErased p => simpa [poolErased_mem] using memErase_wf hs p
  | wipeErased p => simpa [wipeErased_mem] using memErase_wf hs p
  | captureProgramComplete p bytes => simpa [recordProgramDone_mem] using memProgram_wf hs _ bytes
  | careSnapshotComplete p offset bytes => simpa [careProgramDone_mem] using memProgram_wf hs _ bytes
  | markComplete m => simpa [markDone_mem] using memProgram_wf hs _ [0]
  | _ => simpa using hs

end Sys2Proof.Machine

namespace Sys2Proof.Proofs

open Sys2Proof.Machine

/-- Settles O8: each command's work keeps the bytes canonical, and the directory and the page map in order. -/
theorem memoryAndRecordsStayOrdered : Obligations.MemoryAndRecordsStayOrdered := by
  have kept : ∀ s t : State, step s = .next t → RecordsKept s t ∧ (memoryInv s → memoryInv t) := by
    intro s t h
    rcases step_effect h with rfl | ⟨rest, he⟩
    · exact ⟨.refl t, id⟩
    · exact ⟨RecordsKept.trans (t := { s with pending := rest }) (.of_rm rfl) he.recordsKept, he.memoryInv⟩
  exact ⟨fun s t hs h => (kept s t h).2 hs, fun s t hs h => (kept s t h).1.dir hs, fun s t hs h => (kept s t h).1.map hs⟩

end Sys2Proof.Proofs
/-! SUPPORT. The engine's choice (R128 to R130, R160): the requests of each class, and the first that is eligible. -/

namespace Sys2Proof.Machine

/-- The engine chooses while the part works (R149, R215). -/
theorem engineRuns_eq_awake (s : State) : s.phase.engineRuns = s.awake := by
  unfold State.awake
  cases s.phase <;> rfl

theorem engineKick_stopped {s : State} (h : s.awake = false) : engineKick s = s := by
  unfold engineKick
  rw [engineRuns_eq_awake, h]
  simp

theorem engineKick_busy {s : State} (h : s.rm.flight ≠ none) : engineKick s = s := by
  unfold engineKick
  rw [Option.isSome_iff_ne_none.2 h]
  rfl

theorem engineKick_idle {s : State} (ha : s.awake = true) (hf : s.rm.flight = none) :
    engineKick s = (startFirst s).getD s := by
  unfold engineKick
  rw [engineRuns_eq_awake, ha, hf]
  rfl

theorem exec_engineOperationStart {s : State} (h : s.awake = true) :
    exec .engineOperationStart s = .next (engineKick s) := by
  unfold exec execEngineOperationStart doWhen
  rw [if_pos h]

/-! ### The classes (R128) -/

/-- A care snapshot is started as soon as one waits (class 1; R130). -/
theorem startCare_placed {s : State} {r : PlacedCare} (h : s.bat.placed = some r) :
    (r.stage = .needErase → startCare s = some
      { startedOp s (.careErase r.page) with bat := { s.bat with placed := some { r with stage := .erasing } } }) ∧
    (r.stage = .needProgram → startCare s = some
      { startedOp s (.careProgram r.page r.offset r.bytes) with
        bat := { s.bat with placed := some { r with stage := .programming } } }) := by
  unfold startCare
  constructor <;> intro hr <;> simp only [h, hr] <;> rfl

theorem startCare_none {s : State} (h : ¬careWaits s) : startCare s = none := by
  cases hp : s.bat.placed with
  | none => simp only [startCare, hp]
  | some r =>
    cases hr : r.stage with
    | needErase => exact absurd ⟨r, hp, .inl hr⟩ h
    | needProgram => exact absurd ⟨r, hp, .inr hr⟩ h
    | erasing | programming => simp only [startCare, hp, hr]

theorem careWaits_startCare {s : State} (h : careWaits s) : (startCare s).isSome = true := by
  obtain ⟨r, hp, hr | hr⟩ := h
  · rw [(startCare_placed hp).1 hr]
    rfl
  · rw [(startCare_placed hp).2 hr]
    rfl

/-- A request that does not wait for write permission alone: what of it the engine may start (R160). -/
theorem startFirst_absent {s : State} (h : s.bat.permission = .absent) : startFirst s = none := by
  simp [startFirst, State.careAllowed, State.writeAllowed, h]

theorem startFirst_care {s u : State} (hp : s.bat.permission ≠ .absent) (h : startCare s = some u) :
    startFirst s = some u := by
  simp [startFirst, State.careAllowed, hp, h]

theorem startFirst_careOnly {s : State} (hp : s.bat.permission = .careOnly) (h : ¬careWaits s) : startFirst s = none := by
  simp [startFirst, State.careAllowed, State.writeAllowed, hp, startCare_none h]

theorem startFirst_full {s : State} (hp : s.bat.permission = .full) (h : ¬careWaits s) :
    startFirst s = ((startMark s).or <| (startProgram s).or <| (startAhead s).or (startWipe s)) := by
  simp [startFirst, State.careAllowed, State.writeAllowed, hp, startCare_none h]

theorem startMark_nil {s : State} (h : s.rm.marks = []) : startMark s = none := by
  simp only [startMark, h]

theorem startProgram_none {s : State} (h : s.rm.programReq = false) : startProgram s = none := by
  simp only [startProgram, h]

/-- No erase-ahead whose page is still FREE-DIRTY waits (R128). -/
theorem startAhead_none {s : State} (h : ∀ p, s.rm.eraseAhead = some p → s.kindOf p ≠ .freeDirty) :
    startAhead s = none := by
  unfold startAhead
  split
  · rfl
  next p hp => exact if_neg (h p hp)

end Sys2Proof.Machine

namespace Sys2Proof.Proofs

open Sys2Proof.Machine

/-- Settles O52, class by class. -/
theorem engineStartsByClass : Obligations.EngineStartsByClass := by
  refine ⟨fun s => ⟨exec_engineOperationStart, engineKick_stopped⟩, fun s ha => ⟨fun hf => ?_, fun hf => ?_⟩⟩
  · rw [exec_engineOperationStart ha, engineKick_busy hf]
  · have hchoice : ∀ o, startFirst s = o → exec .engineOperationStart s = .next (o.getD s) := fun o ho => by
      rw [exec_engineOperationStart ha, engineKick_idle ha hf, ho]
    refine ⟨fun hp => hchoice none (startFirst_absent hp), fun hp hc => hchoice none (startFirst_careOnly hp hc),
      fun r hp hr => ⟨fun hs => hchoice (some _) (startFirst_care hp ((startCare_placed hr).1 hs)),
        fun hs => hchoice (some _) (startFirst_care hp ((startCare_placed hr).2 hs))⟩,
      fun hp hc => ⟨fun m rest hm => hchoice (some _) ?_, fun hm => ⟨fun id p hreq hid hpage => hchoice (some _) ?_,
        fun hreq => ⟨fun p hahead hk => hchoice (some _) ?_, fun hahead =>
          ⟨fun p rest hw => hchoice (some _) ?_, fun hw => hchoice none ?_⟩⟩⟩⟩⟩
    all_goals rw [startFirst_full hp hc]
    · simp only [startMark, hm, Option.some_or]
    · simp only [startMark_nil hm, startProgram, hreq, hid, hpage, Option.none_or, Option.some_or]
    · simp only [startMark_nil hm, startProgram_none hreq, startAhead, hahead, if_pos hk, Option.none_or, Option.some_or]
    · simp only [startMark_nil hm, startProgram_none hreq, startAhead_none hahead, startWipe, hw, Option.none_or]
    · simp only [startMark_nil hm, startProgram_none hreq, startAhead_none hahead, startWipe, hw, Option.none_or]

end Sys2Proof.Proofs
/-! SUPPORT. The completions of the engine's operations (R127, R139, R142, R166): what each requester does. -/

namespace Sys2Proof.Machine

theorem completeOn_page {p : Nat} (hp : p < 512) (s : State) : completeOn p s = .next (engineKick s) :=
  if_neg (Nat.not_le.2 hp)

theorem opDone_eq (s : State) (m : Memory) : clearFlight { s with mem := m } = opDone s m := rfl

/-- A command's result follows its state before the engine's choice (log entry 13). -/
theorem kicked_congr {t u : State} (h : t = u) : (.next (engineKick t) : Result) = .next (engineKick u) := by rw [h]

/-- A pool page erased: the page map after it (R123). -/
theorem poolErased_eq (s : State) (p : Nat) : poolErased s p = { opDone s (memErase s.mem p) with rm :=
    { (opDone s (memErase s.mem p)).rm with
      map := if s.kindOf p = .freeDirty then s.rm.map.set p .freeErased else s.rm.map } } := by
  unfold poolErased
  rw [opDone_eq]
  dsimp only
  change (if s.kindOf p = .freeDirty then _ else _) = _
  split <;> rfl

/-- A wipe's ERASE complete: the wipe ends with its last page (R145). -/
theorem wipeErased_eq (s : State) (p : Nat) : wipeErased s p = { opDone s (memErase s.mem p) with rm :=
    { (opDone s (memErase s.mem p)).rm with
      map := if s.kindOf p = .freeDirty then s.rm.map.set p .freeErased else s.rm.map
      wiping := s.rm.wiping && !s.rm.wipeList.isEmpty } } := by
  unfold wipeErased
  rw [poolErased_eq]
  by_cases h : s.rm.wipeList = [] <;> simp [opDone, h]

theorem careErased_eq {s : State} {r : PlacedCare} (h : s.bat.placed = some r) (p : Nat) : careErased s p =
    { opDone s (memErase s.mem p) with bat := { s.bat with placed := some { r with stage := .needProgram } } } := by
  simp only [careErased, opDone_eq, opDone, h]

theorem markAddress_eq (m : MarkReq) : markAddress m = m.page * 2048 + 20 + m.which := rfl

/-- A MARK complete: the record is HELD or RELEASED (R142, R143). -/
theorem markDone_eq (s : State) (m : MarkReq) : markDone s m =
    { opDone s (memProgram s.mem (m.page * 2048 + 20 + m.which) [0]) with rm :=
      { (opDone s (memProgram s.mem (m.page * 2048 + 20 + m.which) [0])).rm with
        dir := s.rm.dir.map (fun e =>
          if e.id = m.recId then { e with hold := if m.which = 0 then .held else .released } else e) } } :=
  dirUpdate_eq _ _ _

/-- A care snapshot complete (R165, R166): the restart after a RESTART snapshot, or else the snapshot that is owed. -/
theorem careDone_eq {s : State} {r : PlacedCare} (h : s.bat.placed = some r) (u : State)
    (hu : u = { s with bat := { s.bat with
      written := min (s.bat.written + 1) 65535, lastDone := some (r.seq, r.cause), placed := none } }) :
    careDone s = if r.cause = .restart then { u with phase := .restarting, bat := { u.bat with owed := none } }
      else match s.bat.owed with
        | none => u
        | some cause => formedSnapshot { u with bat := { u.bat with owed := none } } cause := by
  subst hu
  simp only [careDone, h, formOwed, bump, formSnapshot_eq]
  cases s.bat.owed <;> rfl

/-- The engine makes no choice after the RESTART snapshot (R166; log entry 38). -/
theorem engineKick_restarting {s : State} (h : s.phase = .restarting) : engineKick s = s := by
  simp [engineKick, h, Phase.engineRuns]

/-- A record page programmed: a HOLD-PENDING record's first page asks for its MARK (R142). -/
theorem setProgrammed_eq {s : State} {p id idx : Nat} {done : Bool} (h : s.kindOf p = .owned id idx done) :
    setProgrammed s p = { s with rm := { s.rm with
      map := s.rm.map.set p (.owned id idx true)
      marks := s.rm.marks ++
        (if idx = 0 ∧ (s.rm.dir.find? (fun e => e.id == id)).any (fun e => e.hold == .pending) = true
          then [⟨id, p, 0⟩] else []) } } := by
  unfold setProgrammed
  rw [h]
  by_cases hi : idx = 0
  · simp only [hi, if_true, true_and, markIfPending, dirFind, setKind]
    cases s.rm.dir.find? (fun e => e.id == id) with
    | none => simp
    | some e => by_cases he : e.hold = .pending <;> simp [he]
  · simp [hi, setKind]

/-! ### The capture after a page's PROGRAM (R134, R139) -/

/-- A committed page is in memory: the capture goes on with the page allocated ahead (R134). -/
theorem capturePageDone_goesOn {s : State} {id : Nat} (hid : s.rm.cap.recId = some id) (hf : s.rm.cap.buf.final = none)
    (ht : s.rm.cap.buf.tail = none) : capturePageDone s = captureTake { s with rm := { s.rm with cap := { s.rm.cap with
      buf := { PageBuffer.empty with page := s.rm.cap.buf.next, idx := s.rm.cap.buf.idx + 1 } } } } := by
  simp only [capturePageDone, hid, hf, ht, setCap]

/-- The final page is in memory: the record is CLOSED (R139). -/
theorem capturePageDone_final {s : State} {id : Nat} {cause : EndCause} (hid : s.rm.cap.recId = some id)
    (hf : s.rm.cap.buf.final = some cause) : capturePageDone s = captureTake { s with rm := { s.rm with
      dir := s.rm.dir.map (fun e => if e.id = id then { e with closed := true, endCause := some cause } else e)
      cap := freedCapture s.rm.cap } } := by
  simp only [capturePageDone, hid, hf, markClosed_freed]

/-- A close was decided during the PROGRAM, and the set that brought it is still in the ring (R139, third case). -/
theorem capturePageDone_tail {s : State} {id : Nat} {tail : TailSet} {x : SampleSet} (hid : s.rm.cap.recId = some id)
    (hf : s.rm.cap.buf.final = none) (ht : s.rm.cap.buf.tail = some tail) (hx : ringRead s.sampler tail.num = some x) :
    capturePageDone s = { s with rm := { s.rm with
      dir := s.rm.dir.map (fun e => if e.id = id then { e with lastSet := some x.stamp } else e)
      pendingStep := false, programReq := true
      cap := { s.rm.cap with buf := { PageBuffer.empty with
        page := s.rm.cap.buf.next, idx := s.rm.cap.buf.idx + 1, sets := [x], grade := s.tb.grade
        stepped := s.rm.pendingStep || x.words.z.stepped, final := some tail.cause, busy := true } } } } := by
  simp only [capturePageDone, hid, hf, ht, hx, tailPage, dirUpdate_eq]
  rfl

/-- A close was decided during the PROGRAM, and its set is gone: the page allocated ahead is given back (R139). -/
theorem capturePageDone_returned {s : State} {id p : Nat} {tail : TailSet} (hid : s.rm.cap.recId = some id)
    (hf : s.rm.cap.buf.final = none) (ht : s.rm.cap.buf.tail = some tail) (hx : ringRead s.sampler tail.num = none)
    (hp : s.rm.cap.buf.next = some p) : capturePageDone s = captureTake { s with rm := { s.rm with
      map := s.rm.map.set p .freeDirty
      dir := s.rm.dir.map (fun e => if e.id = id
        then { e with pages := e.pages - 1, closed := true, endCause := some tail.cause } else e)
      cap := freedCapture s.rm.cap } } := by
  have hdir : ∀ dir : List DirEntry, (dir.map (fun e => if e.id = id then { e with pages := e.pages - 1 } else e)).map
      (fun e => if e.id = id then { e with closed := true, endCause := some tail.cause } else e) =
      dir.map (fun e => if e.id = id
        then { e with pages := e.pages - 1, closed := true, endCause := some tail.cause } else e) := fun dir => by
    rw [List.map_map]
    refine List.map_congr_left fun e _ => ?_
    by_cases he : e.id = id <;> simp [he]
  simp only [capturePageDone, hid, hf, ht, hx, markClosed_freed, returnIf_eq, givenBack, hp, hdir]

end Sys2Proof.Machine

namespace Sys2Proof.Proofs

open Sys2Proof.Machine

/-- Settles O53, operation by operation. -/
theorem operationsComplete : Obligations.OperationsComplete := by
  rintro s p erased hp rfl
  refine ⟨?_, ?_, ?_, ?_, ?_, ?_⟩
  · rintro hf u rfl
    simp only [exec, execEraseComplete, hf, completeOn_page hp, poolErased_eq]
  · rintro hf u rfl
    simp only [exec, execEraseComplete, hf, completeOn_page hp, wipeErased_eq]
  · intro r hf hr
    simp only [exec, execEraseComplete, hf, completeOn_page hp, careErased_eq hr]
  · rintro m hf rfl u rfl
    simp only [exec, execMarkComplete, hf, completeOn_page hp, markDone_eq]
  · rintro off bytes r hf hr u rfl
    have hdone := careDone_eq (s := opDone s (memProgram s.mem (p * 2048 + off) bytes)) hr _ rfl
    have hexec : exec .careSnapshotComplete s =
        .next (engineKick (careDone (opDone s (memProgram s.mem (p * 2048 + off) bytes)))) := by
      simp only [exec, execCareSnapshotComplete, hf, completeOn_page hp]
      rfl
    refine ⟨fun hc => ?_, fun hc => ⟨fun ho => ?_, fun cause ho => ?_⟩⟩
    · rw [hexec, hdone, if_pos hc, engineKick_restarting rfl]
      rfl
    · rw [hexec, hdone, if_neg hc, show (opDone s _).bat.owed = none from ho]
      rfl
    · rw [hexec, hdone, if_neg hc, show (opDone s _).bat.owed = some cause from ho]
      rfl
  · rintro bytes rid id idx done hf hk hid u v rfl rfl
    have hexec : exec .captureProgramComplete s = .next (engineKick (capturePageDone
        (setProgrammed (opDone s (memProgram s.mem (p * 2048) bytes)) p))) := by
      simp only [exec, execCaptureProgramComplete, hf, completeOn_page hp]
      rfl
    rw [hexec, setProgrammed_eq (s := opDone s _) hk]
    refine ⟨fun hn ht => kicked_congr (capturePageDone_goesOn hid hn ht), fun freed hfreed => ?_⟩
    subst hfreed
    exact ⟨fun cause hn => kicked_congr (capturePageDone_final hid hn), fun tail hn ht =>
      ⟨fun x hx => kicked_congr (capturePageDone_tail hid hn ht hx), fun hx p' hp' =>
        kicked_congr (capturePageDone_returned hid hn ht hx hp')⟩⟩

end Sys2Proof.Proofs
/-! SUPPORT. The capture's next move (R134), the look at the next free page, and the allocation of pages (R135, R136). -/

namespace Sys2Proof.Machine

/-! ### The look at the next free page (R135) -/

theorem eraseAsked_iff {s : State} (h : s.rm.eraseAhead = none) (p : Nat) : eraseAsked s p = false ↔
    p ∉ s.rm.wipeList ∧ s.rm.flight ≠ some (.aheadErase p) ∧ s.rm.flight ≠ some (.wipeErase p) := by
  unfold eraseAsked
  rw [h]
  cases s.rm.flight with
  | none => simp
  | some o => cases o <;> simp

theorem lookAhead_none {s : State} (h : ∀ p, ¬nextFreePage s p) : lookAhead s = s := by
  unfold lookAhead
  simp only [(nextFree_eq_none_iff s).2 h]

theorem lookAhead_asked {s : State} (h : s.rm.eraseAhead.isSome = true) : lookAhead s = s := by
  have hn : s.rm.eraseAhead.isNone = false := by rw [← Option.not_isSome, h]; rfl
  unfold lookAhead
  split
  · rfl
  · exact if_neg (by simp [hn])

theorem lookAhead_next {s : State} {p : Nat} (hp : nextFreePage s p) (h : s.rm.eraseAhead = none) :
    lookAhead s = { s with rm := { s.rm with eraseAhead :=
      (if s.kindOf p = .freeDirty ∧ p ∉ s.rm.wipeList ∧ s.rm.flight ≠ some (.aheadErase p) ∧
        s.rm.flight ≠ some (.wipeErase p) then some p else none) } } := by
  have hif : (s.kindOf p = .freeDirty && s.rm.eraseAhead.isNone && !eraseAsked s p) = true ↔
      s.kindOf p = .freeDirty ∧ p ∉ s.rm.wipeList ∧ s.rm.flight ≠ some (.aheadErase p) ∧
        s.rm.flight ≠ some (.wipeErase p) := by
    rw [← eraseAsked_iff h]
    simp [h]
  unfold lookAhead
  simp only [(nextFree_eq_some_iff s p).2 hp, hif]
  split
  · rfl
  · rw [← h]

@[simp] theorem lookAhead_map (s : State) : (lookAhead s).rm.map = s.rm.map ∧ (lookAhead s).rm.allocPtr = s.rm.allocPtr ∧
    (lookAhead s).rm.dir = s.rm.dir := by
  obtain ⟨ahead, h⟩ := lookAhead_rm s
  rw [h]
  exact ⟨rfl, rfl, rfl⟩

/-- Which page is the next free one is a matter of the page map and the allocation pointer. -/
theorem nextFreePage_congr {s t : State} (hmap : t.rm.map = s.rm.map) (hptr : t.rm.allocPtr = s.rm.allocPtr) (p : Nat) :
    nextFreePage t p ↔ nextFreePage s p := by
  simp only [nextFreePage, freePage, State.kindOf, hmap, hptr]

/-- A second look finds what the first has asked for. -/
theorem lookAhead_twice (s : State) : lookAhead (lookAhead s) = lookAhead s := by
  obtain ⟨hmap, hptr, -⟩ := lookAhead_map s
  by_cases hn : ∀ p, ¬nextFreePage s p
  · rw [lookAhead_none hn, lookAhead_none hn]
  obtain ⟨p, hp⟩ := not_forall_not.1 hn
  cases ha : s.rm.eraseAhead with
  | some a =>
    have hs : lookAhead s = s := lookAhead_asked (by rw [ha]; rfl)
    rw [hs, hs]
  | none =>
    by_cases ht : (lookAhead s).rm.eraseAhead.isSome = true
    · exact lookAhead_asked ht
    · have hsame : lookAhead s = s := by
        have hnone := Option.not_isSome_iff_eq_none.1 ht
        rw [lookAhead_next hp ha] at hnone ⊢
        dsimp only at hnone
        rw [hnone, ← ha]
      rw [hsame, hsame]

/-! ### The capture's next move (R134) -/

theorem pastEnd_iff (s : State) (x : SampleSet) : pastEnd s x = true ↔ afterEnd s x := by
  unfold pastEnd afterEnd
  cases s.rm.cap.endTime <;> simp

theorem commitDue_iff (s : State) (x : SampleSet) : commitDue s x = true ↔ pageEnds s x := by
  have ht : tickPeriod s.profile 0 = (1000000 / rateOf s.profile.rateCode : Nat) := rfl
  unfold commitDue pageEnds
  simp only [ht, Bool.or_eq_true, decide_eq_true_eq]
  cases s.rm.cap.buf.sets.getLast? <;> simp

theorem captureHolds_congr {s t : State} (hcap : t.rm.cap = s.rm.cap) (hring : t.sampler = s.sampler) (id num : Nat)
    (x : SampleSet) : captureHolds t id num x ↔ captureHolds s id num x := by
  simp only [captureHolds, hcap, hring]

theorem needsPage_congr {s t : State} (hcap : t.rm.cap = s.rm.cap) (hprof : t.profile = s.profile) (x : SampleSet)
    (first : Bool) : needsPage t x first ↔ needsPage s x first := by
  simp only [needsPage, afterEnd, pageEnds, hcap, hprof]

/-- The move of a capture that holds a set: by its buffer, and by the set. -/
theorem captureMove_eq {s : State} {id num : Nat} {x : SampleSet} (h : captureHolds s id num x) : captureMove s =
    if s.rm.cap.buf.sets = [] then
      if s.rm.cap.buf.page = none then .firstPage id
      else if s.rm.cap.taken = 0 ∧ pastEnd s x = true then .finish
      else .take id x
    else if pastEnd s x = true then .finish
    else if commitDue s x = true then .commit id
    else .take id x := by
  obtain ⟨hmode, hid, hbusy, hnum, hx⟩ := h
  simp only [captureMove, hmode, hid, hbusy, hnum, hx, Option.bind_some, bne_self_eq_false, Bool.or_false,
    Bool.false_eq_true, if_false, List.isEmpty_iff, Option.isNone_iff_eq_none, Bool.and_eq_true, beq_iff_eq]

theorem captureMove_allocates {s : State} {id num : Nat} {x : SampleSet} {first : Bool} (h : captureHolds s id num x)
    (hn : needsPage s x first) : captureMove s = if first = true then .firstPage id else .commit id := by
  rw [captureMove_eq h]
  unfold needsPage at hn
  split at hn
  next hf => rw [if_pos hn.1, if_pos hn.2, if_pos hf]
  next hf =>
    obtain ⟨hs, ha, hp⟩ := hn
    rw [if_neg hs, if_neg (mt (pastEnd_iff s x).1 ha), if_pos ((commitDue_iff s x).2 hp), if_neg hf]

theorem captureMove_stores {s : State} {id num : Nat} {x : SampleSet} (h : captureHolds s id num x)
    (hn : storesNext s x) : captureMove s = .take id x := by
  rw [captureMove_eq h]
  obtain ⟨hs, hp, ha⟩ | ⟨hs, ha, hp⟩ := hn
  · have hp' : s.rm.cap.buf.page ≠ none := Option.isSome_iff_ne_none.1 hp
    have ha' : ¬(s.rm.cap.taken = 0 ∧ afterEnd s x) := fun ⟨ht, he⟩ => ha he ht
    rw [if_pos hs, if_neg hp', if_neg (by rwa [pastEnd_iff])]
  · rw [if_neg hs, if_neg (by rwa [pastEnd_iff]), if_neg (by rwa [commitDue_iff])]

theorem captureMove_ends {s : State} {id num : Nat} {x : SampleSet} (h : captureHolds s id num x)
    (hn : endsBefore s x) : captureMove s = .finish := by
  rw [captureMove_eq h]
  obtain ⟨ha, hs | ⟨hs, hp, ht⟩⟩ := hn
  · rw [if_neg hs, if_pos ((pastEnd_iff s x).2 ha)]
  · have hp' : s.rm.cap.buf.page ≠ none := Option.isSome_iff_ne_none.1 hp
    rw [if_pos hs, if_neg hp', if_pos ⟨ht, (pastEnd_iff s x).2 ha⟩]

/-- A capture that holds no set rests (R134). -/
theorem captureMove_rests {s : State} (h : ∀ id num x, ¬captureHolds s id num x) : captureMove s = .rest := by
  unfold captureMove
  dsimp only
  split
  · rfl
  next hm =>
    simp only [Bool.or_eq_true, bne_iff_ne, ne_eq, not_or, not_not, Bool.not_eq_true] at hm
    split
    next id x hid hx =>
      obtain ⟨num, hnum, hx⟩ := Option.bind_eq_some_iff.1 hx
      exact absurd ⟨hm.1, hid, hm.2, hnum, hx⟩ (h id num x)
    · rfl

/-- What a capture that holds a set does with it (R134). -/
theorem captureHolds_cases {s : State} (x : SampleSet) :
    storesNext s x ∨ endsBefore s x ∨ ∃ first, needsPage s x first := by
  by_cases hs : s.rm.cap.buf.sets = []
  · by_cases hp : s.rm.cap.buf.page = none
    · exact .inr (.inr ⟨true, hs, hp⟩)
    · have hp' := Option.isSome_iff_ne_none.2 hp
      by_cases ha : afterEnd s x ∧ s.rm.cap.taken = 0
      · exact .inr (.inl ⟨ha.1, .inr ⟨hs, hp', ha.2⟩⟩)
      · exact .inl (.inl ⟨hs, hp', fun he ht => ha ⟨he, ht⟩⟩)
  · by_cases ha : afterEnd s x
    · exact .inr (.inl ⟨ha, .inl hs⟩)
    · by_cases hc : pageEnds s x
      · exact .inr (.inr ⟨false, hs, ha, hc⟩)
      · exact .inl (.inr ⟨hs, ha, hc⟩)

/-! ### Allocation (R135, R136) -/

theorem allocate_next {s : State} {p : Nat} (hp : nextFreePage s p) (fuel id idx : Nat) : allocate fuel s id idx =
    if s.kindOf p = .freeErased then .got (takePage s p id idx) p else .wait (lookAhead s) := by
  have hn := (nextFree_eq_some_iff s p).2 hp
  cases fuel <;> (unfold allocate allocateOr; simp only [hn])

theorem allocate_fails {s : State} (hp : ∀ p, ¬nextFreePage s p) (hr : ∀ e ∈ s.rm.dir, ¬reclaimable e)
    (fuel id idx : Nat) : allocate fuel s id idx = .fail s := by
  have hn := (nextFree_eq_none_iff s).2 hp
  cases fuel <;> (unfold allocate allocateOr; simp only [hn, reclaim_none hr])

theorem allocate_reclaims {s : State} {e : DirEntry} (hp : ∀ p, ¬nextFreePage s p) (he : firstReclaimed s e)
    (fuel id idx : Nat) : allocate (fuel + 1) s id idx = allocate fuel (reclaimedOf s e) id idx := by
  have hn := (nextFree_eq_none_iff s).2 hp
  rw [allocate]
  unfold allocateOr
  simp only [hn, reclaim_first he]

/-- A reclaim takes the first record that can be reclaimed, or none can be. -/
theorem firstReclaimed_or (s : State) : (∃ e, firstReclaimed s e) ∨ ∀ e ∈ s.rm.dir, ¬reclaimable e := by
  cases h : s.rm.dir.find? DirEntry.reclaimable with
  | some e => exact .inl ⟨e, (firstWith_iff reclaimable _ reclaimable_iff _ _).2 h⟩
  | none => exact .inr fun e he => mt (reclaimable_iff e).2 (List.find?_eq_none.1 h e he)

/-- An allocation is not bounded by its fuel where that is the number of records in the directory, or more. -/
theorem allocate_fuel {j k : Nat} {s : State} (hj : s.rm.dir.length ≤ j) (hk : s.rm.dir.length ≤ k) (id idx : Nat) :
    allocate j s id idx = allocate k s id idx := by
  by_cases hp : ∀ p, ¬nextFreePage s p
  · obtain ⟨e, he⟩ | hr := firstReclaimed_or s
    · have hlt := reclaimedOf_dir_lt he
      obtain _ | j := j
      · omega
      obtain _ | k := k
      · omega
      rw [allocate_reclaims hp he, allocate_reclaims hp he]
      exact allocate_fuel (by omega) (by omega) id idx
    · rw [allocate_fails hp hr, allocate_fails hp hr]
  · obtain ⟨p, hp⟩ := not_forall_not.1 hp
    rw [allocate_next hp, allocate_next hp]
termination_by s.rm.dir.length

/-- Where no page is free, an allocation is one after the reclaim. -/
theorem allocatePage_reclaims {s : State} {e : DirEntry} (hp : ∀ p, ¬nextFreePage s p) (he : firstReclaimed s e)
    (id idx : Nat) : allocatePage s id idx = allocatePage (reclaimedOf s e) id idx := by
  have hlt := reclaimedOf_dir_lt he
  obtain ⟨k, hk⟩ : ∃ k, s.rm.dir.length = k + 1 := ⟨s.rm.dir.length - 1, by omega⟩
  rw [allocatePage, hk, allocate_reclaims hp he]
  exact allocate_fuel (by omega) le_rfl id idx

theorem takePage_eq (s : State) (p id idx : Nat) : takePage s p id idx = lookAhead (pageGiven s p id idx) := by
  have hfirst : ∀ e : DirEntry, (if e.firstPage.isNone = true then some p else e.firstPage) = e.firstPage.or (some p) :=
    fun e => by cases e.firstPage <;> rfl
  simp only [takePage, pageGiven, dirUpdate_eq, setKind, pageCount, hfirst]

/-! ### The close of a record whose buffer is free (R137, R139) -/

theorem closeRecord_unbusy {s : State} {id : Nat} (hid : s.rm.cap.recId = some id) (hb : s.rm.cap.buf.busy = false)
    (cause : EndCause) {u v : State} (hu : u = countClose s cause) (hv : v = givenBack u id s.rm.cap.buf.page) :
    closeRecord s cause = if s.rm.cap.buf.sets = [] then
        if s.rm.cap.taken = 0 then leftOut v id
        else { v with rm := { v.rm with
          dir := v.rm.dir.map (fun e => if e.id = id then { e with closed := true, endCause := some cause } else e)
          cap := freedCapture v.rm.cap } }
      else closedWith u cause := by
  subst hu hv
  simp only [closeRecord, countClose_cap, hid, hb, Bool.false_eq_true, if_false, List.isEmpty_iff, returnIf_eq,
    dropRecord_freed, markClosed_freed]
  split
  · rfl
  · simp only [closedWith, captureClosing, setCap, countClose_cap]

/-- The close FULL of a record that needs a page and gets none (R137). -/
theorem closeRecord_full {s : State} {id num : Nat} {x : SampleSet} {first : Bool} (h : captureHolds s id num x)
    (hn : needsPage s x first) : closeRecord s .full = closedFull s id first := by
  obtain ⟨-, hid, hb, -, -⟩ := h
  rw [closeRecord_unbusy hid hb .full rfl rfl]
  unfold needsPage at hn
  split at hn
  next hf =>
    subst hf
    rw [if_pos hn.1, hn.2, closedFull]
    rfl
  next hf =>
    rw [if_neg hn.1, closedFull, if_pos (by simpa using hf)]
    rfl

/-! ### The move of a capture that needs a page (R134 to R137) -/

/-- What the capture makes of an allocation for its first page, or at a commit. -/
def allocMove (first : Bool) : Alloc → State × Bool
  | .got s p => (if first = true then setCap s { s.rm.cap with buf := { s.rm.cap.buf with page := some p } }
      else { s with rm := { s.rm with
        programReq := true
        cap := { s.rm.cap with buf := { s.rm.cap.buf with next := some p, busy := true } } } }, true)
  | .wait s => (s, false)
  | .fail s => (closeRecord s .full, true)

theorem captureStep_allocates {s : State} {id num : Nat} {x : SampleSet} {first : Bool} (h : captureHolds s id num x)
    (hn : needsPage s x first) : captureStep s =
      allocMove first (allocatePage s id (if first = true then s.rm.cap.buf.idx else s.rm.cap.buf.idx + 1)) := by
  unfold captureStep
  rw [captureMove_allocates h hn]
  cases first
  · simp only [Bool.false_eq_true, if_false]
    cases allocatePage s id (s.rm.cap.buf.idx + 1) <;> rfl
  · simp only [if_true]
    cases allocatePage s id s.rm.cap.buf.idx <;> rfl

theorem captureStep_erased {s : State} {id num : Nat} {x : SampleSet} {first : Bool} (h : captureHolds s id num x)
    (hn : needsPage s x first) {p : Nat} (hp : nextFreePage s p) (hk : s.kindOf p = .freeErased) :
    captureStep s = (pageAdded s id p first, true) := by
  rw [captureStep_allocates h hn, allocatePage, allocate_next hp, if_pos hk, takePage_eq]
  cases first <;> simp only [allocMove, pageAdded, setCap, lookAhead_cap] <;> rfl

theorem captureStep_dirty {s : State} {id num : Nat} {x : SampleSet} {first : Bool} (h : captureHolds s id num x)
    (hn : needsPage s x first) {p : Nat} (hp : nextFreePage s p) (hk : s.kindOf p = .freeDirty) :
    captureStep s = (lookAhead s, false) := by
  rw [captureStep_allocates h hn, allocatePage, allocate_next hp, if_neg (by simp [hk])]
  rfl

theorem captureStep_full {s : State} {id num : Nat} {x : SampleSet} {first : Bool} (h : captureHolds s id num x)
    (hn : needsPage s x first) (hp : ∀ p, ¬nextFreePage s p) (hr : ∀ e ∈ s.rm.dir, ¬reclaimable e) :
    captureStep s = (closedFull s id first, true) := by
  rw [captureStep_allocates h hn, allocatePage, allocate_fails hp hr, ← closeRecord_full h hn]
  rfl

/-- A reclaim leaves what the capture's move depends on, but for the pages. -/
theorem reclaimedOf_holds {s : State} (e : DirEntry) {id num : Nat} {x : SampleSet} {first : Bool}
    (h : captureHolds s id num x) (hn : needsPage s x first) :
    captureHolds (reclaimedOf s e) id num x ∧ needsPage (reclaimedOf s e) x first := by
  have hcap := (reclaimedOf_rm s e).1
  exact ⟨(captureHolds_congr hcap (by simp [reclaimedOf]) id num x).2 h,
    (needsPage_congr hcap (by simp [reclaimedOf]) x first).2 hn⟩

theorem captureStep_reclaims {s : State} {id num : Nat} {x : SampleSet} {first : Bool} (h : captureHolds s id num x)
    (hn : needsPage s x first) (hp : ∀ p, ¬nextFreePage s p) {e : DirEntry} (he : firstReclaimed s e) :
    captureStep s = captureStep (reclaimedOf s e) := by
  obtain ⟨h', hn'⟩ := reclaimedOf_holds e h hn
  rw [captureStep_allocates h hn, captureStep_allocates h' hn', allocatePage_reclaims hp he, (reclaimedOf_rm s e).1]

/-! ### The pages that a reclaim frees (R136) -/

/-- Every page from 0 to 511 is looked at. -/
theorem nextFreePage_of_free {s : State} {p : Nat} (hp : p < 512) (hf : freePage s p) : ∃ q, nextFreePage s q := by
  by_contra hno
  push Not at hno
  have hnone := (nextFree_eq_none_iff s).2 hno
  rw [nextFree, List.find?_eq_none] at hnone
  refine hnone p ?_ ((isFree_iff s p).2 hf)
  simp only [pagesFrom, pageCount, List.mem_map, List.mem_range]
  exact ⟨(p + 512 - s.rm.allocPtr % 512) % 512, Nat.mod_lt _ (by omega), by omega⟩

theorem reclaimedOf_map (s : State) (e : DirEntry) : (reclaimedOf s e).rm.map =
    s.rm.map.map (fun k => if k.isOwnedBy e.id = true then .freeDirty else k) := by
  unfold reclaimedOf
  exact (lookAhead_map _).1

theorem reclaimedOf_kindOf (s : State) (e : DirEntry) (p : Nat) : (reclaimedOf s e).kindOf p =
    if (s.kindOf p).isOwnedBy e.id = true then .freeDirty else s.kindOf p := by
  simp only [State.kindOf, reclaimedOf_map, List.getD_eq_getElem?_getD, List.getElem?_map]
  cases s.rm.map[p]? <;> rfl

/-- After a reclaim that frees pages where none was free, the next free page is dirty. -/
theorem reclaimedOf_next {s : State} {e : DirEntry} (hno : ∀ p, ¬nextFreePage s p) {p : Nat} (hp : p < 512)
    (ho : (s.kindOf p).isOwnedBy e.id = true) :
    ∃ q, nextFreePage (reclaimedOf s e) q ∧ (reclaimedOf s e).kindOf q = .freeDirty := by
  have hfree : freePage (reclaimedOf s e) p := .inr (by rw [reclaimedOf_kindOf, if_pos ho])
  obtain ⟨q, hq⟩ := nextFreePage_of_free hp hfree
  refine ⟨q, hq, ?_⟩
  obtain ⟨k, -, hqk, hf, -⟩ := hq
  have hlt : q < 512 := by omega
  by_cases hoq : (s.kindOf q).isOwnedBy e.id = true
  · rw [reclaimedOf_kindOf, if_pos hoq]
  · rw [freePage, reclaimedOf_kindOf, if_neg hoq] at hf
    obtain ⟨r, hr⟩ := nextFreePage_of_free hlt hf
    exact absurd hr (hno r)

/-! ### The capture's rows -/

theorem moveCapture_eq {s : State} {c : Bool} (ha : s.awake = true) (hc : c = true) :
    doWhen (s.awake && c) s moveCapture = .next (engineKick (captureStep s).1) := by
  rw [ha, hc]
  rfl

theorem exec_allocates {s : State} {id num : Nat} {x : SampleSet} {first : Bool} {c : Instr} (h : captureAt s id num x)
    (hn : needsPage s x first) (hc : c = .pageAllocation ∨ c = .captureTakeSet) :
    exec c s = .next (engineKick (captureStep s).1) := by
  have hmove := captureMove_allocates h.2 hn
  rcases hc with rfl | rfl
  · exact moveCapture_eq h.1 (by cases first <;> simp [allocatesNext, hmove])
  · exact moveCapture_eq h.1 (by cases first <;> simp [takesNext, hmove])

end Sys2Proof.Machine

namespace Sys2Proof.Proofs

open Sys2Proof.Machine

/-- Settles O51, by the next free page, and by the records that can be reclaimed. -/
theorem pagesAreAllocated : Obligations.PagesAreAllocated := by
  refine ⟨fun s => ?_, fun s id num x first c h hn hc => ?_⟩
  · by_cases hno : ∀ p, ¬nextFreePage s p
    · exact ⟨_, lookAhead_none hno, fun _ => rfl, fun _ => rfl, fun p hp => absurd hp (hno p)⟩
    · obtain ⟨p, hp⟩ := not_forall_not.1 hno
      cases ha : s.rm.eraseAhead with
      | some a =>
        exact ⟨some a, by rw [lookAhead_asked (by rw [ha]; rfl), ← ha], fun _ => rfl, fun _ => rfl, fun _ _ h => by cases h⟩
      | none =>
        refine ⟨_, lookAhead_next hp ha, fun h => (by cases h), fun h => absurd hp (h p), fun q hq _ => ?_⟩
        have hqp : some q = some p := by
          rw [← (nextFree_eq_some_iff s q).2 hq, ← (nextFree_eq_some_iff s p).2 hp]
        cases hqp
        rfl
  · have hexec := exec_allocates h hn hc
    refine ⟨fun p hp => ⟨fun hk => ?_, fun hk => ?_⟩,
      fun hp => ⟨fun e he => ⟨fun ⟨p, hlt, ho⟩ => ?_, fun _ => ?_⟩, fun hr => ?_⟩⟩
    · rw [hexec, captureStep_erased h.2 hn hp hk]
    · rw [hexec, captureStep_dirty h.2 hn hp hk]
    · obtain ⟨h', hn'⟩ := reclaimedOf_holds e h.2 hn
      obtain ⟨q, hq, hk⟩ := reclaimedOf_next hp hlt ho
      rw [hexec, captureStep_reclaims h.2 hn hp he, captureStep_dirty h' hn' hq hk]
      unfold reclaimedOf
      rw [lookAhead_twice]
    · obtain ⟨h', hn'⟩ := reclaimedOf_holds e h.2 hn
      have hawake : (reclaimedOf s e).awake = true := by
        rw [← h.1]
        simp [State.awake, reclaimedOf]
      rw [hexec, exec_allocates ⟨hawake, h'⟩ hn' hc, captureStep_reclaims h.2 hn hp he]
    · rw [hexec, captureStep_full h.2 hn hp hr]

end Sys2Proof.Proofs
/-! SUPPORT. The capture's taking of sets as its moves (R134 to R137): each step is a move, or a few reclaims and a move. -/

namespace Sys2Proof.Machine

open Relation

/-! ### A set stored, and a record ended (R134, R137) -/

theorem bufferSet_eq {s : State} {num : Nat} (h : s.rm.cap.readPos = some num) (id : Nat) (x : SampleSet) :
    bufferSet s id x = setTaken s id num x := by
  simp only [bufferSet, setTaken, dirUpdate_eq, h, Option.map_some, wrap32, List.isEmpty_iff]

/-- The set at the read position is stored, and the record closes with it where its count reaches the limit (R134). -/
theorem captureStep_stores {s : State} {id num : Nat} {x : SampleSet} (h : captureHolds s id num x) (hn : storesNext s x) :
    captureStep s =
      (if setLimit s ≤ s.rm.cap.taken + 1 then closedWith (setTaken s id num x) .normal else setTaken s id num x, true) := by
  have hlimit : recordLimit (setTaken s id num x).profile = setLimit s := rfl
  have htaken : (setTaken s id num x).rm.cap.taken = s.rm.cap.taken + 1 := rfl
  have hmove := captureMove_stores h hn
  obtain ⟨-, hid, hb, hnum, -⟩ := h
  have hclose : closeRecord (setTaken s id num x) .normal = closedWith (setTaken s id num x) .normal := by
    rw [closeRecord_unbusy (s := setTaken s id num x) hid hb .normal rfl rfl, if_neg (by simp [setTaken])]
    rfl
  unfold captureStep
  simp only [hmove, storeSet, bufferSet_eq hnum, hlimit, htaken, hclose]

/-- The record ends before the set at the read position (R137, R139; log entry 28). -/
theorem captureStep_ends {s : State} {id num : Nat} {x : SampleSet} (h : captureHolds s id num x) (hn : endsBefore s x) :
    captureStep s = (endedRecord s id, true) := by
  have hmove := captureMove_ends h hn
  obtain ⟨-, hid, hb, -, -⟩ := h
  have hclose : closeRecord s .normal = endedRecord s id := by
    rw [closeRecord_unbusy hid hb .normal rfl rfl, endedRecord]
    obtain ⟨-, hs | ⟨hs, -, ht⟩⟩ := hn
    · rw [if_neg hs, if_pos hs]
      rfl
    · rw [if_pos hs, if_pos ht, if_neg (not_not.2 hs)]
      rfl
  unfold captureStep
  simp only [hmove, hclose]

/-! ### What a capture that has no move, or waits, does not do -/

theorem captureHolds_unique {s : State} {id id' num num' : Nat} {x x' : SampleSet} (h : captureHolds s id num x)
    (h' : captureHolds s id' num' x') : id = id' ∧ num = num' ∧ x = x' := by
  obtain ⟨-, hid, -, hnum, hx⟩ := h
  obtain ⟨-, hid', -, hnum', hx'⟩ := h'
  cases hid.symm.trans hid'
  cases hnum.symm.trans hnum'
  cases hx.symm.trans hx'
  exact ⟨rfl, rfl, rfl⟩

/-- A move is one of a capture that holds a set. -/
theorem captureMoves_holds {s u : State} (h : captureMoves s u) : ∃ id num x, captureHolds s id num x := by
  cases h <;> exact ⟨_, _, _, ‹_›⟩

/-- A capture that waits for a page has no move (R135). -/
theorem captureMoves_not_waits {s u : State} (h : captureMoves s u) : ¬captureWaits s := by
  rintro ⟨id, num, x, first, p, hh, hn, hp, hk⟩
  have hmove := captureMove_allocates hh hn
  have hno : ¬∀ q, ¬nextFreePage s q := fun hno => hno p hp
  cases h with
  | stores id' num' x' hh' hs =>
    rw [captureMove_stores hh' hs] at hmove
    split at hmove <;> cases hmove
  | storesLast id' num' x' hh' hs =>
    rw [captureMove_stores hh' hs] at hmove
    split at hmove <;> cases hmove
  | ends id' num' x' hh' he =>
    rw [captureMove_ends hh' he] at hmove
    split at hmove <;> cases hmove
  | pageAdded id' num' x' first' q hh' hn' hq hkq =>
    have hpq : some p = some q := by rw [← (nextFree_eq_some_iff s p).2 hp, ← (nextFree_eq_some_iff s q).2 hq]
    cases hpq
    rw [hk] at hkq
    cases hkq
  | reclaims id' num' x' first' e hh' hn' hno' => exact hno hno'
  | closesFull id' num' x' first' hh' hn' hno' => exact hno hno'

theorem captureWaits_lookAhead {s : State} (h : captureWaits s) : captureWaits (lookAhead s) := by
  obtain ⟨id, num, x, first, p, hh, hn, hp, hk⟩ := h
  obtain ⟨hmap, hptr, -⟩ := lookAhead_map s
  refine ⟨id, num, x, first, p, (captureHolds_congr (lookAhead_cap s) (by simp) id num x).2 hh,
    (needsPage_congr (lookAhead_cap s) (by simp) x first).2 hn, (nextFreePage_congr hmap hptr p).2 hp, ?_⟩
  rw [← hk]
  simp only [State.kindOf, hmap]

/-! ### The taking as a whole (R134) -/

/-- What the taking of a state comes to: moves from it lead to a state from which none is left, or whose allocation waits, and
which then looks at the page that it waits for. -/
def takenByMoves (s : State) : Prop :=
  ∃ t, ReflTransGen captureMoves s t ∧ (captureWaits t → captureTake s = lookAhead t) ∧
    (¬captureWaits t → captureTake s = t) ∧ ∀ u, ¬captureMoves (captureTake s) u

/-- A taking is what its first step leaves to do. -/
theorem captureTake_congr {s t : State} (h : captureStep s = captureStep t) : captureTake s = captureTake t := by
  cases hgo : (captureStep t).2 with
  | true => rw [captureTake_goesOn hgo, captureTake_goesOn (by rw [h, hgo]), h]
  | false => rw [captureTake_rests hgo, captureTake_rests (by rw [h, hgo]), h]

/-- Moves at the front of a taking. -/
theorem takenByMoves_of_moves {s t : State} (hm : ReflTransGen captureMoves s t) (h : captureTake s = captureTake t)
    (ht : takenByMoves t) : takenByMoves s := by
  obtain ⟨u, hu, hwaits, hrests, hno⟩ := ht
  rw [← h] at hwaits hrests hno
  exact ⟨u, hm.trans hu, hwaits, hrests, hno⟩

theorem takenByMoves_of_step {s t : State} (hm : captureMoves s t) (hstep : captureStep s = (t, true))
    (ht : takenByMoves t) : takenByMoves s :=
  takenByMoves_of_moves (.single hm) (by rw [captureTake_goesOn (by rw [hstep]), hstep]) ht

theorem takenByMoves_of_wait {s : State} (h : captureWaits s) : takenByMoves s := by
  obtain ⟨id, num, x, first, p, hh, hn, hp, hk⟩ := h
  have hw : captureWaits s := ⟨id, num, x, first, p, hh, hn, hp, hk⟩
  have hstep := captureStep_dirty hh hn hp hk
  have htake : captureTake s = lookAhead s := by rw [captureTake_rests (by rw [hstep]), hstep]
  refine ⟨s, .refl, fun _ => htake, fun h => absurd hw h, fun u hu => ?_⟩
  rw [htake] at hu
  exact captureMoves_not_waits hu (captureWaits_lookAhead hw)

theorem takenByMoves_of_rest {s : State} (h : ∀ id num x, ¬captureHolds s id num x) : takenByMoves s := by
  have hstep : captureStep s = (s, false) := by
    unfold captureStep
    simp only [captureMove_rests h]
  have htake : captureTake s = s := by rw [captureTake_rests (by rw [hstep]), hstep]
  refine ⟨s, .refl, fun ⟨id, num, x, _, _, hh, _⟩ => absurd hh (h id num x), fun _ => htake, fun u hu => ?_⟩
  rw [htake] at hu
  obtain ⟨id, num, x, hh⟩ := captureMoves_holds hu
  exact h id num x hh

/-- An allocation, after the reclaims that it needs: the taking goes on from where `goesOn` answers (R135, R136). -/
theorem takenByMoves_of_needsPage {s : State} {id num : Nat} {x : SampleSet} {first : Bool} (h : captureHolds s id num x)
    (hn : needsPage s x first) (goesOn : (captureStep s).2 = true → takenByMoves (captureStep s).1) : takenByMoves s := by
  by_cases hno : ∀ p, ¬nextFreePage s p
  · obtain ⟨e, he⟩ | hr := firstReclaimed_or s
    · obtain ⟨h', hn'⟩ := reclaimedOf_holds e h hn
      have hlt := reclaimedOf_dir_lt he
      have hstep := captureStep_reclaims h hn hno he
      have htake : captureTake s = captureTake (reclaimedOf s e) := captureTake_congr hstep
      rw [hstep] at goesOn
      exact takenByMoves_of_moves (.single (.reclaims id num x first e h hn hno he)) htake
        (takenByMoves_of_needsPage h' hn' goesOn)
    · have hstep := captureStep_full h hn hno hr
      rw [hstep] at goesOn
      exact takenByMoves_of_step (.closesFull id num x first h hn hno hr) hstep (goesOn rfl)
  · obtain ⟨p, hp⟩ := not_forall_not.1 hno
    have hfree : freePage s p := by
      obtain ⟨_, -, -, hf, -⟩ := hp
      exact hf
    obtain hk | hk := hfree
    · have hstep := captureStep_erased h hn hp hk
      rw [hstep] at goesOn
      exact takenByMoves_of_step (.pageAdded id num x first p h hn hp hk) hstep (goesOn rfl)
    · exact takenByMoves_of_wait ⟨id, num, x, first, p, h, hn, hp, hk⟩
termination_by s.rm.dir.length

/-- The capture's taking is its moves, until none is left (R134). -/
theorem captureTake_byMoves (s : State) : takenByMoves s := by
  have goesOn : (captureStep s).2 = true → takenByMoves (captureStep s).1 := fun h =>
    have := captureStep_movesLeft h
    captureTake_byMoves (captureStep s).1
  by_cases hh : ∀ id num x, ¬captureHolds s id num x
  · exact takenByMoves_of_rest hh
  push Not at hh
  obtain ⟨id, num, x, h⟩ := hh
  obtain hn | hn | ⟨first, hn⟩ := captureHolds_cases (s := s) x
  · have hstep := captureStep_stores h hn
    split at hstep
    next hl =>
      rw [hstep] at goesOn
      exact takenByMoves_of_step (.storesLast id num x h hn hl) hstep (goesOn rfl)
    next hl =>
      rw [hstep] at goesOn
      exact takenByMoves_of_step (.stores id num x h hn (Nat.not_le.1 hl)) hstep (goesOn rfl)
  · have hstep := captureStep_ends h hn
    rw [hstep] at goesOn
    exact takenByMoves_of_step (.ends id num x h hn) hstep (goesOn rfl)
  · exact takenByMoves_of_needsPage h hn goesOn
termination_by s.rm.cap.movesLeft

end Sys2Proof.Machine

namespace Sys2Proof.Proofs

open Sys2Proof.Machine

/-- Settles O48, row by row, and for the taking as a whole by the moves that are left. -/
theorem captureTakesSets : Obligations.CaptureTakesSets := by
  refine ⟨fun s id num x ⟨ha, h⟩ => ⟨fun hn => ⟨fun hl => ?_, fun hl => ?_⟩, fun hn => ?_⟩, captureTake_byMoves⟩
  · refine (moveCapture_eq ha (by simp [takesNext, captureMove_stores h hn])).trans ?_
    rw [captureStep_stores h hn, if_neg (Nat.not_le.2 hl)]
  · refine (moveCapture_eq ha ?_).trans ?_
    · simp only [reachesLimit, captureMove_stores h hn]
      exact decide_eq_true hl
    · rw [captureStep_stores h hn, if_pos hl]
  · refine (moveCapture_eq ha (by simp [endsNext, captureMove_ends h hn])).trans ?_
    rw [captureStep_ends h hn]

end Sys2Proof.Proofs
/-! SUPPORT. Pages by their bytes (R123, R125, R146): what a range of the memory reads as after it is written, erased or
programmed, and what the scan makes of a page's bytes. -/

namespace Sys2Proof.Machine

/-! ### Ranges of the memory -/

@[simp] theorem memRange_length (m : Memory) (a n : Nat) : (memRange m a n).length = n := by simp [memRange]

theorem memRange_getElem (m : Memory) (a n : Nat) {i : Nat} (hi : i < (memRange m a n).length) :
    (memRange m a n)[i] = memRead m (a + i) := by simp [memRange]

theorem memRange_add (m : Memory) (a j k : Nat) : memRange m a (j + k) = memRange m a j ++ memRange m (a + j) k := by
  simp [memRange, List.range_add, Nat.add_assoc]

theorem memRange_congr {m m' : Memory} {a n : Nat} (h : ∀ b, a ≤ b → b < a + n → memRead m b = memRead m' b) :
    memRange m a n = memRange m' a n := by
  refine List.ext_getElem (by simp) fun i hi _ => ?_
  rw [memRange_length] at hi
  rw [memRange_getElem, memRange_getElem, h _ (by omega) (by omega)]

/-- The bytes of a range within another one. -/
theorem memRange_within (m : Memory) (a : Nat) {j k n : Nat} (h : j + k ≤ n) :
    memRange m (a + j) k = ((memRange m a n).drop j).take k := by
  obtain ⟨r, rfl⟩ := Nat.exists_eq_add_of_le h
  rw [memRange_add, memRange_add, List.append_assoc, List.drop_left' (by simp), List.take_left' (by simp)]

theorem memRange_written {m : Memory} (h : Memory.wf m) (a : Nat) (bs : List Byte) :
    memRange (memWriteList m a bs) a bs.length = bs := by
  refine List.ext_getElem (by simp) fun i _ hi => ?_
  rw [memRange_getElem, memRead_writeList_at h a bs hi]

/-- The bytes from an address on after some of them have been written. -/
theorem memRange_writeList {m : Memory} (h : Memory.wf m) (a : Nat) {bs : List Byte} {n : Nat} (hn : bs.length ≤ n) :
    memRange (memWriteList m a bs) a n = bs ++ memRange m (a + bs.length) (n - bs.length) := by
  obtain ⟨k, rfl⟩ := Nat.exists_eq_add_of_le hn
  rw [memRange_add, memRange_written h, Nat.add_sub_cancel_left]
  congr 1
  exact memRange_congr fun b hb _ => memRead_writeList_after bs hb

/-- On an erased range a PROGRAM leaves its bytes. -/
theorem memProgram_erased {m : Memory} (h : Memory.wf m) {a : Nat} {bs : List Byte}
    (he : ∀ i < bs.length, memRead m (a + i) = erasedByte) (n : Nat) :
    memRange (memProgram m a bs) a n = memRange (memWriteList m a bs) a n := by
  refine List.ext_getElem (by simp) fun i hi _ => ?_
  rw [memRange_length] at hi
  rw [memRange_getElem, memRange_getElem]
  by_cases hlt : i < bs.length
  · rw [memRead_program_at h a bs hlt, memRead_writeList_at h a bs hlt, he i hlt]
    exact BitVec.allOnes_and
  · rw [memRead_program_after bs (by omega), memRead_writeList_after bs (by omega)]

theorem memRead_listed {m : Memory} (h : Memory.wf m) {c : Host.Cell} (hc : c ∈ m) : memRead m c.1 = c.2 := by
  obtain ⟨horder, hlisted⟩ := h
  induction m with
  | nil => cases hc
  | cons d rest ih =>
    obtain ⟨hd, hrest⟩ := List.pairwise_cons.1 horder
    obtain rfl | hc := List.mem_cons.1 hc
    · simp [memRead]
    · have hne : d.1 ≠ c.1 := (hd c hc).ne
      have htail := ih hc hrest fun e he => hlisted e (List.mem_cons_of_mem _ he)
      rwa [memRead, if_neg hne]

/-! ### A page's bytes (R146) -/

@[simp] theorem pageBytes_length (m : Memory) (page : Nat) : (pageBytes m page).length = 2048 := memRange_length _ _ _

theorem pageBytes_cells (m : Memory) (page : Nat) : pageBytes (pageCells m page) page = pageBytes m page :=
  memRange_congr fun _ h1 h2 => memRead_pageCells h1 h2

/-- No cell of a page is listed where all its bytes are erased (R127). -/
theorem pageCells_erased {m : Memory} (h : Memory.wf m) (page : Nat) :
    (pageCells m page).all (fun c => c.2 == erasedByte) = (pageBytes m page).all (fun b => b == erasedByte) := by
  rw [Bool.eq_iff_iff, List.all_eq_true, List.all_eq_true, ← pageBytes_cells]
  have hwf := pageCells_wf h page
  constructor
  · intro hall
    have hnil : pageCells m page = [] := List.eq_nil_iff_forall_not_mem.2 fun c hc => hwf.2 c hc (by simpa using hall c hc)
    rw [hnil]
    simp [pageBytes, memRange, memRead]
  · intro hall c hc
    obtain ⟨-, hin⟩ := List.mem_filter.1 hc
    simp only [inPage, Bool.and_eq_true, decide_eq_true_eq] at hin
    refine hall c.2 (List.mem_iff_getElem.2 ⟨c.1 - pageBase page, ?_, ?_⟩)
    · rw [pageBytes_length]
      unfold pageSize at hin
      omega
    · unfold pageBytes
      rw [memRange_getElem, show pageBase page + (c.1 - pageBase page) = c.1 by omega, memRead_listed hwf hc]

/-- The CRC of a record page by its bytes (R125). -/
def pageCrc (bs : List Byte) : Bool :=
  headerField bs 30 2 == crc16 (bs.take 20 ++ (bs.drop 22).take 8 ++ (bs.drop 32).take (12 * headerField bs 14 1))

/-- The class of a page by its bytes (R146). -/
def pageClass (page : Nat) (bs : List Byte) : PageClass :=
  if bs.all (fun b => b == erasedByte) then .erased
  else if headerGood (bs.take 32) && pageCrc bs then .valid (parseHeader page (bs.take 32)) else .torn

theorem headerField_take (bs : List Byte) {off n k : Nat} (h : off + n ≤ k) :
    headerField (bs.take k) off n = headerField bs off n := by
  rw [headerField, headerField, List.drop_take, List.take_take, Nat.min_eq_left (by omega)]

theorem headerGood_count {bs : List Byte} (h : headerGood bs = true) : headerField bs 14 1 ≤ 168 := by
  simp only [headerGood, Bool.and_eq_true, decide_eq_true_eq] at h
  exact h.1.1.2

/-- The scan of a page is a matter of its bytes (R146). -/
theorem scanPage_eq {m : Memory} (h : Memory.wf m) (page : Nat) : scanPage m page = pageClass page (pageBytes m page) := by
  have hhead : memRange (pageCells m page) (pageBase page) 32 = (pageBytes m page).take 32 := by
    have hwithin := memRange_within (pageCells m page) (pageBase page) (j := 0) (k := 32) (n := pageSize) (by decide)
    rwa [Nat.add_zero, List.drop_zero, show memRange (pageCells m page) (pageBase page) pageSize = pageBytes m page from
      pageBytes_cells m page] at hwithin
  have hcheck : headerGood ((pageBytes m page).take 32) = true →
      recordCheck (pageCells m page) (pageBase page) ((pageBytes m page).take 32) = pageCrc (pageBytes m page) := by
    intro hgood
    have hcount := headerGood_count hgood
    rw [headerField_take _ (by omega)] at hcount
    have hsets : memRange (pageCells m page) (pageBase page + 32) (12 * headerField (pageBytes m page) 14 1) =
        ((pageBytes m page).drop 32).take (12 * headerField (pageBytes m page) 14 1) := by
      rw [← pageBytes_cells (m := m)] at hcount ⊢
      exact memRange_within _ (pageBase page) (n := pageSize) (by unfold pageSize; omega)
    rw [recordCheck, pageCrc, headerField_take _ (by omega), headerField_take _ (by omega), hsets, List.take_take,
      List.drop_take, List.take_take]
    rfl
  unfold scanPage pageClass
  dsimp only
  rw [pageCells_erased h, hhead]
  split
  · rfl
  · by_cases hgood : headerGood ((pageBytes m page).take 32) = true
    · rw [hcheck hgood]
    · simp only [Bool.eq_false_of_not_eq_true hgood, Bool.false_and]

/-- A page that is neither erased nor valid is torn (R146). -/
theorem pageClass_torn {page : Nat} {bs : List Byte} (he : bs.all (fun b => b == erasedByte) = false)
    (hc : pageCrc bs = false) : pageClass page bs = .torn := by
  rw [pageClass, he, hc, Bool.and_false]
  rfl

/-! ### A spoiled check -/

@[simp] theorem spoilByte_length (bs : List Byte) (i : Nat) : (spoilByte bs i).length = bs.length := by simp [spoilByte]

theorem spoilByte_eq {bs : List Byte} {i : Nat} (h : i < bs.length) :
    spoilByte bs i = bs.take i ++ (bs[i] ^^^ 1) :: bs.drop (i + 1) := by
  rw [spoilByte, List.getD_eq_getElem _ _ h, List.set_eq_take_append_cons_drop, if_pos h]

theorem ofBytes_two (a b : Byte) : ofBytes [a, b] = a.toNat * 256 + b.toNat := by simp [ofBytes]

/-- The check at bytes 30 and 31 is another one once its lowest bit is turned over. -/
theorem headerField_spoiled {bs : List Byte} (h : 32 ≤ bs.length) :
    headerField (spoilByte bs 31) 30 2 ≠ headerField bs 30 2 := by
  have hold : (bs.drop 30).take 2 = [bs[30], bs[31]] := by
    rw [List.drop_eq_getElem_cons (by omega), List.drop_eq_getElem_cons (by omega)]
    rfl
  have hnew : ((spoilByte bs 31).drop 30).take 2 = [bs[30], bs[31] ^^^ 1] := by
    have h30 : (spoilByte bs 31)[30]'(by rw [spoilByte_length]; omega) = bs[30] := by simp [spoilByte]
    have h31 : (spoilByte bs 31)[31]'(by rw [spoilByte_length]; omega) = bs[31] ^^^ 1 := by
      simp [spoilByte, List.getD_eq_getElem?_getD, List.getElem?_eq_getElem (show 31 < bs.length by omega)]
    rw [List.drop_eq_getElem_cons (by rw [spoilByte_length]; omega), List.drop_eq_getElem_cons (by rw [spoilByte_length]; omega),
      h30, h31]
    rfl
  have hbit : (bs[31] ^^^ 1).toNat ≠ bs[31].toNat := fun he => by
    have hlow := congrArg (fun b => b.getLsbD 0) (BitVec.eq_of_toNat_eq he)
    simp at hlow
  rw [headerField, headerField, hold, hnew, ofBytes_two, ofBytes_two]
  omega

end Sys2Proof.Machine
/-! SUPPORT. The bytes of a record page (R124, R125), and what a cut PROGRAM leaves of one (R149). -/

namespace Sys2Proof.Machine

theorem headerField_set {bs : List Byte} {off n i : Nat} (h : off + n ≤ i) (v : Byte) :
    headerField (bs.set i v) off n = headerField bs off n := by
  rw [headerField, headerField, List.drop_set, if_neg (by omega), List.take_set_of_le (by omega)]

theorem headerField_append {bs : List Byte} {off n : Nat} (h : off + n ≤ bs.length) (tail : List Byte) :
    headerField (bs ++ tail) off n = headerField bs off n := by
  rw [← headerField_take (bs ++ tail) (k := bs.length) h, List.take_left]

/-- A check that holds of a page fails once its lowest bit is turned over (R125). -/
theorem pageCrc_spoiled {bs : List Byte} (h : 32 ≤ bs.length) (hc : pageCrc bs = true) :
    pageCrc (spoilByte bs 31) = false := by
  have hne := headerField_spoiled h
  rw [pageCrc, beq_iff_eq] at hc
  have hcount : headerField (spoilByte bs 31) 14 1 = headerField bs 14 1 := headerField_set (by omega) _
  have htake : (spoilByte bs 31).take 20 = bs.take 20 := List.take_set_of_le (by omega)
  have hzeros : ((spoilByte bs 31).drop 22).take 8 = (bs.drop 22).take 8 := by
    rw [spoilByte, List.drop_set, if_neg (by omega), List.take_set_of_le (by omega)]
  have hsets : (spoilByte bs 31).drop 32 = bs.drop 32 := List.drop_set_of_lt (by omega)
  rw [pageCrc, hcount, htake, hzeros, hsets, ← hc, beq_eq_false_iff_ne]
  exact hne

theorem pageClass_valid {page : Nat} {bs : List Byte} {h : PageHeader} (hv : pageClass page bs = .valid h) :
    pageCrc bs = true := by
  unfold pageClass at hv
  split at hv
  · cases hv
  · split at hv
    next hg => exact (Bool.and_eq_true_iff.1 hg).2
    · cases hv

theorem pageClass_spoiled {page : Nat} {bs : List Byte} (h : 32 ≤ bs.length) (hc : pageCrc bs = true) :
    pageClass page (spoilByte bs 31) = .torn ∨ pageClass page (spoilByte bs 31) = .erased := by
  cases he : (spoilByte bs 31).all (fun b => b == erasedByte) with
  | false => exact .inl (pageClass_torn he (pageCrc_spoiled h hc))
  | true => exact .inr (if_pos he)

theorem pageClass_erased {page : Nat} {bs : List Byte} (h : pageClass page bs = .erased) :
    bs.all (fun b => b == erasedByte) = true := by
  unfold pageClass at h
  split at h
  · assumption
  · split at h <;> cases h

/-! ### A page written from its first byte on -/

/-- A page's bytes where its first ones are written and the others erased. -/
def padded (bs : List Byte) : List Byte := bs ++ List.replicate (2048 - bs.length) erasedByte

theorem pageBytes_written {m : Memory} (h : Memory.wf m) {page : Nat} (he : pageErased m page) {bs : List Byte}
    (hl : bs.length ≤ 2048) : pageBytes (memWriteList m (pageBase page) bs) page = padded bs := by
  unfold pageBytes padded
  rw [memRange_writeList h _ (show bs.length ≤ pageSize from hl)]
  congr 1
  refine List.ext_getElem (by simp [pageSize]) fun i hi _ => ?_
  rw [memRange_length] at hi
  rw [memRange_getElem, List.getElem_replicate]
  unfold pageSize at hi
  exact he _ (by unfold pageBase pageSize; omega) (by unfold pageBase pageSize; omega)

theorem pageErased_nil (page : Nat) : pageErased [] page := fun _ _ _ => rfl

theorem padded_spoiled {bs : List Byte} (h : 32 ≤ bs.length) : padded (spoilByte bs 31) = spoilByte (padded bs) 31 := by
  have hget : (padded bs).getD 31 0 = bs.getD 31 0 := by
    rw [padded, List.getD_append _ _ _ _ (by omega)]
  rw [spoilByte, spoilByte, hget, padded, padded, List.length_set, List.set_append, if_pos (by omega)]

theorem padded_erased (bs : List Byte) :
    (padded bs).all (fun b => b == erasedByte) = bs.all (fun b => b == erasedByte) := by
  simp [padded, List.all_append, List.all_replicate]

/-- What the model takes for a valid page (R149) is what the scan does. -/
theorem pageValid_padded {page : Nat} {bs : List Byte} (hl : bs.length ≤ 2048) :
    pageValid page bs = true ↔ ∃ h, pageClass page (padded bs) = .valid h := by
  unfold pageValid
  rw [scanPage_eq (memWriteList_wf memWf_nil _ _), pageBytes_written memWf_nil (pageErased_nil page) hl]
  cases pageClass page (padded bs) <;> simp

/-! ### The bytes of a record page (R124, R216) -/

/-- The sets of a record page. -/
def setsBytes (b : PageBuffer) : List Byte := (b.sets.map setBytes).flatten

/-- What the CRC of a record page covers (R125). -/
def recordCovered (id own rate : Nat) (b : PageBuffer) : List Byte :=
  headerHead id own rate b ++ List.replicate 8 (0 : Byte) ++ setsBytes b

theorem recordPageBytes_eq (id own rate : Nat) (b : PageBuffer) : recordPageBytes id own rate b =
    headerHead id own rate b ++ ([erasedByte, erasedByte] ++ (List.replicate 8 (0 : Byte) ++
      (crcBytes (recordCovered id own rate b) ++ setsBytes b))) := by
  simp only [recordPageBytes, recordCovered, setsBytes, List.append_assoc]

theorem headerHead_length (id own rate : Nat) (b : PageBuffer) : (headerHead id own rate b).length = 20 := rfl

theorem setsBytes_length (b : PageBuffer) : (setsBytes b).length = 12 * b.sets.length := by
  have hset : ∀ x : SampleSet, (setBytes x).length = 12 := fun x => rfl
  unfold setsBytes
  induction b.sets with
  | nil => rfl
  | cons x rest ih => simp only [List.map_cons, List.flatten_cons, List.length_append, List.length_cons, hset, ih]; omega

theorem recordPageBytes_length (id own rate : Nat) (b : PageBuffer) :
    (recordPageBytes id own rate b).length = 32 + 12 * b.sets.length := by
  rw [recordPageBytes_eq]
  simp only [List.length_append, headerHead_length, List.length_cons, List.length_nil, List.length_replicate, crcBytes,
    beBytes_length, setsBytes_length]
  omega

theorem crc16_lt (bs : List Byte) : crc16 bs < 65536 := BitVec.isLt _

/-- The parts of a record page's bytes, by their places. -/
theorem recordPage_parts (id own rate : Nat) (b : PageBuffer) (tail : List Byte) {bs : List Byte}
    (h : bs = recordPageBytes id own rate b ++ tail) :
    bs.take 20 = headerHead id own rate b ∧ (bs.drop 20).take 2 = [erasedByte, erasedByte] ∧
      (bs.drop 22).take 8 = List.replicate 8 0 ∧ (bs.drop 30).take 2 = crcBytes (recordCovered id own rate b) ∧
      bs.drop 32 = setsBytes b ++ tail := by
  have hh := headerHead_length id own rate b
  have hc : (crcBytes (recordCovered id own rate b)).length = 2 := beBytes_length 2 _
  subst h
  rw [recordPageBytes_eq]
  generalize headerHead id own rate b = head at hh
  generalize crcBytes _ = check at hc
  simp [List.drop_append, List.take_append, hh, hc]

theorem recordPage_covered (id own rate : Nat) (b : PageBuffer) (tail : List Byte) {bs : List Byte}
    (h : bs = recordPageBytes id own rate b ++ tail) :
    bs.take 20 ++ (bs.drop 22).take 8 ++ (bs.drop 32).take (12 * b.sets.length) = recordCovered id own rate b := by
  obtain ⟨h20, -, h22, -, h32⟩ := recordPage_parts id own rate b tail h
  rw [h20, h22, h32, List.take_left' (setsBytes_length b), recordCovered]

theorem recordPage_check (id own rate : Nat) (b : PageBuffer) (tail : List Byte) :
    headerField (recordPageBytes id own rate b ++ tail) 30 2 = crc16 (recordCovered id own rate b) := by
  obtain ⟨-, -, -, h30, -⟩ := recordPage_parts id own rate b tail rfl
  rw [headerField, h30, crcBytes, ofBytes_beBytes]
  exact Nat.mod_eq_of_lt (crc16_lt _)

/-- A field of a record page that lies before its mark bytes. -/
theorem recordPage_field (id own rate : Nat) (b : PageBuffer) (tail : List Byte) {off n : Nat} (h : off + n ≤ 20) :
    headerField (recordPageBytes id own rate b ++ tail) off n = headerField (headerHead id own rate b) off n := by
  obtain ⟨h20, -⟩ := recordPage_parts id own rate b tail rfl
  rw [← h20, headerField_take _ h]

/-- A field of the header, by the bytes that stand there. -/
theorem headerField_number {bs : List Byte} {off k n : Nat} (h : (bs.drop off).take k = beBytes k n) :
    headerField bs off k = n % 256 ^ k := by
  rw [headerField, h, ofBytes_beBytes]

theorem recordPage_count (id own rate : Nat) (b : PageBuffer) (tail : List Byte) :
    headerField (recordPageBytes id own rate b ++ tail) 14 1 = b.sets.length % 256 :=
  (recordPage_field id own rate b tail (by omega)).trans (headerField_number (k := 1) rfl)

theorem recordPage_pageCrc (id own rate : Nat) {b : PageBuffer} (hl : b.sets.length ≤ 168) (tail : List Byte) :
    pageCrc (recordPageBytes id own rate b ++ tail) = true := by
  rw [pageCrc, recordPage_check, recordPage_count, Nat.mod_eq_of_lt (by omega), recordPage_covered id own rate b tail rfl,
    beq_self_eq_true]

/-- A page whose first byte is a record page's is not erased. -/
theorem not_erased_of_first {bs : List Byte} (h : bs[0]? = some 0x52#8) : bs.all (fun x => x == erasedByte) = false :=
  List.all_eq_false.2 ⟨0x52#8, List.mem_of_getElem? h, by decide⟩

theorem recordPage_first (id own rate : Nat) (b : PageBuffer) (tail : List Byte) :
    (recordPageBytes id own rate b ++ tail)[0]? = some 0x52#8 := rfl

/-- A cut PROGRAM of a record page leaves a torn page (R149). -/
theorem cutProgram_torn {m : Memory} (h : Memory.wf m) {page : Nat} (he : pageErased m page) (k id own rate : Nat)
    {b : PageBuffer} (hl : b.sets.length ≤ 168) :
    scanPage (cutProgram m k page (recordPageBytes id own rate b)) page = .torn := by
  have hlen := recordPageBytes_length id own rate b
  have hpart : (partWay k (recordPageBytes id own rate b)).length ≤ 2048 := by simp [partWay, hlen]; omega
  unfold cutProgram
  dsimp only
  split
  · have hspoiled : pageBytes (memWriteList m (pageBase page) (spoilByte (recordPageBytes id own rate b) 31)) page =
        spoilByte (padded (recordPageBytes id own rate b)) 31 := by
      rw [pageBytes_written h he (by rw [spoilByte_length]; omega), padded_spoiled (by omega)]
    rw [scanPage_eq (memWriteList_wf h _ _), hspoiled]
    refine pageClass_torn (not_erased_of_first ?_) (pageCrc_spoiled ?_ (recordPage_pageCrc id own rate hl _))
    · rw [spoilByte, List.getElem?_set_ne (by omega)]
      exact recordPage_first id own rate b _
    · simp only [padded, List.length_append]
      omega
  next hno =>
    rw [Bool.or_eq_true, not_or, Bool.not_eq_true, Bool.not_eq_true, ← padded_erased] at hno
    obtain ⟨hv, hne⟩ := hno
    rw [scanPage_eq (memWriteList_wf h _ _), pageBytes_written h he hpart]
    cases hclass : pageClass page (padded (partWay k (recordPageBytes id own rate b))) with
    | torn => rfl
    | erased =>
      rw [pageClass_erased hclass] at hne
      cases hne
    | valid x =>
      rw [(pageValid_padded hpart).2 ⟨x, hclass⟩] at hv
      cases hv

end Sys2Proof.Machine

namespace Sys2Proof.Proofs

open Sys2Proof.Machine

/-- Settles O14: either the part-written bytes are not those of a valid page, or the check is spoiled. -/
theorem cutRecordPageIsTorn : Obligations.CutRecordPageIsTorn := by
  intro m k page id own rate b h he hl
  rw [cutFlight]
  exact cutProgram_torn h he k id own rate hl

end Sys2Proof.Proofs
/-! SUPPORT. A record page's bytes field by field, and what the scan reads of them (R124, R125, R146, R216). -/

namespace Sys2Proof.Machine

/-! ### The layout (R216) -/

theorem fieldBytes_flags5 (a b c d e : Bool) :
    fieldBytes (flagField [a, b, c, d, e]) = [byteOf (flagBits [a, b, c, d, e])] := by
  cases a <;> cases b <;> cases c <;> cases d <;> cases e <;> decide

theorem wordBytes_eq_fields (w : SetWord) : wordBytes w = (wordFields w).flatMap fieldBytes := by
  simp only [wordBytes, wordFields, List.flatMap_cons, List.flatMap_nil, List.append_nil, fieldBytes_flags5]
  rfl

theorem setsBytes_eq_fields (b : PageBuffer) : setsBytes b =
    (b.sets.flatMap (fun x => wordFields x.words.z ++ wordFields x.words.n ++ wordFields x.words.e)).flatMap fieldBytes := by
  unfold setsBytes
  rw [List.flatMap_assoc, List.flatMap_def]
  congr 2
  funext x
  simp only [setBytes, wordBytes_eq_fields, List.flatMap_append]

/-- The flag byte of a page's header (R216). -/
def pageFlags (b : PageBuffer) : Nat :=
  b.stepped.toNat + 2 * b.final.isSome.toNat + 16 * (b.final.map endCauseNumber).getD 0

/-- A page becomes final with a cause of R137 or R138, not with one that only the scan gives (R147). -/
def closesFinal (b : PageBuffer) : Prop := ∀ c, b.final = some c → c ≠ .cut ∧ c ≠ .torn

/-- The first 20 bytes of a record page that holds sets, written out. -/
theorem headerHead_eq (id own rate : Nat) {b : PageBuffer} {x : SampleSet} {rest : List SampleSet}
    (hb : b.sets = x :: rest) (h : closesFinal b) : headerHead id own rate b =
      [0x52#8] ++ beBytes 4 id ++ beBytes 2 b.idx ++ timeBytes x.stamp ++
        [byteOf b.sets.length, byteOf (pageMask b.sets), byteOf rate, byteOf own, byteOf b.grade, byteOf (pageFlags b)] := by
  obtain ⟨page, idx, sets, grade, stepped, final, busy, next, tail⟩ := b
  dsimp only at hb
  subst hb
  cases final with
  | none => cases stepped <;> rfl
  | some c =>
    obtain ⟨hcut, htorn⟩ := h c rfl
    cases c with
    | normal | full | power | overrun => cases stepped <;> rfl
    | cut => exact absurd rfl hcut
    | torn => exact absurd rfl htorn

/-- The first 20 bytes of a record page, field by field (R216). -/
def headFields (id own rate : Nat) (b : PageBuffer) (first : ArrayTime) : Fields :=
  ([(1, 0x52), (4, id), (2, b.idx)] : Fields) ++ timeFields first ++
    ([(1, b.sets.length),
      flagField [b.sets.any (fun x => x.words.z.powered), b.sets.any (fun x => x.words.n.powered),
        b.sets.any (fun x => x.words.e.powered)],
      (1, rate), (1, own), (1, b.grade), (1, (pageFlags b : Nat))] : Fields)

theorem headerHead_eq_fields (id own rate : Nat) {b : PageBuffer} {x : SampleSet} {rest : List SampleSet}
    (hb : b.sets = x :: rest) (h : closesFinal b) :
    headerHead id own rate b = (headFields id own rate b x.stamp).flatMap fieldBytes := by
  have hmask : fieldBytes (flagField [b.sets.any (fun x => x.words.z.powered), b.sets.any (fun x => x.words.n.powered),
      b.sets.any (fun x => x.words.e.powered)]) = [byteOf (pageMask b.sets)] := fieldBytes_flags3 _ _ _
  have hkind : fieldBytes (1, 0x52) = [0x52#8] := by decide
  rw [headerHead_eq id own rate hb h, timeBytes_eq_fields]
  simp only [headFields, List.flatMap_append, List.flatMap_cons, List.flatMap_nil, List.append_nil, hmask, hkind,
    fieldBytes_nat, beBytes_one, List.append_assoc, List.cons_append, List.nil_append]

theorem recordPageFields_eq (id own rate : Nat) (b : PageBuffer) (first : ArrayTime) (crc : Nat) :
    recordPageFields id own rate b first crc = headFields id own rate b first ++ ([(1, 0xFF), (1, 0xFF)] : Fields) ++
      List.replicate 8 (1, 0) ++ ([(2, crc)] : Fields) ++
      b.sets.flatMap (fun x => wordFields x.words.z ++ wordFields x.words.n ++ wordFields x.words.e) := by
  simp only [recordPageFields, headFields, pageFlags, List.append_assoc, List.cons_append, List.nil_append]

theorem recordPageBytes_eq_fields (id own rate : Nat) {b : PageBuffer} {x : SampleSet} {rest : List SampleSet}
    (hb : b.sets = x :: rest) (h : closesFinal b) : recordPageBytes id own rate b =
      (recordPageFields id own rate b x.stamp (crc16 (recordCovered id own rate b))).flatMap fieldBytes := by
  have hmarks : fieldBytes (1, 0xFF) = [erasedByte] := by decide
  have hzeros : (List.replicate 8 ((1, 0) : Nat × Int)).flatMap fieldBytes = List.replicate 8 0 := by decide
  rw [recordPageFields_eq, recordPageBytes_eq, headerHead_eq_fields id own rate hb h, setsBytes_eq_fields]
  simp only [List.flatMap_append, List.flatMap_cons, hmarks, hzeros, fieldBytes_nat,
    crcBytes, List.append_assoc, List.cons_append, List.nil_append]

/-- The CRC covers the header without its mark bytes and itself, and the sets (R125). -/
theorem recordPage_crcCovers (id own rate : Nat) (b : PageBuffer) {bs : List Byte} (h : bs = recordPageBytes id own rate b) :
    bs.take 20 ++ (bs.drop 22).take 8 ++ bs.drop 32 = recordCovered id own rate b := by
  have hparts := recordPage_parts id own rate b [] (bs := bs) (by rw [List.append_nil]; exact h)
  obtain ⟨h20, -, h22, -, h32⟩ := hparts
  rw [h20, h22, h32, List.append_nil, recordCovered]

/-! ### What the scan reads of a record page (R146) -/

theorem headerHead_fields (id own rate : Nat) (b : PageBuffer) :
    headerField (headerHead id own rate b) 0 1 = 0x52 ∧ headerField (headerHead id own rate b) 1 4 = id % 256 ^ 4 ∧
      headerField (headerHead id own rate b) 5 2 = b.idx % 256 ^ 2 ∧
      headerField (headerHead id own rate b) 14 1 = b.sets.length % 256 ^ 1 ∧
      headerField (headerHead id own rate b) 16 1 = rate % 256 ^ 1 :=
  ⟨rfl, headerField_number (k := 4) rfl, headerField_number (k := 2) rfl, headerField_number (k := 1) rfl,
    headerField_number (k := 1) rfl⟩

/-- The time of first set in a record page's header. -/
theorem headerHead_first (id own rate : Nat) {b : PageBuffer} {x : SampleSet} {rest : List SampleSet}
    (hb : b.sets = x :: rest) (h : closesFinal b) :
    headerField (headerHead id own rate b) 7 4 = x.stamp.sec % 256 ^ 4 ∧
      headerField (headerHead id own rate b) 11 3 = x.stamp.us % 256 ^ 3 := by
  rw [headerHead_eq id own rate hb h]
  exact ⟨headerField_number (k := 4) rfl, headerField_number (k := 3) rfl⟩

/-- The flags of a record page's header: the final flag, and the end cause of a final page. -/
theorem headerHead_flags (id own rate : Nat) {b : PageBuffer} {x : SampleSet} {rest : List SampleSet}
    (hb : b.sets = x :: rest) (h : closesFinal b) :
    (headerField (headerHead id own rate b) 19 1 / 2 % 2 == 1) = b.final.isSome ∧
      endCauseOf (headerField (headerHead id own rate b) 19 1 / 16 % 4) = b.final.getD .normal := by
  have hbyte : ((headerHead id own rate b).drop 19).take 1 = beBytes 1 (pageFlags b) := by
    rw [headerHead_eq id own rate hb h]
    rfl
  rw [headerField_number hbyte, pageFlags]
  cases hf : b.final with
  | none => cases b.stepped <;> exact ⟨rfl, rfl⟩
  | some c =>
    obtain ⟨hcut, htorn⟩ := h c hf
    cases c with
    | normal | full | power | overrun => cases b.stepped <;> exact ⟨rfl, rfl⟩
    | cut => exact absurd rfl hcut
    | torn => exact absurd rfl htorn

/-- A record page's bytes, with erased bytes behind them, are those of a valid page (R146). -/
theorem recordPage_valid (page id own rate : Nat) {b : PageBuffer} {x : SampleSet} {rest : List SampleSet}
    (hb : b.sets = x :: rest) (hl : rest.length ≤ 167) (hidx : b.idx ≤ 503) (hid : id < 4294967296) (hrate : rate ≤ 2)
    (hsec : x.stamp.sec < 4294967296) (hus : x.stamp.us < 16777216) (h : closesFinal b) :
    pageClass page (padded (recordPageBytes id own rate b)) = .valid
      { page := page, id := id, idx := b.idx, first := x.stamp, count := rest.length + 1, rate := rate
        final := b.final.isSome, cause := b.final.getD .normal, hold := .loose } := by
  have hcount : b.sets.length = rest.length + 1 := by rw [hb]; rfl
  have hfield : ∀ {off n : Nat}, off + n ≤ 20 → headerField ((padded (recordPageBytes id own rate b)).take 32) off n =
      headerField (headerHead id own rate b) off n := fun hoff => by
    rw [headerField_take _ (by omega), padded, recordPage_field _ _ _ _ _ hoff]
  obtain ⟨hkind, hrec, hix, hsets, hcode⟩ := headerHead_fields id own rate b
  obtain ⟨hs, hu⟩ := headerHead_first id own rate hb h
  obtain ⟨hfinal, hcause⟩ := headerHead_flags id own rate hb h
  obtain ⟨-, hmarks, -⟩ := recordPage_parts id own rate b (List.replicate (2048 - (recordPageBytes id own rate b).length)
    erasedByte) (bs := padded (recordPageBytes id own rate b)) rfl
  have hcrc : pageCrc (padded (recordPageBytes id own rate b)) = true := recordPage_pageCrc id own rate (by omega) _
  have hgood : headerGood ((padded (recordPageBytes id own rate b)).take 32) = true := by
    rw [headerGood, hfield (by omega), hfield (by omega), hfield (by omega), hfield (by omega), hkind, hsets, hix, hcode,
      hcount]
    simp only [Bool.and_eq_true, decide_eq_true_eq, beq_self_eq_true, true_and]
    omega
  have hempty : (padded (recordPageBytes id own rate b)).all (fun b => b == erasedByte) = false :=
    not_erased_of_first (recordPage_first id own rate b _)
  have hmark : ∀ i, i < 2 → ((padded (recordPageBytes id own rate b)).take 32).getD (20 + i) 0 = erasedByte := by
    intro i hi
    rw [List.getD_eq_getElem?_getD, List.getElem?_take_of_lt (by omega), ← List.getElem?_drop,
      ← List.getElem?_take_of_lt hi, hmarks]
    interval_cases i <;> rfl
  have htime : parseTime (((padded (recordPageBytes id own rate b)).take 32).drop 7) = x.stamp := by
    have hparse : ∀ bs : List Byte, parseTime (bs.drop 7) = ⟨headerField bs 7 4, headerField bs 11 3⟩ := fun bs => by
      rw [parseTime, List.drop_drop]
      rfl
    rw [hparse, hfield (by omega), hfield (by omega), hs, hu, Nat.mod_eq_of_lt (by omega), Nat.mod_eq_of_lt (by omega)]
  have hheader : parseHeader page ((padded (recordPageBytes id own rate b)).take 32) =
      { page := page, id := id, idx := b.idx, first := x.stamp, count := rest.length + 1, rate := rate
        final := b.final.isSome, cause := b.final.getD .normal, hold := .loose } := by
    rw [parseHeader, hfield (by omega), hfield (by omega), hfield (by omega), hfield (by omega), hfield (by omega),
      hrec, hix, hsets, hcode, hfinal, hcause, hcount, htime, hmark 0 (by omega), hmark 1 (by omega),
      Nat.mod_eq_of_lt (by omega), Nat.mod_eq_of_lt (by omega), Nat.mod_eq_of_lt (by omega), Nat.mod_eq_of_lt (by omega)]
    rfl
  simp only [pageClass, hempty, hgood, hcrc, hheader, Bool.false_eq_true, if_false, Bool.and_self, if_true]

end Sys2Proof.Machine

namespace Sys2Proof.Proofs

open Sys2Proof.Machine

/-- Settles O19, by the fields of a record page. -/
theorem recordPageScansBack : Obligations.RecordPageScansBack := by
  constructor
  · intro id own rate b x rest bs hb hf hbs
    rw [recordPage_crcCovers id own rate b hbs, hbs, recordPageBytes_eq_fields id own rate hb hf]
    exact fieldsStand_flatMap _
  · intro m page id own rate b x rest h he hb hl hidx hid hrate hsec hus hf
    have hlen : (recordPageBytes id own rate b).length ≤ 2048 := by
      rw [recordPageBytes_length, hb, List.length_cons]
      omega
    have hbytes : pageBytes (memProgram m (pageBase page) (recordPageBytes id own rate b)) page =
        padded (recordPageBytes id own rate b) := by
      rw [← pageBytes_written h he hlen]
      refine memProgram_erased h (fun i hi => he _ ?_ ?_) _
      · exact Nat.le_add_right _ _
      · unfold pageBase pageSize
        omega
    change scanPage (memProgram m (pageBase page) (recordPageBytes id own rate b)) page = _
    rw [scanPage_eq (memProgram_wf h _ _), hbytes]
    exact recordPage_valid page id own rate hb hl hidx hid hrate hsec hus hf

end Sys2Proof.Proofs
/-! SUPPORT. What a cut operation leaves (R149, R167): a pool page torn or erased, and a care page or slot whose check fails. -/

namespace Sys2Proof.Machine

/-! ### Care pages and slots (R167) -/

/-- The check of 32 bytes of a care page: the CRC of the first 30 in the last two (R167). -/
def careCrc (bs : List Byte) : Bool := ofBytes (bs.drop 30) == crc16 (bs.take 30)

theorem careCrc_written (body : List Byte) (hl : body.length = 30) : careCrc (body ++ crcBytes body) = true := by
  rw [careCrc, List.drop_left' hl, List.take_left' hl, crcBytes, ofBytes_beBytes, beq_iff_eq]
  exact Nat.mod_eq_of_lt (crc16_lt _)

/-- A good check fails once its lowest bit is turned over. -/
theorem careCrc_spoiled {bs : List Byte} (hl : bs.length = 32) (h : careCrc bs = true) : careCrc (spoilByte bs 31) = false := by
  have hne := headerField_spoiled (bs := bs) (by omega)
  rw [headerField, headerField, List.take_of_length_le (by rw [List.length_drop, spoilByte_length, hl]),
    List.take_of_length_le (by rw [List.length_drop, hl])] at hne
  rw [careCrc, beq_iff_eq] at h
  have htake : (spoilByte bs 31).take 30 = bs.take 30 := List.take_set_of_le (by omega)
  rw [careCrc, htake, ← h, beq_eq_false_iff_ne]
  exact hne

theorem careReadable_crc {cells : Memory} {page : Nat} (h : careReadable cells page = true) :
    careCrc (memRange cells (pageBase page) 32) = true := by
  unfold careReadable at h
  exact (Bool.and_eq_true_iff.1 h).2

theorem slotValid_crc {bs : List Byte} (h : slotValid bs = true) : careCrc bs = true := by
  unfold slotValid at h
  exact (Bool.and_eq_true_iff.1 (Bool.and_eq_true_iff.1 h).1).2

/-- Whether a care page is readable is a matter of its first 32 bytes. -/
theorem careReadable_congr {m m' : Memory} {page : Nat}
    (h : memRange m (pageBase page) 32 = memRange m' (pageBase page) 32) : careReadable m page = careReadable m' page := by
  simp only [careReadable, h]

theorem careHeader_length (page : Nat) : (careHeader page).length = 32 := rfl

theorem snapshotBytes_length (x : Snapshot) : (snapshotBytes x).length = 32 := by
  simp [snapshotBytes, timeBytes, crcBytes]

theorem careHeader_crc (page : Nat) : careCrc (careHeader page) = true := careCrc_written _ rfl

theorem snapshotBytes_crc (x : Snapshot) : careCrc (snapshotBytes x) = true :=
  careCrc_written _ (by simp [timeBytes])

/-- The flag byte of a snapshot is never erased. -/
theorem snapshotBytes_flag (x : Snapshot) : ∃ b, (snapshotBytes x)[23]? = some b ∧ b ≠ erasedByte := by
  refine ⟨byteOf (flagBits [x.below]), by simp [snapshotBytes, timeBytes, List.getElem?_append], ?_⟩
  cases x.below <;> decide

/-! ### A range within a page, in the page's own cells -/

theorem memRange_pageCells (m : Memory) (page : Nat) {off n : Nat} (h : off + n ≤ 2048) :
    memRange (pageCells m page) (pageBase page + off) n = memRange m (pageBase page + off) n :=
  memRange_congr fun b h1 h2 => memRead_pageCells (by omega) (by unfold pageSize; omega)

theorem partWay_length (k : Nat) (bs : List Byte) : (partWay k bs).length = bs.length := List.length_mapIdx

/-! ### What is left -/

/-- A pool page's ERASE that is cut short (R149). -/
theorem cutErase_class {m : Memory} (h : Memory.wf m) (k page : Nat) :
    scanPage (cutErase m k page) page = .torn ∨ scanPage (cutErase m k page) page = .erased := by
  have hpart : (partWay k (pageBytes m page)).length = 2048 := by rw [partWay_length, pageBytes_length]
  have hwritten : ∀ {bs : List Byte}, bs.length = 2048 → scanPage (memWriteList m (pageBase page) bs) page =
      pageClass page bs := fun {bs} hl => by
    rw [scanPage_eq (memWriteList_wf h _ _), pageBytes, show pageSize = bs.length from hl.symm, memRange_written h]
  have hpadded : padded (partWay k (pageBytes m page)) = partWay k (pageBytes m page) := by
    rw [padded, hpart]
    exact List.append_nil _
  have hvalid := pageValid_padded (page := page) hpart.le
  rw [hpadded] at hvalid
  unfold cutErase
  dsimp only
  split
  next hv =>
    obtain ⟨x, hx⟩ := hvalid.1 hv
    rw [hwritten (by rw [spoilByte_length, hpart])]
    exact pageClass_spoiled (by omega) (pageClass_valid hx)
  next hv =>
    rw [hwritten hpart]
    cases hclass : pageClass page (partWay k (pageBytes m page)) with
    | torn => exact .inl rfl
    | erased => exact .inr rfl
    | valid x => exact absurd (hvalid.2 ⟨x, hclass⟩) hv

/-- A care page's ERASE that is cut short: the bytes that stood as 1 still do (R167). -/
theorem cutCareErase_bits {m : Memory} (h : Memory.wf m) (k page : Nat) {a : Nat} (h1 : page * 2048 ≤ a)
    (h2 : a < page * 2048 + 2048) :
    memRead (cutCareErase m k page) a ||| memRead m a = memRead (cutCareErase m k page) a := by
  obtain ⟨i, rfl⟩ := Nat.exists_eq_add_of_le h1
  have hi : i < (partWay k (pageBytes m page)).length := by
    rw [partWay_length, pageBytes_length]
    omega
  have hread : memRead (cutCareErase m k page) (page * 2048 + i) =
      memRead m (page * 2048 + i) ||| Config.partWrittenByte (k + i) := by
    rw [cutCareErase]
    exact (memRead_writeList_at h (pageBase page) _ hi).trans (by simp [partWay, pageBytes, memRange_getElem, pageBase, pageSize])
  rw [hread, BitVec.or_comm, ← BitVec.or_assoc, BitVec.or_self]

theorem memRange_written_take {m : Memory} (h : Memory.wf m) (a : Nat) {bs : List Byte} (hl : 32 ≤ bs.length) :
    memRange (memWriteList m a bs) a 32 = bs.take 32 := by
  have hwithin := memRange_within (memWriteList m a bs) a (j := 0) (k := 32) (n := bs.length) (by omega)
  rwa [Nat.add_zero, List.drop_zero, memRange_written h] at hwithin

/-- Whether a care page whose first bytes have been written is readable. -/
theorem careReadable_written {m : Memory} (h : Memory.wf m) (page : Nat) {bs : List Byte} (hl : 32 ≤ bs.length) :
    careReadable (pageCells (memWriteList m (pageBase page) bs) page) page =
      careReadable (memWriteList [] (pageBase page) (bs.take 32)) page := by
  have hhead : (bs.take 32).length = 32 := by rw [List.length_take]; omega
  have hcells := memRange_pageCells (memWriteList m (pageBase page) bs) page (off := 0) (n := 32) (by omega)
  rw [Nat.add_zero] at hcells
  refine careReadable_congr ?_
  rw [hcells, memRange_written_take h _ hl, memRange_written_take memWf_nil _ hhead.ge, List.take_take]
  rfl

theorem spoilByte_take (bs : List Byte) : (spoilByte bs 31).take 32 = spoilByte (bs.take 32) 31 := by
  rw [spoilByte, spoilByte, List.take_set, List.getD_eq_getElem?_getD, List.getD_eq_getElem?_getD,
    List.getElem?_take_of_lt (by omega)]

/-- A care page's header whose PROGRAM is cut short is not readable (R167). -/
theorem cutCareProgram_header {m : Memory} (h : Memory.wf m) (k page : Nat) (x : Snapshot) :
    careReadable (pageCells (cutCareProgram m k page 0 (careHeader page ++ snapshotBytes x)) page) page = false := by
  have hlen : (careHeader page ++ snapshotBytes x).length = 64 := by
    rw [List.length_append, careHeader_length, snapshotBytes_length]
  have hpart : (partWay k (careHeader page ++ snapshotBytes x)).length = 64 := by rw [partWay_length, hlen]
  have hpasses : carePasses page (partWay k (careHeader page ++ snapshotBytes x)) = careReadable (memWriteList []
      (pageBase page) ((partWay k (careHeader page ++ snapshotBytes x)).take 32)) page := by
    rw [carePasses, if_pos (by omega)]
  unfold cutCareProgram
  rw [Nat.add_zero]
  dsimp only
  split
  · rw [careReadable_written h page (by rw [spoilByte_length, hlen]; omega), spoilByte_take,
      List.take_left' (careHeader_length page), Bool.eq_false_iff]
    intro hgood
    have hcrc := careReadable_crc hgood
    rw [memRange_written_take memWf_nil _ (by rw [spoilByte_length, careHeader_length]),
      List.take_of_length_le (by rw [spoilByte_length, careHeader_length]),
      careCrc_spoiled (careHeader_length page) (careHeader_crc page)] at hcrc
    cases hcrc
  next hno => rw [careReadable_written h page (by omega), ← hpasses, Bool.eq_false_iff.2 hno]

/-- Bytes written into a slot that are no valid snapshot, and not all erased. -/
theorem slotSnapshot_written {m : Memory} (h : Memory.wf m) (page : Nat) {slot : Nat} (hs : slot < 63) {bs : List Byte}
    (hl : bs.length = 32) (hv : slotValid bs = false) {i : Nat} {b : Byte} (hb : bs[i]? = some b) (hne : b ≠ erasedByte) :
    slotSnapshot (pageCells (memWriteList m (pageBase page + (32 + 32 * slot)) bs) page) page slot = none ∧
      ∃ i < 32, memRead (memWriteList m (pageBase page + (32 + 32 * slot)) bs) (page * 2048 + (32 + 32 * slot) + i) ≠
        erasedByte := by
  obtain ⟨hi, rfl⟩ := List.getElem?_eq_some_iff.1 hb
  constructor
  · have hslot : memRange (pageCells (memWriteList m (pageBase page + (32 + 32 * slot)) bs) page)
        (pageBase page + 32 + 32 * slot) 32 = bs := by
      rw [Nat.add_assoc, memRange_pageCells _ _ (by omega), ← hl, memRange_written h]
    simp only [slotSnapshot, hslot, hv, Bool.false_eq_true, if_false]
  · exact ⟨i, by omega, (memRead_writeList_at h (pageBase page + (32 + 32 * slot)) bs hi).trans_ne hne⟩

/-- A slot whose PROGRAM is cut short holds no valid snapshot, and is not empty (R167). -/
theorem cutCareProgram_slot {m : Memory} (h : Memory.wf m) (k page : Nat) {slot : Nat} (hs : slot < 63) (x : Snapshot) :
    slotSnapshot (pageCells (cutCareProgram m k page (32 + 32 * slot) (snapshotBytes x)) page) page slot = none ∧
      ∃ i < 32, memRead (cutCareProgram m k page (32 + 32 * slot) (snapshotBytes x)) (page * 2048 + (32 + 32 * slot) + i) ≠
        erasedByte := by
  have hlen := snapshotBytes_length x
  have hpart : (partWay k (snapshotBytes x)).length = 32 := by rw [partWay_length, hlen]
  have hpasses : carePasses page (partWay k (snapshotBytes x)) = (slotValid (partWay k (snapshotBytes x)) ||
      (partWay k (snapshotBytes x)).all (fun b => b == erasedByte)) := by
    rw [carePasses, if_neg (by omega)]
  unfold cutCareProgram
  dsimp only
  split
  · have hv : slotValid (spoilByte (snapshotBytes x) 31) = false := Bool.eq_false_iff.2 fun hv => by
      have hcrc := slotValid_crc hv
      rw [careCrc_spoiled hlen (snapshotBytes_crc x)] at hcrc
      cases hcrc
    obtain ⟨b, hb, hne⟩ := snapshotBytes_flag x
    exact slotSnapshot_written h page hs (by rw [spoilByte_length, hlen]) hv (i := 23) (b := b)
      (by rw [spoilByte, List.getElem?_set_ne (by omega), hb]) hne
  next hno =>
    rw [hpasses, Bool.or_eq_true, not_or, Bool.not_eq_true, Bool.not_eq_true, List.all_eq_false] at hno
    obtain ⟨hv, b, hb, hne⟩ := hno
    obtain ⟨i, hi⟩ := List.mem_iff_getElem?.1 hb
    exact slotSnapshot_written h page hs hpart hv hi (by simpa using hne)

/-- A MARK that is cut short leaves a byte that counts as programmed (R146, R149). -/
theorem cutMark_read {m : Memory} (h : Memory.wf m) (k : Nat) (r : MarkReq) :
    memRead (cutMark m k r) (markAddress r) ≠ erasedByte ∧
      ∀ a, a ≠ markAddress r → memRead (cutMark m k r) a = memRead m a := by
  refine ⟨?_, fun a ha => memRead_write_other ha _⟩
  rw [cutMark, memRead_write_same h]
  split
  · decide
  · assumption

theorem cutFlight_cutAs {m : Memory} (h : Memory.wf m) (k : Nat) (o : EngineOp) : cutAs m o (cutFlight m k o) := by
  cases o with
  | careErase p => exact fun a h1 h2 => cutCareErase_bits h k p h1 h2
  | aheadErase p => exact cutErase_class h k p
  | wipeErase p => exact cutErase_class h k p
  | careProgram p off bytes =>
    constructor
    · rintro x rfl rfl
      exact cutCareProgram_header h k p x
    · rintro slot x hs rfl rfl
      exact cutCareProgram_slot h k p hs x
  | recordProgram p bytes => trivial
  | mark r => exact cutMark_read h k r

/-! ### What is left alone -/

theorem outsidePage_base {page a : Nat} (h : outsidePage page a) : a < pageBase page ∨ pageBase page + 2048 ≤ a := h

/-- Bytes written within a page leave every other page alone. -/
theorem memRead_writeList_outside (m : Memory) {page off a : Nat} {bs : List Byte} (hl : off + bs.length ≤ 2048)
    (h : outsidePage page a) : memRead (memWriteList m (pageBase page + off) bs) a = memRead m a := by
  obtain h | h := outsidePage_base h
  · exact memRead_writeList_before (h.trans_le (Nat.le_add_right _ _)) bs
  · exact memRead_writeList_after bs (by omega)

/-- The same for bytes from the page's first one on. -/
theorem memRead_writePage_outside (m : Memory) {page a : Nat} {bs : List Byte} (hl : bs.length ≤ 2048)
    (h : outsidePage page a) : memRead (memWriteList m (pageBase page) bs) a = memRead m a := by
  have hread := memRead_writeList_outside m (off := 0) (by rwa [Nat.zero_add]) h
  rwa [Nat.add_zero] at hread

theorem memRead_program_outside (m : Memory) {page off a : Nat} {bs : List Byte} (hl : off + bs.length ≤ 2048)
    (h : outsidePage page a) : memRead (memProgram m (pageBase page + off) bs) a = memRead m a := by
  obtain h | h := outsidePage_base h
  · exact memRead_program_before (h.trans_le (Nat.le_add_right _ _)) bs
  · exact memRead_program_after bs (by omega)

theorem memRead_programPage_outside (m : Memory) {page a : Nat} {bs : List Byte} (hl : bs.length ≤ 2048)
    (h : outsidePage page a) : memRead (memProgram m (pageBase page) bs) a = memRead m a := by
  have hread := memRead_program_outside m (off := 0) (by rwa [Nat.zero_add]) h
  rwa [Nat.add_zero] at hread

theorem memRead_erase_outsidePage (m : Memory) {page a : Nat} (h : outsidePage page a) :
    memRead (memErase m page) a = memRead m a := by
  exact memRead_erase_outside (outsidePage_base h)

theorem markAddress_ne_of_outside {r : MarkReq} {a : Nat} (hr : r.which ≤ 1) (h : outsidePage r.page a) :
    a ≠ markAddress r := by
  rw [markAddress_eq]
  unfold outsidePage at h
  omega

theorem completeFlight_outside {m : Memory} {o : EngineOp} (hf : opFits o) {a : Nat} (h : outsidePage o.page a) :
    memRead (completeFlight m o) a = memRead m a := by
  cases o with
  | careErase p | aheadErase p | wipeErase p =>
    rw [completeFlight]
    exact memRead_erase_outsidePage m h
  | careProgram p off bytes =>
    rw [completeFlight]
    exact memRead_program_outside m hf h
  | recordProgram p bytes =>
    rw [completeFlight]
    exact memRead_programPage_outside m hf h
  | mark r =>
    rw [completeFlight, memProgram, memProgram]
    exact memRead_write_other (markAddress_ne_of_outside hf h) _

theorem cutFlight_outside {m : Memory} (k : Nat) {o : EngineOp} (hf : opFits o) {a : Nat} (h : outsidePage o.page a) :
    memRead (cutFlight m k o) a = memRead m a := by
  have hpage : ∀ p, (partWay k (pageBytes m p)).length = 2048 := fun p => by rw [partWay_length, pageBytes_length]
  cases o with
  | careErase p =>
    rw [cutFlight, cutCareErase]
    exact memRead_writePage_outside m (hpage p).le h
  | aheadErase p | wipeErase p =>
    rw [cutFlight, cutErase]
    refine memRead_writePage_outside m ?_ h
    rw [apply_ite List.length, spoilByte_length, ite_self, hpage p]
  | careProgram p off bytes =>
    rw [cutFlight, cutCareProgram]
    refine memRead_writeList_outside m ?_ h
    rw [apply_ite List.length, spoilByte_length, partWay_length, ite_self]
    exact hf
  | recordProgram p bytes =>
    rw [cutFlight, cutProgram]
    refine memRead_writePage_outside m ?_ h
    rw [apply_ite List.length, spoilByte_length, partWay_length, ite_self]
    exact hf
  | mark r =>
    rw [cutFlight, cutMark]
    exact memRead_write_other (markAddress_ne_of_outside hf h) _

theorem completeFlight_completedAs (m : Memory) (o : EngineOp) : completedAs m o (completeFlight m o) := by
  cases o <;> rfl

end Sys2Proof.Machine

namespace Sys2Proof.Proofs

open Sys2Proof.Machine

/-- Settles O13, by the operation in flight. -/
theorem brownOutStopsThePart : Obligations.BrownOutStopsThePart := by
  intro s a hphase
  have hexec : exec (.brownOut a) s = .next (stopPart s a) := by
    change doWhen (s.phase != .brownOut) s (fun s => stopPart s a) = _
    rw [bne_iff_ne.2 hphase]
    rfl
  refine ⟨_, hexec, rfl, rfl, rfl, rfl, rfl, rfl, rfl, rfl, rfl, rfl, rfl, rfl, rfl, rfl, fun hf => ?_, fun o hf => ?_⟩
  · change brownOutMem s a = s.mem
    rw [brownOutMem, hf]
  · have hmem : (stopPart s a).mem = if a then completeFlight s.mem o else cutFlight s.mem s.freeCount o := by
      change brownOutMem s a = _
      rw [brownOutMem, hf]
    rw [hmem]
    cases a with
    | true =>
      exact ⟨fun _ => completeFlight_completedAs _ _, fun h => (by cases h), fun hfit _ h => completeFlight_outside hfit h⟩
    | false => exact ⟨fun h => (by cases h), fun _ h => cutFlight_cutAs h _ _, fun hfit _ h => cutFlight_outside _ hfit h⟩

end Sys2Proof.Proofs
/-! SUPPORT. The pages that the start-up scan finds (R146, R147): the valid ones, those kept for a record, and the torn ones. -/

namespace Sys2Proof.Machine

/-! ### Lists without repetition -/

/-- Two lists without repetition that hold the same are equally long. -/
theorem length_eq_of_nodup {α : Type} {l k : List α} (hl : l.Nodup) (hk : k.Nodup) (h : ∀ x, x ∈ l ↔ x ∈ k) :
    l.length = k.length :=
  ((List.perm_ext_iff_of_nodup hl hk).2 h).length_eq

theorem length_le_of_nodup {α : Type} {l k : List α} (hl : l.Nodup) (h : ∀ x ∈ l, x ∈ k) : l.length ≤ k.length :=
  (List.subperm_of_subset hl h).length_le

/-- What a list holds beyond another one. -/
theorem length_filter_not_mem {α : Type} [DecidableEq α] {l k : List α} (hl : l.Nodup) (hk : k.Nodup)
    (h : ∀ x ∈ k, x ∈ l) : (l.filter (fun x => decide (x ∉ k))).length = l.length - k.length := by
  have hin : (l.filter (fun x => decide (x ∈ k))).length = k.length :=
    length_eq_of_nodup (hl.filter _) hk fun x => by
      simp only [List.mem_filter, decide_eq_true_eq]
      exact ⟨fun hx => hx.2, fun hx => ⟨h x hx, hx⟩⟩
  have hsum := List.length_eq_length_filter_add (l := l) (fun x => decide (x ∈ k))
  simp only [decide_not]
  omega

/-- In an ascending list, the members beyond a place are those that lie above its member. -/
theorem mem_drop_of_ascending {l : List Nat} (h : l.Pairwise (fun a b => a < b)) {a : Nat} (ha : a ∈ l) (n : Nat) :
    a ∈ l.drop (l.length - (n + 1)) ↔
      ∀ ids : List Nat, ids.Nodup → (∀ x ∈ ids, a < x ∧ x ∈ l) → ids.length ≤ n := by
  obtain ⟨low, high, rfl⟩ := List.append_of_mem ha
  obtain ⟨-, hhigh, hlow⟩ := List.pairwise_append.1 h
  obtain ⟨habove, horder⟩ := List.pairwise_cons.1 hhigh
  have hmem : ∀ x, a < x → x ∈ low ++ a :: high → x ∈ high := fun x hx hin => by
    rcases List.mem_append.1 hin with hin | hin
    · exact absurd hx (Nat.not_lt.2 (hlow x hin a List.mem_cons_self).le)
    · rcases List.mem_cons.1 hin with rfl | hin
      · exact absurd hx (Nat.lt_irrefl _)
      · exact hin
  have hlen : (low ++ a :: high).length - (n + 1) = low.length + high.length - n := by
    rw [List.length_append, List.length_cons]
    omega
  rw [hlen]
  constructor
  · intro hdrop ids hids hall
    have hle : ids.length ≤ high.length := length_le_of_nodup hids fun x hx => hmem x (hall x hx).1 (hall x hx).2
    by_contra hlong
    have hk : low.length + high.length - n = low.length + 1 + (high.length - n - 1) := by omega
    rw [hk, ← List.drop_drop, ← List.drop_drop, List.drop_left] at hdrop
    exact Nat.lt_irrefl a (habove a (List.mem_of_mem_drop hdrop))
  · intro hall
    have hle := hall high (horder.imp fun h => h.ne) fun x hx => ⟨habove x hx, by simp [hx]⟩
    rw [List.drop_append_of_le_length (by omega)]
    simp

/-! ### The pool pages (R123) -/

theorem mem_poolList (p : Nat) : p ∈ poolList ↔ poolPage p := by
  simp [poolList, poolPage, pageCount]

theorem poolList_order : poolList.Pairwise (fun a b => a < b) := List.pairwise_lt_range.filter _

/-- The pool page after another one (R147; log entry 22). -/
theorem nextPool_iff {q : Nat} (hq : poolPage q) (p : Nat) : nextPool q p ↔ p = poolAfter q := by
  obtain ⟨hlt, hcare⟩ := hq
  simp only [isCarePage, Bool.or_eq_false_iff, Bool.and_eq_false_iff, decide_eq_false_iff_not] at hcare
  unfold nextPool poolAfter
  split_ifs <;> omega

/-! ### Valid and torn pages (R146) -/

theorem scanPage_valid {m : Memory} {p : Nat} {h : PageHeader} (hv : scanPage m p = .valid h) :
    h.page = p ∧ h.idx ≤ 503 := by
  unfold scanPage at hv
  dsimp only at hv
  split at hv
  · cases hv
  · split at hv
    next hgood =>
      cases hv
      refine ⟨rfl, ?_⟩
      simp only [headerGood, Bool.and_eq_true, decide_eq_true_eq] at hgood
      exact hgood.1.1.2
    · cases hv

/-- The header of a valid page. -/
def headerAt (m : Memory) (p : Nat) : Option PageHeader :=
  match scanPage m p with
  | .valid h => some h
  | _ => none

theorem headerAt_eq_some {m : Memory} {p : Nat} {h : PageHeader} : headerAt m p = some h ↔ scanPage m p = .valid h := by
  unfold headerAt
  cases scanPage m p <;> simp

theorem validHeaders_eq (m : Memory) : validHeaders (scanAll m) = poolList.filterMap (headerAt m) := by
  unfold validHeaders scanAll
  rw [List.filterMap_map]
  rfl

/-- A page that holds a valid header of its own number. -/
def validPage (m : Memory) (h : PageHeader) : Prop := poolPage h.page ∧ scanPage m h.page = .valid h

theorem mem_validHeaders (m : Memory) (h : PageHeader) : h ∈ validHeaders (scanAll m) ↔ validPage m h := by
  rw [validHeaders_eq, List.mem_filterMap]
  constructor
  · rintro ⟨p, hp, hv⟩
    have hscan := headerAt_eq_some.1 hv
    obtain ⟨rfl, -⟩ := scanPage_valid hscan
    exact ⟨(mem_poolList _).1 hp, hscan⟩
  · rintro ⟨hp, hv⟩
    exact ⟨h.page, (mem_poolList _).2 hp, headerAt_eq_some.2 hv⟩

theorem validHeaders_order (m : Memory) : (validHeaders (scanAll m)).Pairwise (fun a b => a.page < b.page) := by
  have hnames := filterMap_names (headerAt m) PageHeader.page
    (fun p h hh => (scanPage_valid (headerAt_eq_some.1 hh)).1) poolList
  rw [validHeaders_eq]
  exact List.pairwise_map.1 (poolList_order.sublist hnames)

theorem mem_tornPages (m : Memory) (p : Nat) : p ∈ tornPages (scanAll m) ↔ poolPage p ∧ scanPage m p = .torn := by
  simp only [tornPages, scanAll, List.mem_map, List.mem_filter, beq_iff_eq, Prod.exists, Prod.mk.injEq]
  constructor
  · rintro ⟨q, c, ⟨⟨r, hr, rfl, rfl⟩, hc⟩, rfl⟩
    exact ⟨(mem_poolList _).1 hr, hc⟩
  · rintro ⟨hp, hc⟩
    exact ⟨p, .torn, ⟨⟨p, (mem_poolList p).2 hp, rfl, hc⟩, rfl⟩, rfl⟩

theorem tornPages_nodup (m : Memory) : (tornPages (scanAll m)).Nodup := by
  have hsub : (tornPages (scanAll m)).Sublist poolList := by
    have hfst : (scanAll m).map Prod.fst = poolList := by
      rw [scanAll, List.map_map]
      exact List.map_id _
    rw [← hfst]
    exact List.filter_sublist.map _
  exact (poolList_order.imp fun h => h.ne).sublist hsub

/-! ### The pages kept for a record (R147) -/

/-- Two pages with one identifier and page index. -/
def doubles (x h : PageHeader) : Prop := x.id = h.id ∧ x.idx = h.idx

/-- What the scan keeps of valid pages in ascending order: of doubles the first, and none of what it has seen. -/
theorem mem_dropDoubles {hs : List PageHeader} (horder : hs.Pairwise (fun a b => a.page < b.page)) (seen : List PageHeader)
    (h : PageHeader) : h ∈ dropDoubles seen hs ↔
      h ∈ hs ∧ (∀ x ∈ seen, ¬doubles x h) ∧ ∀ x ∈ hs, doubles x h → h.page ≤ x.page := by
  induction hs generalizing seen with
  | nil => simp [dropDoubles]
  | cons y rest ih =>
    obtain ⟨hy, hrest⟩ := List.pairwise_cons.1 horder
    have hany : seen.any (fun x => x.id == y.id && x.idx == y.idx) = true ↔ ∃ x ∈ seen, doubles x y := by
      simp [doubles]
    unfold dropDoubles
    by_cases hseen : ∃ x ∈ seen, doubles x y
    · obtain ⟨z, hz, hzy⟩ := id hseen
      rw [if_pos (hany.2 hseen), ih hrest]
      constructor
      · rintro ⟨hin, hno, hle⟩
        refine ⟨List.mem_cons_of_mem _ hin, hno, fun x hx hd => ?_⟩
        rcases List.mem_cons.1 hx with rfl | hx
        · exact absurd ⟨hzy.1.trans hd.1, hzy.2.trans hd.2⟩ (hno z hz)
        · exact hle x hx hd
      · rintro ⟨hin, hno, hle⟩
        refine ⟨?_, hno, fun x hx => hle x (List.mem_cons_of_mem _ hx)⟩
        rcases List.mem_cons.1 hin with rfl | hin
        · exact absurd hzy (hno z hz)
        · exact hin
    · rw [if_neg (mt hany.1 hseen), List.mem_cons, ih hrest]
      constructor
      · rintro (rfl | ⟨hin, hno, hle⟩)
        · refine ⟨List.mem_cons_self, fun x hx hd => hseen ⟨x, hx, hd⟩, fun x hx _ => ?_⟩
          rcases List.mem_cons.1 hx with rfl | hx
          · exact le_rfl
          · exact (hy x hx).le
        · refine ⟨List.mem_cons_of_mem _ hin, fun x hx => hno x (List.mem_cons_of_mem _ hx), fun x hx hd => ?_⟩
          rcases List.mem_cons.1 hx with rfl | hx
          · exact absurd hd (hno _ List.mem_cons_self)
          · exact hle x hx hd
      · rintro ⟨hin, hno, hle⟩
        rcases List.mem_cons.1 hin with rfl | hrest'
        · exact .inl rfl
        · refine .inr ⟨hrest', fun x hx hd => ?_, fun x hx => hle x (List.mem_cons_of_mem _ hx)⟩
          rcases List.mem_cons.1 hx with rfl | hx
          · exact absurd (hy h hrest') (Nat.not_lt.2 (hle _ List.mem_cons_self hd))
          · exact hno x hx hd

/-- The scan keeps exactly the record pages (R146, R147). -/
theorem mem_keptHeaders (m : Memory) (h : PageHeader) : h ∈ keptHeaders m ↔ recordPage m h := by
  rw [keptHeaders, mem_dropDoubles (validHeaders_order m)]
  simp only [mem_validHeaders, validPage, doubles, recordPage, List.not_mem_nil, false_implies, implies_true, true_and,
    and_imp, and_assoc]

/-- Of one identifier and page index there is one record page. -/
theorem recordPage_unique {m : Memory} {h x : PageHeader} (hh : recordPage m h) (hx : recordPage m x) (hid : h.id = x.id)
    (hidx : h.idx = x.idx) : h = x := by
  obtain ⟨hpool, hscan, hleast⟩ := hh
  obtain ⟨hpool', hscan', hleast'⟩ := hx
  have hpage : h.page = x.page :=
    le_antisymm (hleast x hpool' hscan' hid.symm hidx.symm) (hleast' h hpool hscan hid hidx)
  rw [hpage, hscan'] at hscan
  exact (PageClass.valid.inj hscan).symm

theorem recordPage_idx {m : Memory} {h : PageHeader} (hh : recordPage m h) : h.idx ≤ 503 := (scanPage_valid hh.2.1).2

theorem nodup_of_pages {hs : List PageHeader} (h : hs.Pairwise (fun a b => a.page < b.page)) : hs.Nodup :=
  h.imp fun hlt heq => hlt.ne (congrArg PageHeader.page heq)

theorem dropDoubles_sublist (seen hs : List PageHeader) : (dropDoubles seen hs).Sublist hs := by
  induction hs generalizing seen with
  | nil => exact List.Sublist.refl _
  | cons h rest ih =>
    unfold dropDoubles
    split
    · exact (ih seen).cons h
    · exact (ih (h :: seen)).cons_cons h

theorem keptHeaders_sublist (m : Memory) : (keptHeaders m).Sublist (validHeaders (scanAll m)) := dropDoubles_sublist _ _

theorem keptHeaders_order (m : Memory) : (keptHeaders m).Pairwise (fun a b => a.page < b.page) :=
  (validHeaders_order m).sublist (keptHeaders_sublist m)

end Sys2Proof.Machine
/-! SUPPORT. The records that the start-up scan rebuilds (R147, R148): their runs, their entries, and which of them are kept. -/

namespace Sys2Proof.Machine

/-! ### Runs (R147) -/

/-- The record pages of an identifier. -/
def recordPages (m : Memory) (id : Nat) : List PageHeader := (keptHeaders m).filter (fun h => h.id == id)

theorem mem_recordPages {m : Memory} {id : Nat} {h : PageHeader} :
    h ∈ recordPages m id ↔ recordPage m h ∧ h.id = id := by
  rw [recordPages, List.mem_filter, mem_keptHeaders, beq_iff_eq]

/-- The run that the scan takes from index 0 on. -/
def scanRun (m : Memory) (id : Nat) : List PageHeader := runFrom pageCount (recordPages m id) 0

theorem runFrom_missing {fuel : Nat} {pages : List PageHeader} {i : Nat} (h : ∀ x ∈ pages, x.idx ≠ i) :
    runFrom fuel pages i = [] := by
  cases fuel with
  | zero => rfl
  | succ k =>
    have hnone : pages.find? (fun h => h.idx == i) = none := List.find?_eq_none.2 fun x hx => by simpa using h x hx
    simp only [runFrom, hnone]

/-- What a run from an index on is, where the fuel suffices: its pages, and where it ends. -/
theorem runFrom_spec {fuel : Nat} {pages : List PageHeader} {i : Nat} (hfuel : ∀ x ∈ pages, x.idx < i + fuel) :
    (∀ j h, (runFrom fuel pages i)[j]? = some h → h ∈ pages ∧ h.idx = i + j) ∧
      (∀ j h, (runFrom fuel pages i)[j]? = some h → j + 1 < (runFrom fuel pages i).length → h.final = false) ∧
      (((∃ last, (runFrom fuel pages i).getLast? = some last ∧ last.final = true)) ∨
        ∀ x ∈ pages, x.idx ≠ i + (runFrom fuel pages i).length) := by
  induction fuel generalizing i with
  | zero => exact ⟨fun j h hj => by simp [runFrom] at hj, fun j h hj => by simp [runFrom] at hj,
      .inr fun x hx => (hfuel x hx).ne⟩
  | succ k ih =>
    by_cases hmissing : ∀ x ∈ pages, x.idx ≠ i
    · rw [runFrom_missing hmissing]
      exact ⟨fun j h hj => by simp at hj, fun j h hj => by simp at hj, .inr hmissing⟩
    obtain ⟨h, hfind⟩ : ∃ h, pages.find? (fun h => h.idx == i) = some h := by
      cases hf : pages.find? (fun h => h.idx == i) with
      | none => exact absurd (fun x hx => by simpa using List.find?_eq_none.1 hf x hx) hmissing
      | some h => exact ⟨h, rfl⟩
    have hin : h ∈ pages := List.mem_of_find?_eq_some hfind
    have hidx : h.idx = i := by simpa using List.find?_some hfind
    have hrun : runFrom (k + 1) pages i = if h.final then [h] else h :: runFrom k pages (i + 1) := by
      simp only [runFrom, hfind]
    rw [hrun]
    cases hfinal : h.final with
    | true =>
      simp only [if_true]
      refine ⟨fun j x hj => ?_, fun j x hj hlt => ?_, .inl ⟨h, rfl, hfinal⟩⟩
      · cases j with
        | zero => cases hj; exact ⟨hin, hidx⟩
        | succ j => simp at hj
      · simp at hlt
    | false =>
      obtain ⟨hpages, hopen, hend⟩ := ih (i := i + 1) fun x hx => by have := hfuel x hx; omega
      simp only [Bool.false_eq_true, if_false]
      refine ⟨fun j x hj => ?_, fun j x hj hlt => ?_, ?_⟩
      · cases j with
        | zero => cases hj; exact ⟨hin, hidx⟩
        | succ j =>
          obtain ⟨hx, hxi⟩ := hpages j x (by simpa using hj)
          exact ⟨hx, by omega⟩
      · cases j with
        | zero => cases hj; exact hfinal
        | succ j => exact hopen j x (by simpa using hj) (by simpa using hlt)
      · refine hend.imp ?_ fun hno x hx => by have := hno x hx; rw [List.length_cons]; omega
        rintro ⟨last, hlast, hf⟩
        refine ⟨last, ?_, hf⟩
        rw [List.getLast?_cons, hlast]
        rfl

/-- The run of a record is the one that the scan takes, where it takes any (R147). -/
theorem scanRun_recordRun {m : Memory} {id : Nat} (h : scanRun m id ≠ []) : recordRun m id (scanRun m id) := by
  obtain ⟨hpages, hopen, hend⟩ := runFrom_spec (fuel := pageCount) (pages := recordPages m id) (i := 0) fun x hx => by
    have := recordPage_idx (mem_recordPages.1 hx).1
    unfold pageCount
    omega
  refine ⟨h, fun i x hx => ?_, hopen, fun last hlast => ?_⟩
  · obtain ⟨hin, hidx⟩ := hpages i x hx
    obtain ⟨hrec, hid⟩ := mem_recordPages.1 hin
    exact ⟨hrec, hid, by omega⟩
  · refine hend.imp ?_ fun hno x hx hid => ?_
    · rintro ⟨y, hy, hf⟩
      rw [show runFrom pageCount (recordPages m id) 0 = scanRun m id from rfl, hlast] at hy
      cases hy
      exact hf
    · have := hno x (mem_recordPages.2 ⟨hx, hid⟩)
      rwa [Nat.zero_add] at this

/-- A run is not a longer one's beginning. -/
theorem recordRun_length_le {m : Memory} {id : Nat} {run run' : List PageHeader} (h : recordRun m id run)
    (h' : recordRun m id run') : run'.length ≤ run.length := by
  obtain ⟨hne, hpages, -, hend⟩ := h
  obtain ⟨-, hpages', hopen', -⟩ := h'
  by_contra hlt
  rw [Nat.not_le] at hlt
  have hpos := List.length_pos_iff.2 hne
  obtain ⟨last, hlast⟩ : ∃ last, _ = some last := ⟨_, List.getLast?_eq_some_getLast hne⟩
  have hlast' : run[run.length - 1]? = some last := by rw [← List.getLast?_eq_getElem?, hlast]
  obtain ⟨hrec, hid, hidx⟩ := hpages _ _ hlast'
  rcases hend last hlast with hfinal | hno
  · obtain ⟨x, hx⟩ : ∃ x, run'[run.length - 1]? = some x := ⟨_, List.getElem?_eq_getElem (by omega)⟩
    obtain ⟨hrec', hid', hidx'⟩ := hpages' _ _ hx
    have hsame := recordPage_unique hrec' hrec (hid'.trans hid.symm) (hidx'.trans hidx.symm)
    rw [← hsame, hopen' _ _ hx (by omega)] at hfinal
    cases hfinal
  · obtain ⟨hrec', hid', hidx'⟩ := hpages' run.length _ (List.getElem?_eq_getElem hlt)
    exact hno _ hrec' hid' hidx'

theorem recordRun_unique {m : Memory} {id : Nat} {run run' : List PageHeader} (h : recordRun m id run)
    (h' : recordRun m id run') : run = run' := by
  refine List.ext_getElem (le_antisymm (recordRun_length_le h' h) (recordRun_length_le h h')) fun i hi hi' => ?_
  obtain ⟨-, hpages, -⟩ := h
  obtain ⟨-, hpages', -⟩ := h'
  obtain ⟨hrec, hid, hidx⟩ := hpages i _ (List.getElem?_eq_getElem hi)
  obtain ⟨hrec', hid', hidx'⟩ := hpages' i _ (List.getElem?_eq_getElem hi')
  exact recordPage_unique hrec hrec' (hid.trans hid'.symm) (hidx.trans hidx'.symm)

theorem recordRun_iff {m : Memory} {id : Nat} {run : List PageHeader} :
    recordRun m id run ↔ run = scanRun m id ∧ run ≠ [] := by
  constructor
  · intro h
    have hrun := h
    obtain ⟨hne, hpages, -⟩ := hrun
    have hfirst : run[0]? = some (run[0]'(List.length_pos_iff.2 hne)) := List.getElem?_eq_getElem _
    obtain ⟨hrec, hid, hidx⟩ := hpages 0 _ hfirst
    have hscan : scanRun m id ≠ [] := fun hnil => by
      obtain ⟨-, -, hend⟩ := runFrom_spec (fuel := pageCount) (pages := recordPages m id) (i := 0) fun x hx => by
        have := recordPage_idx (mem_recordPages.1 hx).1
        unfold pageCount
        omega
      rw [show runFrom pageCount (recordPages m id) 0 = [] from hnil] at hend
      obtain ⟨last, hlast, -⟩ | hno := hend
      · cases hlast
      · exact hno _ (mem_recordPages.2 ⟨hrec, hid⟩) hidx
    exact ⟨recordRun_unique h (scanRun_recordRun hscan), hne⟩
  · rintro ⟨hrun, hne⟩
    rw [hrun] at hne ⊢
    exact scanRun_recordRun hne

/-- The pages of a run differ in their index. -/
theorem recordRun_nodup {m : Memory} {id : Nat} {run : List PageHeader} (h : recordRun m id run) : run.Nodup := by
  obtain ⟨-, hpages, -⟩ := h
  refine List.nodup_iff_getElem?_ne_getElem?.2 fun i j hij hj heq => ?_
  have hi := List.getElem?_eq_getElem (hij.trans hj)
  have hx := (hpages i _ hi).2.2
  rw [hi] at heq
  have hy := (hpages j _ heq.symm).2.2
  omega

/-- A page of a run, by its index. -/
theorem mem_recordRun {m : Memory} {id : Nat} {run : List PageHeader} (h : recordRun m id run) {x : PageHeader} :
    x ∈ run ↔ recordPage m x ∧ x.id = id ∧ x.idx < run.length := by
  obtain ⟨-, hpages, -⟩ := h
  constructor
  · intro hx
    obtain ⟨i, hi⟩ := List.mem_iff_getElem?.1 hx
    obtain ⟨hrec, hid, hidx⟩ := hpages i x hi
    exact ⟨hrec, hid, hidx ▸ (List.getElem?_eq_some_iff.1 hi).1⟩
  · rintro ⟨hrec, hid, hlt⟩
    obtain ⟨hrec', hid', hidx'⟩ := hpages x.idx _ (List.getElem?_eq_getElem hlt)
    rw [recordPage_unique hrec hrec' (hid.trans hid'.symm) hidx'.symm]
    exact List.getElem_mem hlt

/-! ### Rebuilt records (R147) -/

/-- A run that ends without a final page leaves valid pages out where one lies beyond the missing index. -/
theorem recordRun_short {m : Memory} {id : Nat} {run : List PageHeader} (h : recordRun m id run) {last : PageHeader}
    (hlast : run.getLast? = some last) (hf : last.final = false) :
    run.length < (recordPages m id).length ↔ ∃ x, recordPage m x ∧ x.id = id ∧ run.length < x.idx := by
  have hno : ∀ x, recordPage m x → x.id = id → x.idx ≠ run.length := by
    obtain ⟨-, -, -, hend⟩ := h
    exact (hend last hlast).resolve_left (by simp [hf])
  have hnodup := recordRun_nodup h
  have hpages : (recordPages m id).Nodup := (nodup_of_pages (keptHeaders_order m)).filter _
  constructor
  · intro hlt
    by_contra hall
    push Not at hall
    refine absurd hlt (Nat.not_lt.2 (length_le_of_nodup hpages fun x hx => ?_))
    obtain ⟨hrec, hid⟩ := mem_recordPages.1 hx
    exact (mem_recordRun h).2 ⟨hrec, hid, lt_of_le_of_ne (hall x hrec hid) (hno x hrec hid)⟩
  · rintro ⟨x, hrec, hid, hlt⟩
    have hx : x ∉ run := fun hin => absurd hlt (Nat.not_lt.2 ((mem_recordRun h).1 hin).2.2.le)
    refine length_le_of_nodup (l := x :: run) (List.nodup_cons.2 ⟨hx, hnodup⟩) fun y hy => ?_
    rcases List.mem_cons.1 hy with rfl | hy
    · exact mem_recordPages.2 ⟨hrec, hid⟩
    · obtain ⟨hyrec, hyid, -⟩ := (mem_recordRun h).1 hy
      exact mem_recordPages.2 ⟨hyrec, hyid⟩

/-- The end cause of a rebuilt record (R147). -/
theorem rebuiltCause_spec {m : Memory} {id : Nat} {run : List PageHeader} (h : recordRun m id run) {last : PageHeader}
    (hlast : run.getLast? = some last) {cause : EndCause} :
    cause = rebuiltCause (tornPages (scanAll m)) (recordPages m id) run last ↔
      (last.final = true → cause = last.cause) ∧
        (last.final = false → (runTorn m run last → cause = .torn) ∧ (¬runTorn m run last → cause = .cut)) := by
  unfold rebuiltCause
  cases hf : last.final with
  | true => simp
  | false =>
    obtain ⟨hrec, hid, -⟩ := (mem_recordRun h).1 (List.mem_of_getLast? hlast)
    have hnext : (∃ p, nextPool last.page p ∧ poolPage p ∧ scanPage m p = .torn) ↔
        (tornPages (scanAll m)).contains (poolAfter last.page) = true := by
      rw [List.contains_iff_mem, mem_tornPages]
      constructor
      · rintro ⟨p, hp, htorn⟩
        rwa [(nextPool_iff hrec.1 p).1 hp] at htorn
      · exact fun htorn => ⟨_, (nextPool_iff hrec.1 _).2 rfl, htorn⟩
    have htorn : (run.length < (recordPages m id).length || (tornPages (scanAll m)).contains (poolAfter last.page)) = true ↔
        runTorn m run last := by
      rw [Bool.or_eq_true, decide_eq_true_eq, recordRun_short h hlast hf, ← hnext, runTorn, hid]
    by_cases ht : runTorn m run last
    · rw [if_neg (by simp), if_pos (htorn.2 ht)]
      simp [ht]
    · rw [if_neg (by simp), if_neg (mt htorn.1 ht)]
      simp [ht]

/-- The record that the scan rebuilds of an identifier (R147). -/
theorem rebuildRecord_iff {m : Memory} {id : Nat} {e : DirEntry} {run : List PageHeader} :
    rebuildRecord (tornPages (scanAll m)) (keptHeaders m) id = some (e, run) ↔ recordRun m id run ∧ rebuiltAs m run e := by
  have hrebuild : ∀ first last, (scanRun m id).head? = some first → (scanRun m id).getLast? = some last →
      rebuildRecord (tornPages (scanAll m)) (keptHeaders m) id = some
        ({ id := id, closed := true, hold := first.hold, firstPage := some first.page, pages := (scanRun m id).length
           firstSet := first.first
           lastSet := some (addUs last.first (((last.count : Int) - 1) * (1000000 / rateOf last.rate : Nat)))
           endCause := some (rebuiltCause (tornPages (scanAll m)) (recordPages m id) (scanRun m id) last)
           eventRef := none }, scanRun m id) := fun first last hfirst hlast => by
    unfold rebuildRecord
    dsimp only
    rw [show runFrom pageCount ((keptHeaders m).filter (fun h => h.id == id)) 0 = scanRun m id from rfl, hfirst, hlast]
    rfl
  have hnone : scanRun m id = [] → rebuildRecord (tornPages (scanAll m)) (keptHeaders m) id = none := fun hnil => by
    unfold rebuildRecord
    dsimp only
    rw [show runFrom pageCount ((keptHeaders m).filter (fun h => h.id == id)) 0 = [] from hnil]
    rfl
  rw [recordRun_iff]
  by_cases hne : scanRun m id = []
  · rw [hnone hne, hne]
    exact ⟨fun h => (by cases h), fun ⟨⟨hnil, hno⟩, _⟩ => absurd hnil hno⟩
  · have hrun := scanRun_recordRun hne
    obtain ⟨first, hfirst⟩ := Option.isSome_iff_exists.1 (List.isSome_head?.2 hne)
    obtain ⟨last, hlast⟩ : ∃ last, _ = some last := ⟨_, List.getLast?_eq_some_getLast hne⟩
    obtain ⟨-, hid, -⟩ := (mem_recordRun hrun).1 (List.mem_of_head? hfirst)
    rw [hrebuild first last hfirst hlast]
    constructor
    · intro h
      obtain ⟨he, hr⟩ := Prod.mk.inj (Option.some.inj h)
      rw [← he, ← hr]
      exact ⟨⟨rfl, hne⟩, first, last, _, hfirst, hlast, by rw [hid], (rebuiltCause_spec hrun hlast).1 rfl⟩
    · rintro ⟨⟨hr, -⟩, first', last', cause, hfirst', hlast', he, hcause⟩
      rw [hr] at hfirst' hlast' hcause he ⊢
      cases hfirst.symm.trans hfirst'
      cases hlast.symm.trans hlast'
      rw [he, ← (rebuiltCause_spec hrun hlast).2 hcause, hid]

end Sys2Proof.Machine
/-! SUPPORT. What the start-up scan leaves (R135, R148): the directory, the page map, the counters and the pointer. -/

namespace Sys2Proof.Machine

/-! ### The kept records (R148) -/

/-- The records that the scan could rebuild, before it keeps the highest. -/
def allRecords (m : Memory) : List (DirEntry × List PageHeader) :=
  (recordIds (keptHeaders m)).filterMap (rebuildRecord (tornPages (scanAll m)) (keptHeaders m))

/-- The identifiers of those records, ascending. -/
def allIds (m : Memory) : List Nat := (allRecords m).map (fun r : DirEntry × List PageHeader => r.1.id)

theorem allIds_order (m : Memory) : (allIds m).Pairwise (fun a b => a < b) :=
  (recordIds_order _).sublist
    (filterMap_names _ (fun r : DirEntry × List PageHeader => r.1.id) (fun _ _ => rebuildRecord_id) _)

theorem scanRecords_eq (m : Memory) : scanRecords m = (allRecords m).drop ((allRecords m).length - 64) := rfl

theorem mem_allRecords {m : Memory} {e : DirEntry} {run : List PageHeader} :
    (e, run) ∈ allRecords m ↔ recordRun m e.id run ∧ rebuiltAs m run e := by
  rw [allRecords, List.mem_filterMap, ← rebuildRecord_iff]
  constructor
  · rintro ⟨id, -, hr⟩
    rwa [rebuildRecord_id hr]
  · intro hr
    obtain ⟨⟨hne, hpages, -⟩, -⟩ := rebuildRecord_iff.1 hr
    obtain ⟨hrec, hid, -⟩ := hpages 0 _ (List.getElem?_eq_getElem (List.length_pos_iff.2 hne))
    exact ⟨e.id, (mem_recordIds _ _).2 ⟨_, (mem_keptHeaders _ _).2 hrec, hid⟩, hr⟩

/-- Every record with a run is rebuilt as an entry. -/
theorem recordRun_rebuilt {m : Memory} {id : Nat} {run : List PageHeader} (h : recordRun m id run) :
    ∃ e, e.id = id ∧ (e, run) ∈ allRecords m := by
  have hrun := h
  obtain ⟨hne, -⟩ := hrun
  obtain ⟨first, hfirst⟩ := Option.isSome_iff_exists.1 (List.isSome_head?.2 hne)
  obtain ⟨last, hlast⟩ : ∃ last, _ = some last := ⟨_, List.getLast?_eq_some_getLast hne⟩
  obtain ⟨-, hid, -⟩ := (mem_recordRun h).1 (List.mem_of_head? hfirst)
  have hbuilt := (rebuiltCause_spec h hlast).1 rfl
  refine ⟨_, hid, mem_allRecords.2 ⟨?_, first, last, _, hfirst, hlast, rfl, hbuilt⟩⟩
  rw [← hid] at h
  exact h

theorem mem_allIds {m : Memory} {id : Nat} : id ∈ allIds m ↔ ∃ run, recordRun m id run := by
  rw [allIds, List.mem_map]
  constructor
  · rintro ⟨⟨e, run⟩, hr, rfl⟩
    exact ⟨run, (mem_allRecords.1 hr).1⟩
  · rintro ⟨run, hrun⟩
    obtain ⟨e, rfl, hr⟩ := recordRun_rebuilt hrun
    exact ⟨(e, run), hr, rfl⟩

/-- The scan keeps the records of the 64 highest identifiers (R148). -/
theorem mem_scanRecords {m : Memory} {e : DirEntry} {run : List PageHeader} :
    (e, run) ∈ scanRecords m ↔ recordRun m e.id run ∧ keptRecord m e.id ∧ rebuiltAs m run e := by
  have hkept : ∀ id ∈ allIds m, (id ∈ (allIds m).drop ((allRecords m).length - 64) ↔ keptRecord m id) := fun id hid => by
    have hlen : (allRecords m).length = (allIds m).length := (List.length_map _).symm
    rw [hlen, mem_drop_of_ascending (allIds_order m) hid 63]
    simp only [mem_allIds, keptRecord]
  constructor
  · intro hr
    rw [scanRecords_eq] at hr
    have hall := List.mem_of_mem_drop hr
    have hid : e.id ∈ (allIds m).drop ((allRecords m).length - 64) := by
      rw [allIds, ← List.map_drop]
      exact List.mem_map.2 ⟨(e, run), hr, rfl⟩
    obtain ⟨hrun, hbuilt⟩ := mem_allRecords.1 hall
    exact ⟨hrun, (hkept _ (List.mem_of_mem_drop hid)).1 hid, hbuilt⟩
  · rintro ⟨hrun, hk, hbuilt⟩
    have hall := mem_allRecords.2 ⟨hrun, hbuilt⟩
    have hid := (hkept e.id (mem_allIds.2 ⟨run, hrun⟩)).2 hk
    rw [allIds, ← List.map_drop, List.mem_map] at hid
    obtain ⟨⟨e', run'⟩, hr, he⟩ := hid
    obtain ⟨hrun', hbuilt'⟩ := mem_allRecords.1 (List.mem_of_mem_drop hr)
    dsimp only at he
    have hsame := (rebuildRecord_iff.2 ⟨hrun', hbuilt'⟩).symm.trans
      ((congrArg _ he).trans (rebuildRecord_iff.2 ⟨hrun, hbuilt⟩))
    rwa [Option.some.inj hsame] at hr

/-! ### The pages of the kept records (R148) -/

theorem mem_ownedHeaders {m : Memory} {h : PageHeader} : h ∈ ownedHeaders m ↔ inKeptRun m h := by
  rw [ownedHeaders, List.mem_flatMap]
  constructor
  · rintro ⟨⟨e, run⟩, hr, hin⟩
    obtain ⟨hrun, hkept, -⟩ := mem_scanRecords.1 hr
    obtain ⟨-, hid, -⟩ := (mem_recordRun hrun).1 hin
    rw [← hid] at hrun hkept
    exact ⟨run, hrun, hkept, hin⟩
  · rintro ⟨run, hrun, hkept, hin⟩
    obtain ⟨e, hid, hr⟩ := recordRun_rebuilt hrun
    refine ⟨(e, run), mem_scanRecords.2 ⟨?_, ?_, (mem_allRecords.1 hr).2⟩, hin⟩
    · rwa [hid]
    · rwa [hid]

theorem inKeptRun_recordPage {m : Memory} {h : PageHeader} (hk : inKeptRun m h) : recordPage m h := by
  obtain ⟨run, hrun, -, hin⟩ := hk
  exact ((mem_recordRun hrun).1 hin).1

/-- No page is in two runs, nor twice in one. -/
theorem ownedHeaders_nodup (m : Memory) : (ownedHeaders m).Nodup := by
  have horder : ((scanRecords m).map (fun r : DirEntry × List PageHeader => r.1.id)).Pairwise (fun a b => a < b) :=
    (recordIds_order _).sublist (rebuiltRecords_ids _ _)
  rw [ownedHeaders, List.nodup_flatMap]
  constructor
  · rintro ⟨e, run⟩ hr
    exact recordRun_nodup (mem_scanRecords.1 hr).1
  · refine (List.pairwise_map.1 horder).imp_of_mem ?_
    rintro ⟨e, run⟩ ⟨e', run'⟩ hr hr' hlt h hin hin'
    obtain ⟨-, hid, -⟩ := (mem_recordRun (mem_scanRecords.1 hr).1).1 hin
    obtain ⟨-, hid', -⟩ := (mem_recordRun (mem_scanRecords.1 hr').1).1 hin'
    dsimp only at hlt hid hid'
    omega

/-! ### The page map (R123, R148) -/

theorem scanned_kindOf (s : State) {p : Nat} (hp : p < 512) :
    (scanned s).kindOf p = scannedKind (scanAll s.mem) (ownedHeaders s.mem) p := by
  simp [State.kindOf, scanned, pageCount, List.getD_eq_getElem?_getD, List.getElem?_range hp]

theorem scannedKind_owned {m : Memory} {h : PageHeader} (hk : inKeptRun m h) :
    scannedKind (scanAll m) (ownedHeaders m) h.page = .owned h.id h.idx true := by
  obtain ⟨hpool, hscan, -⟩ := inKeptRun_recordPage hk
  obtain ⟨x, hx⟩ := Option.isSome_iff_exists.1 (List.find?_isSome.2
    ⟨h, mem_ownedHeaders.2 hk, beq_self_eq_true h.page⟩ : ((ownedHeaders m).find? (fun x => x.page == h.page)).isSome = true)
  have hpage : x.page = h.page := by simpa using List.find?_some hx
  obtain ⟨-, hscan', -⟩ := inKeptRun_recordPage (mem_ownedHeaders.1 (List.mem_of_find?_eq_some hx))
  rw [hpage, hscan] at hscan'
  cases PageClass.valid.inj hscan'
  simp only [scannedKind, hpool.2, hx, Bool.false_eq_true, if_false]

/-- A pool page that no kept record owns is FREE (R123, R148). -/
theorem scannedKind_free {m : Memory} {p : Nat} (hp : poolPage p) (h : ∀ x, x.page = p → ¬inKeptRun m x) :
    scannedKind (scanAll m) (ownedHeaders m) p = if scanPage m p = .erased then .freeErased else .freeDirty := by
  have hnone : (ownedHeaders m).find? (fun x => x.page == p) = none :=
    List.find?_eq_none.2 fun x hx hxp => h x (by simpa using hxp) (mem_ownedHeaders.1 hx)
  have hmem : (p, PageClass.erased) ∈ scanAll m ↔ scanPage m p = .erased := by
    simp only [scanAll, List.mem_map, Prod.mk.injEq]
    constructor
    · rintro ⟨q, -, rfl, hq⟩
      exact hq
    · exact fun hq => ⟨p, (mem_poolList p).2 hp, rfl, hq⟩
  simp only [scannedKind, hp.2, hnone, List.contains_iff_mem, hmem, Bool.false_eq_true, if_false]

/-- A pool page without a valid header is in no run. -/
theorem not_inKeptRun_of_scan {m : Memory} {p : Nat} (h : ∀ x, scanPage m p ≠ .valid x) (x : PageHeader)
    (hx : x.page = p) : ¬inKeptRun m x := fun hk => by
  obtain ⟨-, hscan, -⟩ := inKeptRun_recordPage hk
  rw [hx] at hscan
  exact h x hscan

/-- The pages that the scan gives an owner are those of the kept records (R148). -/
theorem scannedKind_owned_iff {m : Memory} {p id idx : Nat} {done : Bool}
    (h : scannedKind (scanAll m) (ownedHeaders m) p = .owned id idx done) : ∃ x ∈ ownedHeaders m, x.page = p := by
  unfold scannedKind at h
  split at h
  · cases h
  · split at h
    next x hx => exact ⟨x, List.mem_of_find?_eq_some hx, by simpa using List.find?_some hx⟩
    · split at h <;> cases h

/-! ### Counters (R148, R150) -/

/-- The pages that the scan counts as torn: those that it finds so, and the doubles (R147, R150). -/
theorem tornCount_eq {m : Memory} {pages : List Nat} (hn : pages.Nodup) (hpages : ∀ p, p ∈ pages ↔ poolPage p ∧
    (scanPage m p = .torn ∨ ∃ h, scanPage m p = .valid h ∧ ¬recordPage m h)) :
    (tornPages (scanAll m)).length + ((validHeaders (scanAll m)).length - (keptHeaders m).length) = pages.length := by
  have hvalid := nodup_of_pages (validHeaders_order m)
  have hdoubles := length_filter_not_mem hvalid (nodup_of_pages (keptHeaders_order m))
    fun x hx => (keptHeaders_sublist m).subset hx
  rw [← hdoubles, ← List.length_map (f := PageHeader.page), ← List.length_append]
  have horder := (List.pairwise_map.2 (validHeaders_order m)).sublist
    ((List.filter_sublist (p := fun x => decide (x ∉ keptHeaders m))).map PageHeader.page)
  have hmem : ∀ p, p ∈ ((validHeaders (scanAll m)).filter (fun x => decide (x ∉ keptHeaders m))).map PageHeader.page ↔
      poolPage p ∧ ∃ h, scanPage m p = .valid h ∧ ¬recordPage m h := fun p => by
    simp only [List.mem_map, List.mem_filter, mem_validHeaders, validPage, decide_eq_true_eq, mem_keptHeaders]
    constructor
    · rintro ⟨h, ⟨⟨hp, hs⟩, hno⟩, rfl⟩
      exact ⟨hp, h, hs, hno⟩
    · rintro ⟨hp, h, hs, hno⟩
      obtain ⟨rfl, -⟩ := scanPage_valid hs
      exact ⟨h, ⟨⟨hp, hs⟩, hno⟩, rfl⟩
  refine length_eq_of_nodup (List.nodup_append.2 ⟨tornPages_nodup m, horder.imp fun h => h.ne, ?_⟩) hn fun p => ?_
  · rintro p hp q hq rfl
    obtain ⟨-, h, hs, -⟩ := (hmem p).1 hq
    rw [((mem_tornPages m p).1 hp).2] at hs
    cases hs
  · rw [List.mem_append, mem_tornPages, hmem, hpages, and_or_left]

/-- The pages that the scan counts as dropped: those of no run that is kept (R148, R150). -/
theorem droppedCount_eq {m : Memory} {pages : List Nat} (hn : pages.Nodup) (hpages : ∀ p, p ∈ pages ↔ poolPage p ∧
    ∃ h, scanPage m p = .valid h ∧ recordPage m h ∧ ¬inKeptRun m h) :
    (keptHeaders m).length - (ownedHeaders m).length = pages.length := by
  have hkept := keptHeaders_order m
  rw [← length_filter_not_mem (nodup_of_pages hkept) (ownedHeaders_nodup m) fun x hx =>
      (mem_keptHeaders m x).2 (inKeptRun_recordPage (mem_ownedHeaders.1 hx)),
    ← List.length_map (f := PageHeader.page)]
  have horder := (List.pairwise_map.2 hkept).sublist
    ((List.filter_sublist (p := fun x => decide (x ∉ ownedHeaders m))).map PageHeader.page)
  refine length_eq_of_nodup (horder.imp fun h => h.ne) hn fun p => ?_
  rw [hpages]
  simp only [List.mem_map, List.mem_filter, decide_eq_true_eq, mem_keptHeaders, mem_ownedHeaders]
  constructor
  · rintro ⟨h, ⟨hrec, hno⟩, rfl⟩
    exact ⟨hrec.1, h, hrec.2.1, hrec, hno⟩
  · rintro ⟨hp, h, hs, hrec, hno⟩
    obtain ⟨rfl, -⟩ := scanPage_valid hs
    exact ⟨h, ⟨hrec, hno⟩, rfl⟩

/-! ### The next identifier and the pointer (R148) -/

theorem idPast_eq {m : Memory} {r n : Nat} (h : n = r ∨ ∃ e ∈ (scanRecords m).map Prod.fst, n = e.id + 1) (hr : r ≤ n)
    (hall : ∀ e ∈ (scanRecords m).map Prod.fst, e.id < n) : max r (idPast m) = n := by
  obtain ⟨-, hpast, hsome⟩ := foldl_max_spec (fun r : DirEntry × List PageHeader => r.1.id + 1) (scanRecords m) 0
  change (∀ x ∈ scanRecords m, x.1.id + 1 ≤ idPast m) at hpast
  change (idPast m = 0 ∨ ∃ x ∈ scanRecords m, x.1.id + 1 = idPast m) at hsome
  have hle : idPast m ≤ n := by
    rcases hsome with h0 | ⟨x, hx, hid⟩
    · omega
    · have := hall x.1 (List.mem_map_of_mem hx)
      omega
  rcases h with rfl | ⟨e, he, rfl⟩
  · exact max_eq_left hle
  · obtain ⟨x, hx, rfl⟩ := List.mem_map.1 he
    have := hpast x hx
    omega

theorem scannedPointer_last {owned : List PageHeader} {q : Nat} (hq : poolPage q) (hin : ∃ x ∈ owned, x.page = q)
    (hall : ∀ x ∈ owned, x.page ≤ q) : nextPool q (scannedPointer owned) := by
  obtain ⟨x, hx, hxq⟩ := hin
  obtain ⟨-, hge, hsome⟩ := foldl_max_spec PageHeader.page owned 0
  have hmax : owned.foldl (fun m h => max m h.page) 0 = q := by
    refine le_antisymm ?_ (hxq ▸ hge x hx)
    rcases hsome with h0 | ⟨y, hy, hyq⟩
    · rw [h0]
      exact Nat.zero_le q
    · rw [← hyq]
      exact hall y hy
  have hne : owned ≠ [] := List.ne_nil_of_mem hx
  rw [scannedPointer, if_neg hne, hmax]
  exact (nextPool_iff hq _).2 rfl

end Sys2Proof.Machine
/-! SUPPORT. START_UP_SCAN: the state that the scan leaves (R148, R214). -/

namespace Sys2Proof.Machine

/-- The look at the next free page writes the request for its erase alone. -/
theorem lookAhead_eq (s : State) :
    lookAhead s = { s with rm := { s.rm with eraseAhead := (lookAhead s).rm.eraseAhead } } := by
  obtain ⟨hlook, -⟩ := Proofs.pagesAreAllocated
  obtain ⟨ahead, h, -⟩ := hlook s
  rw [h]

/-- The state after START_UP_SCAN. -/
def afterScan (s : State) : State := { lookAhead (scanned s) with phase := .step4 }

/-- START_UP_SCAN at step 3 (R214). -/
theorem exec_startUpScan {s : State} (h : s.phase = .step3) : exec .startUpScan s = .next (afterScan s) := by
  have hstep : (s.phase == .step3) = true := beq_iff_eq.2 h
  rw [afterScan, ← scanMemory_eq]
  unfold exec execStartUpScan doWhen
  rw [if_pos hstep]

/-- What a look at the next free page keeps of the state, at the end of the scan. -/
theorem looked_fields (u : State) {t : State} (h : t = { lookAhead u with phase := .step4 }) :
    t.phase = .step4 ∧ t.rm.map = u.rm.map ∧ t.rm.dir = u.rm.dir ∧ t.rm.nextId = u.rm.nextId ∧
      t.rm.allocPtr = u.rm.allocPtr ∧ t.rm.torn = u.rm.torn ∧ t.rm.dropped = u.rm.dropped ∧
      t.rm.eraseAhead = (lookAhead u).rm.eraseAhead ∧
      t = { u with phase := .step4, rm := { u.rm with eraseAhead := t.rm.eraseAhead } } := by
  have hlook := lookAhead_eq u
  generalize (lookAhead u).rm.eraseAhead = ahead at hlook ⊢
  rw [hlook] at h
  rw [h]
  exact ⟨rfl, rfl, rfl, rfl, rfl, rfl, rfl, rfl, rfl⟩

/-- What the scan writes (R148). -/
theorem scanned_fields (s : State) {u : State} (h : u = scanned s) :
    u.rm.dir = (scanRecords s.mem).map Prod.fst ∧
      u.rm.nextId = min 4294967295 (max s.bat.restoredNextId (idPast s.mem)) ∧
      u.rm.allocPtr = scannedPointer (ownedHeaders s.mem) ∧
      u.rm.torn = bumpBy ((tornPages (scanAll s.mem)).length +
        ((validHeaders (scanAll s.mem)).length - (keptHeaders s.mem).length)) s.rm.torn ∧
      u.rm.dropped = bumpBy ((keptHeaders s.mem).length - (ownedHeaders s.mem).length) s.rm.dropped ∧
      u = { s with rm := { s.rm with
        map := u.rm.map, dir := u.rm.dir, nextId := u.rm.nextId, allocPtr := u.rm.allocPtr
        torn := u.rm.torn, dropped := u.rm.dropped } } := by
  subst h
  unfold scanned
  refine ⟨?_, ?_, ?_, ?_, ?_, ?_⟩ <;> dsimp only

theorem afterScan_map (s : State) : (afterScan s).rm.map = (scanned s).rm.map := by
  obtain ⟨-, hmap, -⟩ := looked_fields (scanned s) (t := afterScan s) rfl
  exact hmap

theorem afterScan_kindOf (s : State) {p : Nat} (hp : p < 512) :
    (afterScan s).kindOf p = scannedKind (scanAll s.mem) (ownedHeaders s.mem) p := by
  rw [← scanned_kindOf s hp]
  simp only [State.kindOf, afterScan_map]

/-- The pages of the kept records have an owner after the scan, and only they do. -/
theorem afterScan_owned (s : State) :
    (∀ x ∈ ownedHeaders s.mem, poolPage x.page ∧ (afterScan s).kindOf x.page = .owned x.id x.idx true) ∧
      ∀ p id idx done, p < 512 → (afterScan s).kindOf p = .owned id idx done → ∃ x ∈ ownedHeaders s.mem, x.page = p := by
  constructor
  · intro x hx
    have hk := mem_ownedHeaders.1 hx
    obtain ⟨hpool, -⟩ := inKeptRun_recordPage hk
    exact ⟨hpool, (afterScan_kindOf s hpool.1).trans (scannedKind_owned hk)⟩
  · intro p id idx done hp hk
    rw [afterScan_kindOf s hp] at hk
    exact scannedKind_owned_iff hk

theorem mem_afterScan_dir (s : State) (e : DirEntry) : e ∈ (afterScan s).rm.dir ↔
    ∃ run, recordRun s.mem e.id run ∧ keptRecord s.mem e.id ∧ rebuiltAs s.mem run e := by
  obtain ⟨-, -, hdir, -⟩ := looked_fields (scanned s) (t := afterScan s) rfl
  obtain ⟨hrecords, -⟩ := scanned_fields s rfl
  rw [hdir, hrecords, List.mem_map]
  constructor
  · rintro ⟨⟨e, run⟩, hr, rfl⟩
    exact ⟨run, mem_scanRecords.1 hr⟩
  · rintro ⟨run, hr⟩
    exact ⟨(e, run), mem_scanRecords.2 hr, rfl⟩

end Sys2Proof.Machine

namespace Sys2Proof.Proofs

open Sys2Proof.Machine

/-- Settles O20, by what the scan makes of the pages, of the records and of the counters. -/
theorem scanRebuildsTheDirectory : Obligations.ScanRebuildsTheDirectory := by
  intro s hphase
  obtain ⟨hlen, -⟩ := scanned_map s
  obtain ⟨hroom, horder, -, -⟩ := scanned_ids s
  obtain ⟨howned, hsource⟩ := afterScan_owned s
  obtain ⟨hstep, hmap, hdir, hnext, hptr, htorn, hdropped, hahead, hlooked⟩ :=
    looked_fields (scanned s) (t := afterScan s) rfl
  obtain ⟨hrecords, hpast, hlast, hcounted, hlost, hscanned⟩ := scanned_fields s rfl
  have hkind := fun {p : Nat} => afterScan_kindOf s (p := p)
  have hfree := fun p (hp : poolPage p) (h : ∀ x, x.page = p → ¬inKeptRun s.mem x) =>
    (hkind hp.1).trans (scannedKind_free hp h)
  have hsame : (scanned s).rm.eraseAhead = s.rm.eraseAhead := by rw [hscanned]
  refine ⟨afterScan s, exec_startUpScan hphase, hstep, by rw [hmap, hlen], fun p hp hc => ?_, fun p hp he => ?_,
    fun p hp ht => ?_, fun p h hp hv => ?_, mem_afterScan_dir s, ?_, ?_, fun n hn hr hall => ?_, fun hno => ?_,
    fun q id idx done hq hk hhighest => ?_, fun pages hn hpages => ?_, fun pages hn hpages => ?_, fun hno => ?_,
    fun p hp hnone => ?_, ?_⟩
  · rw [hkind hp]
    exact (scannedKind_care _ _ p).2 hc
  · rw [hfree p hp (not_inKeptRun_of_scan (by simp [he])), if_pos he]
  · rw [hfree p hp (not_inKeptRun_of_scan (by simp [ht])), if_neg (by simp [ht])]
  · obtain ⟨rfl, -⟩ := scanPage_valid hv
    refine ⟨rfl, fun _ hk => (howned h (mem_ownedHeaders.2 hk)).2, fun hno => ?_⟩
    rw [hfree h.page hp ?_, if_neg (by simp [hv])]
    intro x hx hk
    obtain ⟨-, hscan, -⟩ := inKeptRun_recordPage hk
    rw [hx, hv] at hscan
    cases PageClass.valid.inj hscan
    exact hno ⟨inKeptRun_recordPage hk, hk⟩
  · rwa [hdir, ← List.length_map (f := DirEntry.id)]
  · rw [hdir]
    exact List.pairwise_map.1 horder
  · rw [hdir, hrecords] at hn hall
    rw [hnext, hpast, idPast_eq hn hr hall]
  · have hnil : ownedHeaders s.mem = [] := List.eq_nil_iff_forall_not_mem.2 fun x hx =>
      hno x.page x.id x.idx true (howned x hx).1.1 (howned x hx).2
    rw [hptr, hlast, scannedPointer, if_pos hnil]
  · obtain ⟨x, hx, rfl⟩ := hsource q id idx done hq hk
    rw [hptr, hlast]
    refine scannedPointer_last (howned x hx).1 ⟨x, hx, rfl⟩ fun y hy => ?_
    exact hhighest y.page y.id y.idx true (howned y hy).1.1 (howned y hy).2
  · rw [htorn, hcounted, tornCount_eq hn hpages, bumpBy]
  · rw [hdropped, hlost, droppedCount_eq hn hpages, bumpBy]
  · have hidle : lookAhead (scanned s) = scanned s := by
      rcases hno with ha | hno
      · exact lookAhead_asked (by rw [hsame, ha])
      · exact lookAhead_none fun p hp => hno p ((nextFreePage_congr hmap hptr p).2 hp)
    rw [hahead, hidle, hsame]
  · have hlt : p < 512 := by
      obtain ⟨k, -, rfl, -⟩ := hp
      exact Nat.mod_lt _ (by decide)
    have hlook := lookAhead_next ((nextFreePage_congr hmap hptr p).1 hp) (hsame.trans hnone)
    have hwipe : (scanned s).rm.wipeList = s.rm.wipeList ∧ (scanned s).rm.flight = s.rm.flight := by
      rw [hscanned]
      exact ⟨rfl, rfl⟩
    rw [hahead, hlook, hkind hlt, ← scanned_kindOf s hlt, hwipe.1, hwipe.2]
  · rw [hscanned] at hlooked
    dsimp only at hlooked
    rw [← hmap, ← hdir, ← hnext, ← hptr, ← htorn, ← hdropped] at hlooked
    exact hlooked

end Sys2Proof.Proofs
/-! SUPPORT. Every command's next state, and the rows whose event is not there (log entries 2, 4, 32 and 38). -/

namespace Sys2Proof.Machine

/-! ### Guards that do not hold -/

theorem doWhen_not {c : Bool} (h : c = false) (s : State) (work : State → State) : doWhen c s work = .next s := by
  rw [doWhen, h]
  rfl

theorem and_false_of_imp {a b : Bool} (h : a = true → b = false) : (a && b) = false := by
  cases a
  · rfl
  · exact h rfl

/-- A receiver that takes no frame has heard none (R194). -/
theorem heard_none {s : State} (h : ∀ r, ¬hears s r) : s.heard = none := by
  unfold State.heard
  split
  next r hrec hrx =>
    obtain ⟨ha, -, hs⟩ := (receiving_iff s).1 hrec
    exact absurd ⟨ha, hs, hrx⟩ (h r)
  · rfl

theorem takeFrame_unheard {s : State} (h : ∀ r, ¬hears s r) (kind sender : Nat) (work : State → State) :
    takeFrame s kind sender work = s := by
  unfold takeFrame
  rw [heard_none h]
  rfl

theorem takeQuery_unheard {s : State} (h : ∀ r, ¬hears s r) (q : QueryHeader) (handler : State → State) :
    takeQuery s q handler = s := takeFrame_unheard h _ _ _

/-- A frame or a query whose row stands where the receiver takes none (R194; log entry 4). -/
theorem exec_unheard {s : State} (h : ∀ r, ¬hears s r) :
    (∀ head b, exec (.beaconReceived head b) s = .next s) ∧ (∀ head p, exec (.pickFrameReceived head p) s = .next s) ∧
      (∀ head a, exec (.alertFrameReceived head a) s = .next s) ∧ (∀ f, exec (.badFrame f) s = .next s) ∧
      (∀ kind sender target, exec (.frameNotHandedOn kind sender target) s = .next s) ∧
      ∀ q code args, exec (.badRequest q code args) s = .next s := by
  have hn := heard_none h
  have hsome : s.heard.isSome = false := by rw [hn]; rfl
  refine ⟨fun head b => ?_, fun head p => ?_, fun head a => ?_, fun f => ?_, fun kind sender target => ?_,
    fun q code args => ?_⟩
  · simp only [exec, execBeaconReceived, hn]
  · simp only [exec, execPickFrameReceived, takeFrame_unheard h]
  · simp only [exec, execAlertFrameReceived, takeFrame_unheard h, doWhen_not hsome, ite_self]
  · exact doWhen_not (by rw [hsome, Bool.false_and]) _ _
  · simp only [exec, execFrameNotHandedOn, doWhen, takeFrame_unheard h, ite_self]
  · simp only [exec, execBadRequest, doWhen, takeQuery_unheard h, hsome, Bool.false_eq_true, if_false, ite_self]

/-! ### Channel rows (R62 to R69) -/

/-- A word that a channel does not take leaves it neither in WARMUP, QUIET nor in trigger, and forces nothing out (R62, R63). -/
theorem ChanDet.step_untaken {d : ChanDet} {p : Profile} {grade : Nat} {t : ArrayTime} {w : SetWord}
    (h : w.powered = false ∨ w.settling = true) :
    ((d.step p grade t w).1.state = .off ∨ (d.step p grade t w).1.state = .settling) ∧ (d.step p grade t w).2 = false := by
  unfold ChanDet.step
  cases hp : w.powered with
  | false => exact ⟨.inl rfl, rfl⟩
  | true =>
    have hs : w.settling = true := h.resolve_left (by simp [hp])
    rw [hs]
    exact ⟨.inr rfl, rfl⟩

theorem channelEvent_misses {s : State} {c : Channel} {t : ArrayTime} {w : SetWord} {hit : ChanState → ChanDet × Bool → Bool}
    (h : hit (s.det.chan.get c).state (channelResult s c t w) = false) : channelEvent s c t w hit = .next s := by
  unfold channelEvent
  exact doWhen_not (by rw [h, Bool.and_false]) _ _

/-- A channel row finds no word to take (R62, R63, R74). -/
theorem channelEvent_untaken {s : State} {c : Channel} {t : ArrayTime} {w : SetWord}
    {hit : ChanState → ChanDet × Bool → Bool} (h : takesNoWord s w)
    (hhit : ∀ old r, (r.1.state = .off ∨ r.1.state = .settling) → r.2 = false → hit old r = false) :
    channelEvent s c t w hit = .next s := by
  obtain hd | hw := h
  · have hoff : s.detectorOn = false := Bool.eq_false_iff.2 (mt (detectorOn_iff s).1 hd)
    unfold channelEvent
    exact doWhen_not (by rw [hoff, Bool.and_false, Bool.false_and]) _ _
  · obtain ⟨hstate, hforced⟩ :=
      ChanDet.step_untaken (d := s.det.chan.get c) (p := s.profile) (grade := s.tb.grade) (t := t) hw
    exact channelEvent_misses (hhit _ _ hstate hforced)

section
variable {d : ChanDet} {p : Profile} {grade : Nat} {t : ArrayTime} {w : SetWord}

theorem ChanDet.warm_state (h : 1 < d.warmup) : (d.warm p w.sample).state = d.state := by
  unfold ChanDet.warm
  dsimp only
  rw [if_neg (by omega)]

theorem ChanDet.quietSet_holds (hd : d.state = .quiet) (h : 1 < p.onHold) : (d.quietSet p grade t w).state ≠ .triggered := by
  unfold ChanDet.quietSet
  dsimp only
  split
  · rw [if_neg (Nat.not_le.2 h)]
    simp
  · simp [hd]

theorem ChanDet.pendingSet_holds (h : d.onRun + 1 < p.onHold) : (d.pendingSet p w).state ≠ .triggered := by
  unfold ChanDet.pendingSet
  dsimp only
  split
  · rw [if_neg (Nat.not_le.2 h)]
    simp
  · simp [ChanDet.toQuiet]

/-- A set in trigger before off_hold leaves the channel in trigger, unless max_trigger forces it out (R68, R69). -/
theorem ChanDet.triggerSet_holds (hd : inTrigger d = true) (h : d.offRun + 1 < p.offHold) :
    (d.triggerSet p t w).1.state ≠ .quiet ∨ (d.triggerSet p t w).2 = true := by
  have hstate : d.state ≠ .quiet := by rcases (inTrigger_iff d).1 hd with h | h <;> simp [h]
  unfold ChanDet.triggerSet
  dsimp only
  split
  · exact .inr rfl
  · refine .inl ?_
    unfold ChanDet.votingSet
    dsimp only
    split
    · rw [if_neg (Nat.not_le.2 h)]
      simp
    · split
      · simp
      · exact hstate

theorem ChanDet.triggerSet_short (h : ∀ r, d.run = some r → diffUs t r.onset < (p.maxTrigger : Int) * 1000000) :
    (d.triggerSet p t w).2 = false := by
  have hshort : ∀ avg : Option Averages, ({ d with avg := avg } : ChanDet).tooLong p t = false := fun avg => by
    obtain hr | ⟨r, hr⟩ := Option.eq_none_or_eq_some d.run
    · simp only [ChanDet.tooLong, hr]
    · exact Bool.eq_false_iff.2 (mt (ChanDet.tooLong_iff hr avg).1 (Int.not_le.2 (h r hr)))
  unfold ChanDet.triggerSet
  dsimp only
  rw [hshort]
  rfl

/-- Only a set in trigger is forced out (R69). -/
theorem ChanDet.step_unforced (h : inTrigger d = false) : (d.step p grade t w).2 = false := by
  unfold ChanDet.step
  split
  · rfl
  · split
    · rfl
    · cases hd : d.state with
      | off | settling | warmup | quiet | pending => rfl
      | triggered | ending => simp [inTrigger, hd] at h

end

/-- A word is taken, or the row finds none to take. -/
theorem takesNoWord_or (s : State) (w : SetWord) : takesNoWord s w ∨ (w.powered = true ∧ w.settling = false) := by
  unfold takesNoWord
  cases w.powered <;> cases w.settling <;> simp

section
variable {s : State} {c : Channel} {t : ArrayTime} {w : SetWord}

theorem exec_settlingEnd_noEvent (h : noEvent (.settlingEnd c w) s) : exec (.settlingEnd c w) s = .next s := by
  unfold exec execSettlingEnd
  obtain hno | hstate := h
  · exact channelEvent_untaken hno fun old r hr _ => by rcases hr with hr | hr <;> simp [hr]
  · exact channelEvent_misses (by simp [hstate])

theorem exec_warmupEnd_noEvent (h : noEvent (.warmupEnd c w) s) : exec (.warmupEnd c w) s = .next s := by
  unfold exec execWarmupEnd
  obtain hno | ⟨hp, hs⟩ := takesNoWord_or s w
  · exact channelEvent_untaken hno fun old r hr _ => by rcases hr with hr | hr <;> simp [hr]
  obtain hno | hstate | hlong := h
  · exact channelEvent_untaken hno fun old r hr _ => by rcases hr with hr | hr <;> simp [hr]
  · exact channelEvent_misses (by simp [hstate])
  · refine channelEvent_misses ?_
    by_cases hw : (s.det.chan.get c).state = .warmup
    · rw [channelResult, ChanDet.step_of_warmup hp hs hw, ChanDet.warm_state hlong, hw]
      rfl
    · simp [hw]

theorem exec_channelTriggered_noEvent (h : noEvent (.channelTriggered c t w) s) :
    exec (.channelTriggered c t w) s = .next s := by
  unfold exec execChannelTriggered
  obtain hno | ⟨hp, hs⟩ := takesNoWord_or s w
  · exact channelEvent_untaken hno fun old r hr _ => by rcases hr with hr | hr <;> simp [hr]
  obtain hno | ⟨hq, hpend⟩ | ⟨hq, hh⟩ | ⟨hpend, hh⟩ := h
  · exact channelEvent_untaken hno fun old r hr _ => by rcases hr with hr | hr <;> simp [hr]
  · exact channelEvent_misses (by simp [hq, hpend])
  · refine channelEvent_misses ?_
    rw [channelResult, ChanDet.step_of_quiet hp hs hq]
    simp [ChanDet.quietSet_holds hq hh]
  · refine channelEvent_misses ?_
    rw [channelResult, ChanDet.step_of_pending hp hs hpend]
    simp [ChanDet.pendingSet_holds hh]

theorem exec_triggerEnd_noEvent (h : noEvent (.triggerEnd c t w) s) : exec (.triggerEnd c t w) s = .next s := by
  unfold exec execTriggerEnd
  obtain hno | ⟨hp, hs⟩ := takesNoWord_or s w
  · exact channelEvent_untaken hno fun old r hr _ => by rcases hr with hr | hr <;> simp [hr]
  obtain hno | hout | hh := h
  · exact channelEvent_untaken hno fun old r hr _ => by rcases hr with hr | hr <;> simp [hr]
  · exact channelEvent_misses (by rw [voting_eq_inTrigger, hout]; rfl)
  · refine channelEvent_misses ?_
    rw [voting_eq_inTrigger]
    cases hin : inTrigger (s.det.chan.get c) with
    | false => rfl
    | true =>
      rw [channelResult, ChanDet.step_inTrigger hp hs hin]
      obtain hstate | hforce := ChanDet.triggerSet_holds (p := s.profile) (t := t) (w := w) hin hh
      · simp [hstate]
      · simp [hforce]

theorem exec_maxTrigger_noEvent (h : noEvent (.maxTrigger c t w) s) : exec (.maxTrigger c t w) s = .next s := by
  unfold exec execMaxTrigger
  obtain hno | ⟨hp, hs⟩ := takesNoWord_or s w
  · exact channelEvent_untaken hno fun _ _ _ hr => hr
  obtain hno | hout | hh := h
  · exact channelEvent_untaken hno fun _ _ _ hr => hr
  · exact channelEvent_misses (ChanDet.step_unforced hout)
  · refine channelEvent_misses ?_
    rw [channelResult]
    cases hin : inTrigger (s.det.chan.get c) with
    | false => exact ChanDet.step_unforced hin
    | true =>
      rw [ChanDet.step_inTrigger hp hs hin]
      exact ChanDet.triggerSet_short hh

end

/-! ### The other rows -/

theorem scheduleReached_not {s : State} (h : ∀ d, s.bat.nextDue = some d → diffUs s.tb.clock d < 0) :
    scheduleReached s = false := by
  unfold scheduleReached
  cases hd : s.bat.nextDue with
  | none => rfl
  | some d => simpa using h d hd

theorem tickDue_none {s : State} (h : ∀ n, s.tb.nextTick = some n → diffUs s.tb.clock n < 0) : tickDue s = none := by
  unfold tickDue
  cases hn : s.tb.nextTick with
  | none => rfl
  | some n =>
    dsimp only
    rw [if_neg (Int.not_le.2 (h n hn))]

theorem clearOldOpen_young {h : Heater} {t : ArrayTime} (hy : ∀ u, h.openSince = some u → diffUs t u < 3600000000) :
    h.clearOldOpen t = h := by
  unfold Heater.clearOldOpen
  cases hu : h.openSince with
  | none => rfl
  | some u => exact if_neg (Int.not_le.2 (hy u hu))

/-- The exposure-reset on-delay is not met now for the first time (R182). -/
theorem exposureDue_not {s : State} (h : noEvent .exposureReset s) : exposureDue s = false := by
  unfold exposureDue
  refine and_false_of_imp fun hmet => ?_
  rw [Bool.not_eq_true'] at hmet
  have hcold : warmEnough s.profile.freezeLimit s.batteryTemp = false →
      (s.heat.resetDelay.eval (warmEnough s.profile.freezeLimit s.batteryTemp) s.tb.clock 3600000000).isMet = false := by
    intro hc
    rw [hc]
    rfl
  have hyoung : (∀ start, s.heat.resetDelay.start = some start → diffUs s.tb.clock start < 3600000000) →
      (s.heat.resetDelay.eval (warmEnough s.profile.freezeLimit s.batteryTemp) s.tb.clock 3600000000).isMet = false := by
    intro hy
    have hdiff : diffUs s.tb.clock (s.heat.resetDelay.start.getD s.tb.clock) < 3600000000 := by
      cases hs : s.heat.resetDelay.start with
      | none => simp [diffUs]
      | some start => exact hy start hs
    unfold OnDelay.eval
    split
    · simpa [hmet] using hdiff
    · rfl
  obtain h | h | h | h := h
  · rw [hmet] at h
    cases h
  · exact hcold (by simp [State.batteryTemp, h, warmEnough])
  · refine hcold ?_
    unfold warmEnough State.batteryTemp
    split
    · rfl
    next x hx =>
      split at hx
      · cases hx
      · exact decide_eq_false (Int.not_le.2 (h x hx))
  · exact hyoung h

theorem instantReached_not {s : State} (h : ∀ n, ¬instantDue s n) : (s.awake && instantReached s) = false :=
  and_false_of_imp fun ha => Bool.eq_false_iff.2 fun hr => by
    obtain ⟨n, hn, hle⟩ := (instantReached_iff s).1 hr
    exact h n ⟨ha, hn, hle⟩

theorem quietTest_idle {s : State} (h : s.line.quiet = true ∨ s.line.lastValid = none) : quietTest s = s := by
  have hq : quietReached s = false := by
    unfold quietReached
    rcases h with h | h <;> simp [h]
  rw [quietTest, hq]
  rfl

theorem receiving_not {s : State} (h : s.line.rx = .deaf ∨ s.line.sending = true) : s.receiving = false :=
  Bool.eq_false_iff.2 fun hr => by
    obtain ⟨-, hrx, hs⟩ := (receiving_iff s).1 hr
    rcases h with h | h
    · exact hrx h
    · rw [hs] at h
      cases h

/-- The rows of access to the line, with nothing in the transmit queue or another access state (R190 to R193). -/
theorem exec_access_noEvent {s : State} :
    (noEvent .idleGapMet s → exec .idleGapMet s = .next s) ∧
      (noEvent .backoffExpiry s → exec .backoffExpiry s = .next s) ∧
      (noEvent .mismatch s → exec .mismatch s = .next s) ∧ (noEvent .frameSent s → exec .frameSent s = .next s) := by
  unfold noEvent exec execIdleGapMet execBackoffExpiry execMismatch execFrameSent Line.level
  cases s.line.queue with
  | nil => simp
  | cons q rest =>
    cases s.line.access with
    | idle | waiting | transmitting e stamp => simp
    | backoff n => cases n <;> simp

/-- The rows of the capture, where it holds no set (R134). -/
theorem exec_capture_noEvent {s : State} (h : ∀ id num x, ¬captureHolds s id num x) :
    exec .captureTakeSet s = .next s ∧ exec .captureEndTime s = .next s ∧ exec .recordMaxReached s = .next s ∧
      exec .pageAllocation s = .next s := by
  have hrest := captureMove_rests h
  have ht : takesNext s = false := by simp only [takesNext, hrest]
  have he : endsNext s = false := by simp only [endsNext, hrest]
  have hr : reachesLimit s = false := by simp only [reachesLimit, hrest]
  have ha : allocatesNext s = false := by simp only [allocatesNext, hrest]
  exact ⟨doWhen_not (by rw [ht, Bool.and_false]) _ _, doWhen_not (by rw [he, Bool.and_false]) _ _,
    doWhen_not (by rw [hr, Bool.and_false]) _ _, doWhen_not (by rw [ha, Bool.and_false]) _ _⟩

/-- The rows of the engine's completions, where no such operation is in flight (R127). -/
theorem exec_completion_noEvent {s : State} :
    (noEvent .eraseComplete s → exec .eraseComplete s = .next s) ∧
      (noEvent .captureProgramComplete s → exec .captureProgramComplete s = .next s) ∧
      (noEvent .careSnapshotComplete s → exec .careSnapshotComplete s = .next s) ∧
      (noEvent .markComplete s → exec .markComplete s = .next s) := by
  unfold noEvent exec execEraseComplete execCaptureProgramComplete execCareSnapshotComplete execMarkComplete
  cases s.rm.flight with
  | none => simp
  | some o => cases o <;> simp

/-- A command changes nothing where the event that its row names is not there (log entries 2 and 4). -/
theorem exec_noEvent {c : Instr} {s : State} (h : noEvent c s) : exec c s = .next s := by
  have hphase : ∀ {p : Phase}, s.phase ≠ p → (s.phase == p) = false := beq_eq_false_iff_ne.2
  cases c with
  | powerOn | pickAged | eventEnd | alertRepeatDue | owedSnapshot | shedExit | fullAnchor | emptyAnchor | maxOn
  | deferralExpired | openCheck | engineOperationStart | nominalMicrosecond => exact h.elim
  | brownOut a => simp only [exec, execBrownOut, doWhen_not (bne_eq_false_iff_eq.2 h)]
  | brownOutRecovery | restartTakesEffect | profileRead | careRestore | startUpScan | lineEnable | samplerStart =>
    simp only [exec, execBrownOutRecovery, execRestartTakesEffect, execProfileRead, execCareRestore, execStartUpScan,
      execLineEnable, execSamplerStart, doWhen_not (hphase h)]
  | sampleTick inp => simp only [exec, execSampleTick, tickDue_none h]
  | settlingEnd c w => exact exec_settlingEnd_noEvent h
  | warmupEnd c w => exact exec_warmupEnd_noEvent h
  | channelTriggered c t w => exact exec_channelTriggered_noEvent h
  | triggerEnd c t w => exact exec_triggerEnd_noEvent h
  | maxTrigger c t w => exact exec_maxTrigger_noEvent h
  | captureTakeSet => exact (exec_capture_noEvent h).1
  | captureEndTime => exact (exec_capture_noEvent h).2.1
  | recordMaxReached => exact (exec_capture_noEvent h).2.2.1
  | pageAllocation => exact (exec_capture_noEvent h).2.2.2
  | schedule => simp only [exec, execSchedule, scheduleReached_not h, Bool.and_false, doWhen_not]
  | heaterOpenClear => simp only [exec, execHeaterOpenClear, doWhen, clearOldOpen_young h, ite_self]
  | exposureReset => simp only [exec, execExposureReset, exposureDue_not h, Bool.and_false, doWhen_not]
  | steeringInstant => exact doWhen_not (instantReached_not h) _ _
  | peerExpiry => exact doWhen_not (by rw [instantReached_not h, Bool.false_and]) _ _
  | ppsEdge => exact doWhen_not (by rw [show s.profile.ppsEnable = false from h, Bool.and_false]) _ _
  | beaconReceived head b =>
    obtain ⟨hrow, -, -, -, -, -⟩ := exec_unheard h
    exact hrow head b
  | pickFrameReceived head p =>
    obtain ⟨-, hrow, -, -, -, -⟩ := exec_unheard h
    exact hrow head p
  | alertFrameReceived head a =>
    obtain ⟨-, -, hrow, -, -, -⟩ := exec_unheard h
    exact hrow head a
  | badFrame f =>
    obtain ⟨-, -, -, hrow, -, -⟩ := exec_unheard h
    exact hrow f
  | frameNotHandedOn kind sender target =>
    obtain ⟨-, -, -, -, hrow, -⟩ := exec_unheard h
    exact hrow kind sender target
  | badRequest q code args =>
    obtain ⟨-, -, -, -, -, hrow⟩ := exec_unheard h
    exact hrow q code args
  | status | peer | event | record | page | release | wipe | setSeconds | latchClear | restart =>
    exact congrArg Host.Outcome.next (takeQuery_unheard h _ _)
  | idleGapMet => exact exec_access_noEvent.1 h
  | backoffExpiry => exact exec_access_noEvent.2.1 h
  | mismatch => exact exec_access_noEvent.2.2.1 h
  | frameSent => exact exec_access_noEvent.2.2.2 h
  | lineTurnsBusy delimiter => simp only [exec, execLineTurnsBusy, doWhen_not (receiving_not h)]
  | sectionReset => simp only [exec, execSectionReset, doWhen, quietTest_idle h, ite_self]
  | uplinkReportSent =>
    have hsent : reportSent s = false := by
      obtain hnone | hshort := h
      · simp [reportSent, hnone]
      · have hus : ¬reportUs ≤ s.events.sentUs := Nat.not_le.2 hshort
        simp [reportSent, hus]
    exact doWhen_not (by rw [hsent, Bool.and_false]) _ _
  | eraseComplete => exact exec_completion_noEvent.1 h
  | captureProgramComplete => exact exec_completion_noEvent.2.1 h
  | careSnapshotComplete => exact exec_completion_noEvent.2.2.1 h
  | markComplete => exact exec_completion_noEvent.2.2.2 h

/-! ### A part that has stopped (R149, R215) -/

/-- A row's work in a part that does not work. -/
theorem doWhen_asleep {s : State} (ha : s.awake = false) (g : Bool) (work : State → State) :
    doWhen (s.awake && g) s work = .next s := doWhen_not (by rw [ha, Bool.false_and]) _ _

theorem channelEvent_asleep {s : State} (ha : s.awake = false) (c : Channel) (t : ArrayTime) (w : SetWord)
    (hit : ChanState → ChanDet × Bool → Bool) : channelEvent s c t w hit = .next s := by
  unfold channelEvent
  exact doWhen_not (by rw [ha, Bool.false_and, Bool.false_and]) _ _

theorem exec_access_asleep {s : State} (ha : s.awake = false) :
    exec .idleGapMet s = .next s ∧ exec .backoffExpiry s = .next s ∧ exec .mismatch s = .next s ∧
      exec .frameSent s = .next s := by
  unfold exec execIdleGapMet execBackoffExpiry execMismatch execFrameSent
  simp only [doWhen_asleep ha, doWhen_not ha]
  refine ⟨?_, ?_, ?_, ?_⟩ <;> split <;> rfl

/-- The part stands in none of the phases in which a row of the start acts (R214). -/
theorem phase_of_asleep {s : State} (ha : s.awake = false) : s.phase = .brownOut ∨ s.phase = .restarting := by
  unfold State.awake at ha
  cases hp : s.phase <;> simp [hp] at ha ⊢

/-- A command changes nothing in a part that a brown-out or a coming restart has stopped (log entries 4 and 38). -/
theorem exec_stoppedFor {c : Instr} {s : State} (h : stoppedFor c s) : exec c s = .next s := by
  obtain ⟨ha, hf, hpower, hbrown, hrecovery, hrestart⟩ := h
  have hunheard : ∀ r, ¬hears s r := fun r ⟨hr, _⟩ => Bool.false_ne_true (ha.symm.trans hr)
  have hphase : ∀ p : Phase, p ≠ .brownOut → p ≠ .restarting → s.phase ≠ p := by
    rintro p h1 h2 rfl
    exact (phase_of_asleep ha).elim h1 h2
  have hflight : ∀ o, s.rm.flight ≠ some o := fun o ho => by rw [hf] at ho; cases ho
  cases c with
  | powerOn => exact absurd rfl hpower
  | brownOut a => exact absurd rfl (hbrown a)
  | brownOutRecovery => exact absurd rfl hrecovery
  | restartTakesEffect => exact absurd rfl hrestart
  | profileRead | careRestore | startUpScan | lineEnable | samplerStart =>
    exact exec_noEvent (hphase _ (by decide) (by decide))
  | sampleTick inp =>
    change execSampleTick inp s = .next s
    unfold execSampleTick
    split
    · rfl
    · simp only [doWhen_not ha]
  | settlingEnd | warmupEnd | channelTriggered | triggerEnd | maxTrigger =>
    simp only [exec, execSettlingEnd, execWarmupEnd, execChannelTriggered, execTriggerEnd, execMaxTrigger,
      channelEvent_asleep ha]
  | captureTakeSet | captureEndTime | recordMaxReached | pageAllocation =>
    simp only [exec, execCaptureTakeSet, execCaptureEndTime, execRecordMaxReached, execPageAllocation, doWhen_asleep ha]
  | pickAged | eventEnd | alertRepeatDue | owedSnapshot | heaterOpenClear | sectionReset | engineOperationStart
  | nominalMicrosecond =>
    simp only [exec, execPickAged, execEventEnd, execAlertRepeatDue, execOwedSnapshot, execHeaterOpenClear,
      execSectionReset, execEngineOperationStart, execNominalMicrosecond, doWhen_not ha]
  | schedule | shedExit | fullAnchor | emptyAnchor | maxOn | deferralExpired | exposureReset | openCheck | steeringInstant
  | peerExpiry | ppsEdge | uplinkReportSent =>
    simp only [exec, execSchedule, execShedExit, execFullAnchor, execEmptyAnchor, execMaxOn, execDeferralExpired,
      execExposureReset, execOpenCheck, execSteeringInstant, execPeerExpiry, execPpsEdge, execUplinkReportSent,
      Bool.and_assoc, doWhen_asleep ha]
  | beaconReceived | pickFrameReceived | alertFrameReceived | badFrame | frameNotHandedOn | status | peer | event | record
  | page | release | wipe | setSeconds | latchClear | restart | badRequest => exact exec_noEvent hunheard
  | idleGapMet => exact (exec_access_asleep ha).1
  | backoffExpiry => exact (exec_access_asleep ha).2.1
  | mismatch => exact (exec_access_asleep ha).2.2.1
  | frameSent => exact (exec_access_asleep ha).2.2.2
  | lineTurnsBusy delimiter =>
    have hrec : s.receiving = false := by simp [State.receiving, ha]
    simp only [exec, execLineTurnsBusy, doWhen_not hrec]
  | eraseComplete => exact exec_noEvent fun p => ⟨hflight _, hflight _, hflight _⟩
  | captureProgramComplete => exact exec_noEvent fun p bytes => hflight _
  | careSnapshotComplete => exact exec_noEvent fun p offset bytes => hflight _
  | markComplete => exact exec_noEvent fun m => hflight _

/-! ### Every command goes on -/

/-- A completion goes on, where its operation names a page of the memory (R123; log entry 32). -/
theorem exec_completion_goesOn {s : State} (h : ∀ o, s.rm.flight = some o → o.page < 512) :
    (∃ t, exec .eraseComplete s = .next t) ∧ (∃ t, exec .captureProgramComplete s = .next t) ∧
      (∃ t, exec .careSnapshotComplete s = .next t) ∧ ∃ t, exec .markComplete s = .next t := by
  refine ⟨?_, ?_, ?_, ?_⟩
  · change ∃ t, execEraseComplete s = .next t
    unfold execEraseComplete
    split
    next p hf => exact ⟨_, completeOn_page (h _ hf) _⟩
    next p hf => exact ⟨_, completeOn_page (h _ hf) _⟩
    next p hf => exact ⟨_, completeOn_page (h _ hf) _⟩
    · exact ⟨_, rfl⟩
  · change ∃ t, execCaptureProgramComplete s = .next t
    unfold execCaptureProgramComplete
    split
    next p bytes hf => exact ⟨_, completeOn_page (h _ hf) _⟩
    · exact ⟨_, rfl⟩
  · change ∃ t, execCareSnapshotComplete s = .next t
    unfold execCareSnapshotComplete
    split
    next p off bytes hf => exact ⟨_, completeOn_page (h _ hf) _⟩
    · exact ⟨_, rfl⟩
  · change ∃ t, execMarkComplete s = .next t
    unfold execMarkComplete
    split
    next m hf => exact ⟨_, completeOn_page (h _ hf) _⟩
    · exact ⟨_, rfl⟩

/-- No command ends the run, where the operation in flight names a page of the memory. -/
theorem exec_goesOn {s : State} (h : ∀ o, s.rm.flight = some o → o.page < 512) (c : Instr) : ∃ t, exec c s = .next t := by
  obtain ⟨herase, hprogram, hcare, hmark⟩ := exec_completion_goesOn h
  cases c with
  | eraseComplete => exact herase
  | captureProgramComplete => exact hprogram
  | careSnapshotComplete => exact hcare
  | markComplete => exact hmark
  | sampleTick inp =>
    change ∃ t, execSampleTick inp s = .next t
    unfold execSampleTick
    split <;> exact ⟨_, rfl⟩
  | beaconReceived head b =>
    change ∃ t, execBeaconReceived head b s = .next t
    unfold execBeaconReceived
    split <;> exact ⟨_, rfl⟩
  | alertFrameReceived head a =>
    change ∃ t, execAlertFrameReceived head a s = .next t
    unfold execAlertFrameReceived
    split <;> exact ⟨_, rfl⟩
  | badRequest q code args =>
    change ∃ t, execBadRequest q code args s = .next t
    unfold execBadRequest
    split <;> exact ⟨_, rfl⟩
  | idleGapMet =>
    change ∃ t, execIdleGapMet s = .next t
    unfold execIdleGapMet
    split <;> exact ⟨_, rfl⟩
  | backoffExpiry =>
    change ∃ t, execBackoffExpiry s = .next t
    unfold execBackoffExpiry
    split <;> exact ⟨_, rfl⟩
  | mismatch =>
    change ∃ t, execMismatch s = .next t
    unfold execMismatch
    split <;> exact ⟨_, rfl⟩
  | frameSent =>
    change ∃ t, execFrameSent s = .next t
    unfold execFrameSent
    split <;> exact ⟨_, rfl⟩
  | _ => exact ⟨_, rfl⟩

end Sys2Proof.Machine

namespace Sys2Proof.Proofs

open Sys2Proof.Machine

/-- Settles O2, command by command. -/
theorem everyCommandGoesOn : Obligations.EveryCommandGoesOn :=
  ⟨fun c _ h => exec_goesOn h c, fun _ _ h => h.elim exec_noEvent exec_stoppedFor⟩

end Sys2Proof.Proofs

/-! SUPPORT. The bytes of a snapshot and of a care page's header, field by field, and what is read back of them (R163, R167,
R216). -/

namespace Sys2Proof.Machine

/-! ### The layout (R216) -/

/-- The bytes of a snapshot before its CRC. -/
def snapshotBody (x : Snapshot) : List Byte :=
  beBytes 4 x.seq ++ timeBytes x.time ++ [byteOf x.timeState] ++ beBytes 5 x.q ++ beBytes 2 x.capacity ++
    beBytes 4 x.exposure ++ [byteOf (flagBits [x.below]), byteOf x.shed] ++ beBytes 4 x.nextId ++ [byteOf x.cause]

theorem snapshotBytes_eq (x : Snapshot) : snapshotBytes x = snapshotBody x ++ crcBytes (snapshotBody x) := rfl

theorem snapshotBody_length (x : Snapshot) : (snapshotBody x).length = 30 := by simp [snapshotBody, timeBytes]

theorem snapshotBytes_take (x : Snapshot) : (snapshotBytes x).take 30 = snapshotBody x :=
  List.take_left' (snapshotBody_length x)

theorem snapshotBytes_eq_fields (x : Snapshot) : snapshotBytes x =
    (snapshotFields x (crc16 ((snapshotBytes x).take 30))).flatMap fieldBytes := by
  rw [snapshotBytes_take, snapshotBytes_eq, crcBytes]
  generalize crc16 (snapshotBody x) = crc
  rw [snapshotBody, timeBytes_eq_fields]
  simp only [snapshotFields, List.flatMap_append, List.flatMap_cons, List.flatMap_nil, List.append_nil, fieldBytes_nat,
    fieldBytes_flags1, beBytes_one, List.append_assoc, List.cons_append, List.nil_append]

/-- The bytes of a care page's header before its CRC. -/
def careHeaderBody (page : Nat) : List Byte := [0x43#8] ++ beBytes 2 page ++ List.replicate 27 (0 : Byte)

theorem careHeader_eq (page : Nat) : careHeader page = careHeaderBody page ++ crcBytes (careHeaderBody page) := rfl

theorem careHeader_take (page : Nat) : (careHeader page).take 30 = careHeaderBody page :=
  List.take_left' (l₁ := careHeaderBody page) rfl

theorem careHeader_eq_fields (page : Nat) : careHeader page =
    (carePageFields page (crc16 ((careHeader page).take 30))).flatMap fieldBytes := by
  have hkind : fieldBytes (1, 0x43) = [0x43#8] := by decide
  have hzeros : (List.replicate 27 ((1, 0) : Nat × Int)).flatMap fieldBytes = List.replicate 27 0 := by decide
  rw [careHeader_take, careHeader_eq, crcBytes]
  generalize crc16 (careHeaderBody page) = crc
  rw [careHeaderBody]
  simp only [carePageFields, List.flatMap_append, List.flatMap_cons, List.flatMap_nil, List.append_nil, hkind, hzeros,
    fieldBytes_nat, List.append_assoc, List.cons_append, List.nil_append]

/-! ### What is read back (R167) -/

/-- The number in a field of bytes that are laid out field by field, where it fits its width. -/
theorem headerField_fields {fields : Fields} {i off k n : Nat} (hf : fields[i]? = some (k, (n : Int)))
    (hoff : ((fields.take i).map Prod.fst).sum = off) (hn : n < 256 ^ k) :
    headerField (fields.flatMap fieldBytes) off k = n := by
  obtain ⟨hi, hf⟩ := List.getElem?_eq_some_iff.1 hf
  have hsplit : fields.flatMap fieldBytes = (fields.take i).flatMap fieldBytes ++
      (beBytes k n ++ (fields.drop (i + 1)).flatMap fieldBytes) := by
    rw [← fieldBytes_nat, ← List.flatMap_cons, ← hf, ← List.flatMap_append, List.getElem_cons_drop, List.take_append_drop]
  have hbytes : ((fields.flatMap fieldBytes).drop off).take k = beBytes k n := by
    rw [hsplit, List.drop_left' ((fields_length _).trans hoff), List.take_left' (beBytes_length k n)]
  rw [headerField_number hbytes, Nat.mod_eq_of_lt hn]

/-- The fields of a slot's bytes, each by its place. -/
theorem parseSnapshot_eq (bs : List Byte) : parseSnapshot bs =
    { seq := headerField bs 0 4, time := ⟨headerField bs 4 4, headerField bs 8 3⟩, timeState := headerField bs 11 1
      q := headerField bs 12 5, capacity := headerField bs 17 2, exposure := headerField bs 19 4
      below := headerField bs 23 1 % 2 == 1, shed := headerField bs 24 1, nextId := headerField bs 25 4
      cause := headerField bs 29 1 } := by
  have htime : parseTime (bs.drop 4) = ⟨headerField bs 4 4, headerField bs 8 3⟩ := by
    rw [parseTime, List.drop_drop]
    rfl
  rw [parseSnapshot, htime]
  rfl

/-- The numbers in a snapshot's bytes, where they fit their widths (R216). -/
theorem snapshotBytes_numbers {x : Snapshot} (h : snapshotFits x) :
    headerField (snapshotBytes x) 0 4 = x.seq ∧ headerField (snapshotBytes x) 4 4 = x.time.sec ∧
      headerField (snapshotBytes x) 8 3 = x.time.us ∧ headerField (snapshotBytes x) 11 1 = x.timeState ∧
      headerField (snapshotBytes x) 12 5 = x.q ∧ headerField (snapshotBytes x) 17 2 = x.capacity ∧
      headerField (snapshotBytes x) 19 4 = x.exposure ∧ headerField (snapshotBytes x) 23 1 = flagBits [x.below] ∧
      headerField (snapshotBytes x) 24 1 = x.shed ∧ headerField (snapshotBytes x) 25 4 = x.nextId ∧
      headerField (snapshotBytes x) 29 1 = x.cause := by
  obtain ⟨hseq, hsec, hus, hstate, hq, hcap, hexp, hshed, hnext, hcause⟩ := h
  have hflag : flagField [x.below] = (1, (flagBits [x.below] : Int)) := by cases x.below <;> rfl
  have hbelow : flagBits [x.below] < 256 ^ 1 := by cases x.below <;> decide
  rw [snapshotBytes_eq_fields]
  generalize crc16 _ = crc
  exact ⟨headerField_fields (i := 0) rfl rfl hseq, headerField_fields (i := 1) rfl rfl hsec,
    headerField_fields (i := 2) rfl rfl hus, headerField_fields (i := 3) rfl rfl hstate,
    headerField_fields (i := 4) rfl rfl hq, headerField_fields (i := 5) rfl rfl hcap,
    headerField_fields (i := 6) rfl rfl hexp, headerField_fields (i := 7) (congrArg some hflag) rfl hbelow,
    headerField_fields (i := 8) rfl rfl (hshed.trans_lt (by decide)), headerField_fields (i := 9) rfl rfl hnext,
    headerField_fields (i := 10) rfl rfl hcause⟩

theorem parseSnapshot_written {x : Snapshot} (h : snapshotFits x) : parseSnapshot (snapshotBytes x) = x := by
  obtain ⟨hseq, hsec, hus, hstate, hq, hcap, hexp, hflag, hshed, hnext, hcause⟩ := snapshotBytes_numbers h
  have hbelow : (flagBits [x.below] % 2 == 1) = x.below := by cases x.below <;> rfl
  rw [parseSnapshot_eq, hseq, hsec, hus, hstate, hq, hcap, hexp, hflag, hshed, hnext, hcause, hbelow]

theorem slotValid_iff (bs : List Byte) : slotValid bs = true ↔
    (∃ b ∈ bs, b ≠ erasedByte) ∧ careCrc bs = true ∧ (parseSnapshot bs).shed ≤ 3 := by
  have hparts : slotValid bs =
      (bs.any (· != erasedByte) && careCrc bs && decide ((parseSnapshot bs).shed ≤ 3)) := rfl
  rw [hparts]
  simp [and_assoc]

/-- A snapshot written is a valid one: its flag byte is not erased, its CRC is good, and its shed level is from 0 to 3. -/
theorem slotValid_written {x : Snapshot} (h : snapshotFits x) : slotValid (snapshotBytes x) = true := by
  obtain ⟨b, hb, hne⟩ := snapshotBytes_flag x
  rw [slotValid_iff, parseSnapshot_written h]
  obtain ⟨-, -, -, -, -, -, -, hshed, -⟩ := h
  exact ⟨⟨b, List.mem_of_getElem? hb, hne⟩, snapshotBytes_crc x, hshed⟩

end Sys2Proof.Machine

namespace Sys2Proof.Proofs

open Sys2Proof.Machine

/-- Settles O18, by the fields of a snapshot and of a care page's header. -/
theorem snapshotReadsBack : Obligations.SnapshotReadsBack := by
  refine ⟨fun x => ?_, fun page => ?_, fun x hx =>
    ⟨snapshotBytes_length x, slotValid_written hx, parseSnapshot_written hx⟩⟩
  · have hstand := fieldsStand_flatMap (snapshotFields x (crc16 ((snapshotBytes x).take 30)))
    rwa [← snapshotBytes_eq_fields] at hstand
  · have hstand := fieldsStand_flatMap (carePageFields page (crc16 ((careHeader page).take 30)))
    rwa [← careHeader_eq_fields] at hstand

end Sys2Proof.Proofs

/-! SUPPORT. The care log as it is read at a start: the valid snapshots in the order of the care pages and of their slots, the
newest of them, and the bytes of a snapshot and of a care page's header (R163, R167, R216). -/

namespace Sys2Proof.Machine

/-! ### The newest snapshot (R167) -/

theorem newestSnapshot_eq_none {xs : List (Nat × Snapshot)} : newestSnapshot xs = none ↔ xs = [] := by
  cases xs with
  | nil => exact iff_of_true rfl rfl
  | cons x rest =>
    refine iff_of_false (fun h => ?_) (List.cons_ne_nil x rest)
    unfold newestSnapshot at h
    split at h
    · cases h
    · split at h <;> cases h

/-- No snapshot before the newest one has a higher sequence number, and every one after it has a lower one. -/
theorem newestSnapshot_split {xs : List (Nat × Snapshot)} {p : Nat × Snapshot} (h : newestSnapshot xs = some p) :
    ∃ before after, xs = before ++ p :: after ∧ (∀ y ∈ before, y.2.seq ≤ p.2.seq) ∧ ∀ y ∈ after, y.2.seq < p.2.seq := by
  induction xs generalizing p with
  | nil => cases h
  | cons x rest ih =>
    unfold newestSnapshot at h
    split at h
    next hnone =>
      cases h
      exact ⟨[], rest, rfl, by simp, by simp [newestSnapshot_eq_none.1 hnone]⟩
    next y hy =>
      obtain ⟨before, after, hrest, hbefore, hafter⟩ := ih hy
      split at h
      next hle =>
        cases h
        exact ⟨x :: before, after, by rw [hrest]; rfl, List.forall_mem_cons.2 ⟨hle, hbefore⟩, hafter⟩
      next hlt =>
        cases h
        have hmax : ∀ z ∈ rest, z.2.seq ≤ y.2.seq := by
          rw [hrest]
          intro z hz
          rcases List.mem_append.1 hz with hz | hz
          · exact hbefore z hz
          · rcases List.mem_cons.1 hz with rfl | hz
            · exact le_refl _
            · exact (hafter z hz).le
        exact ⟨[], rest, rfl, by simp, fun z hz => (hmax z hz).trans_lt (Nat.lt_of_not_le hlt)⟩

/-! ### The care log in order (R163, R167) -/

/-- The valid snapshots of a place in the care order, each with its slot. -/
def placeLog (m : Memory) (place : Nat) : List (Nat × Nat × Snapshot) :=
  if careReadable (pageCells m (carePage place)) (carePage place) then
    (List.range 63).filterMap fun slot =>
      (slotSnapshot (pageCells m (carePage place)) (carePage place) slot).map fun x => (place, slot, x)
  else []

/-- The valid snapshots of the care log, each with its place and its slot, in their order. -/
def careLog (m : Memory) : List (Nat × Nat × Snapshot) := (List.range 8).flatMap (placeLog m)

/-- The order of the care pages and of their slots. -/
def logBefore (a b : Nat × Nat × Snapshot) : Prop := a.1 < b.1 ∨ (a.1 = b.1 ∧ a.2.1 < b.2.1)

theorem mem_placeLog {m : Memory} {place : Nat} {t : Nat × Nat × Snapshot} : t ∈ placeLog m place ↔
    t.1 = place ∧ t.2.1 < 63 ∧ careReadable (pageCells m (carePage place)) (carePage place) = true ∧
      slotSnapshot (pageCells m (carePage place)) (carePage place) t.2.1 = some t.2.2 := by
  obtain ⟨place', slot, x⟩ := t
  unfold placeLog
  split
  next hr =>
    simp only [List.mem_filterMap, List.mem_range, Option.map_eq_some_iff, Prod.mk.injEq, hr, true_and]
    constructor
    · rintro ⟨slot', hs, x', hx, rfl, rfl, rfl⟩
      exact ⟨rfl, hs, hx⟩
    · rintro ⟨rfl, hs, hx⟩
      exact ⟨slot, hs, x, hx, rfl, rfl, rfl⟩
  next hr => simp [hr]

theorem mem_careLog {m : Memory} {place slot : Nat} {x : Snapshot} :
    (place, slot, x) ∈ careLog m ↔ snapshotAt m place slot x := by
  simp only [careLog, List.mem_flatMap, List.mem_range, mem_placeLog, snapshotAt]
  constructor
  · rintro ⟨p, hp, rfl, hrest⟩
    exact ⟨hp, hrest⟩
  · rintro ⟨hp, hrest⟩
    exact ⟨place, hp, rfl, hrest⟩

theorem placeLog_order (m : Memory) (place : Nat) : (placeLog m place).Pairwise logBefore := by
  unfold placeLog
  split
  · refine List.Pairwise.filterMap _ ?_ List.pairwise_lt_range
    rintro a b hab t ht u hu
    obtain ⟨x, -, rfl⟩ := Option.map_eq_some_iff.1 ht
    obtain ⟨y, -, rfl⟩ := Option.map_eq_some_iff.1 hu
    exact .inr ⟨rfl, hab⟩
  · exact .nil

theorem careLog_order (m : Memory) : (careLog m).Pairwise logBefore := by
  refine List.pairwise_flatMap.2 ⟨fun place _ => placeLog_order m place, List.pairwise_lt_range.imp ?_⟩
  intro a b hab t ht u hu
  rw [mem_placeLog] at ht hu
  exact .inl (by rw [ht.1, hu.1]; exact hab)

/-- The model's list is the care log without the slots. -/
theorem careLog_snapshots (m : Memory) :
    (careLog m).map (fun t => (t.1, t.2.2)) = (List.range 8).flatMap (pageSnapshots m) := by
  unfold careLog
  rw [List.map_flatMap]
  congr 1
  funext place
  unfold placeLog pageSnapshots
  dsimp only
  split
  · rw [List.map_filterMap]
    congr 1
    funext slot
    rw [Option.map_map]
    rfl
  · rfl

/-- The restored snapshot in its place of the care log. -/
theorem restoredSnapshot_split {m : Memory} {place : Nat} {x : Snapshot} (h : restoredSnapshot m = some (place, x)) :
    ∃ before slot after, careLog m = before ++ (place, slot, x) :: after ∧
      (∀ t ∈ before, t.2.2.seq ≤ x.seq) ∧ ∀ t ∈ after, t.2.2.seq < x.seq := by
  unfold restoredSnapshot at h
  rw [← careLog_snapshots] at h
  obtain ⟨before, after, hsplit, hbefore, hafter⟩ := newestSnapshot_split h
  obtain ⟨l, r, hlog, rfl, hr⟩ := List.map_eq_append_iff.1 hsplit
  obtain ⟨⟨place', slot, x'⟩, after', rfl, ht, rfl⟩ := List.map_eq_cons_iff.1 hr
  cases ht
  rw [List.forall_mem_map] at hbefore hafter
  exact ⟨l, slot, after', hlog, hbefore, hafter⟩

/-- The restored snapshot is valid, and of the valid ones it is of the highest sequence number, and the latest such (R167). -/
theorem restoredSnapshot_newest {m : Memory} {place : Nat} {x : Snapshot} (h : restoredSnapshot m = some (place, x)) :
    ∃ slot, snapshotAt m place slot x ∧ ∀ place' slot' y, snapshotAt m place' slot' y →
      y.seq < x.seq ∨ (y.seq = x.seq ∧ (place' < place ∨ (place' = place ∧ slot' ≤ slot))) := by
  obtain ⟨before, slot, after, hlog, hbefore, hafter⟩ := restoredSnapshot_split h
  refine ⟨slot, mem_careLog.1 (by rw [hlog]; simp), fun place' slot' y hy => ?_⟩
  have hmem := mem_careLog.2 hy
  have horder := careLog_order m
  rw [hlog] at hmem horder
  rcases List.mem_append.1 hmem with hin | hin
  · have hlt : logBefore (place', slot', y) (place, slot, x) :=
      (List.pairwise_append.1 horder).2.2 _ hin _ List.mem_cons_self
    rcases Nat.lt_or_eq_of_le (hbefore _ hin) with hs | hs
    · exact .inl hs
    · exact .inr ⟨hs, hlt.imp_right fun ⟨hp, hs⟩ => ⟨hp, hs.le⟩⟩
  · rcases List.mem_cons.1 hin with he | hin
    · cases he
      exact .inr ⟨rfl, .inr ⟨rfl, le_refl _⟩⟩
    · exact .inl (hafter _ hin)

theorem restoredSnapshot_none {m : Memory} (h : restoredSnapshot m = none) (place slot : Nat) (x : Snapshot) :
    ¬snapshotAt m place slot x := by
  unfold restoredSnapshot at h
  rw [← careLog_snapshots, newestSnapshot_eq_none, List.map_eq_nil_iff] at h
  rw [← mem_careLog, h]
  exact List.not_mem_nil

/-- A valid snapshot has a shed level from 0 to 3 (R167). -/
theorem snapshotAt_shed {m : Memory} {place slot : Nat} {x : Snapshot} (h : snapshotAt m place slot x) : x.shed ≤ 3 := by
  obtain ⟨-, -, -, hx⟩ := h
  unfold slotSnapshot at hx
  dsimp only at hx
  split at hx
  next hv =>
    cases hx
    obtain ⟨-, -, hshed⟩ := (slotValid_iff _).1 hv
    exact hshed
  · cases hx

/-! ### The restore (R167, R168, R185) -/

theorem exec_careRestore {s : State} (h : s.phase = .step2) :
    exec .careRestore s = .next { restoreCare s with phase := .step3 } := by
  change execCareRestore s = _
  rw [execCareRestore, doWhen, h]
  rfl

/-- The charge restored from a snapshot whose capacity field is not 0 (R167). -/
theorem restoredCharge_of_capacity {p : Profile} {x : Snapshot} (h : x.capacity ≠ 0) : restoredCharge p x =
    min (p.capacityAh * 3600000) (if x.capacity = p.capacityAh then x.q else x.q * p.capacityAh / x.capacity) := by
  unfold restoredCharge
  rw [if_neg h]
  rfl

theorem restoreCare_some {s : State} {place : Nat} {x : Snapshot} (h : restoredSnapshot s.mem = some (place, x)) :
    restoreCare s = { s with
      bat := { restoreBattery s.bat s.profile place x with nextDue := some (addUs s.tb.clock schedulePeriod) }
      heat := restoreHeater s.heat s.tb.clock x.exposure x.below (if x.timeState = 0 then none else some x.time) } := by
  unfold restoreCare
  rw [h]

theorem restoreCare_none {s : State} (h : restoredSnapshot s.mem = none) :
    restoreCare s = { s with
      bat := { loseBattery s.bat s.profile with nextDue := some (addUs s.tb.clock schedulePeriod) }
      heat := restoreHeater s.heat s.tb.clock 0 false none } := by
  unfold restoreCare
  rw [h]

/-- The charge of a part that has lost its care log is half the capacity (R167). -/
theorem loseBattery_eq (b : Battery) (p : Profile) : loseBattery b p = { b with
    q := p.capacityAh * 3600000 / 2, residual := 0, shed := 0, seq := 0, logPage := 0, logSlot := 0
    restored := none, restoredNextId := 0, careLost := true } := rfl

end Sys2Proof.Machine

namespace Sys2Proof.Proofs

open Sys2Proof.Machine

/-- Settles O17: the valid snapshots stand in the order of the log, and the restore takes the newest of them. -/
theorem careLogIsRestored : Obligations.CareLogIsRestored := by
  refine ⟨fun m => ⟨fun place x h => restoredSnapshot_newest h, restoredSnapshot_none⟩, fun s hp => ⟨?_, ?_⟩⟩
  · intro place x h hc
    rw [exec_careRestore hp, restoreCare_some h, restoreBattery, restoredCharge_of_capacity hc, schedulePeriod, wrap32]
    rfl
  · intro h
    rw [exec_careRestore hp, restoreCare_none h, loseBattery_eq, schedulePeriod]
    rfl

end Sys2Proof.Proofs

/-! SUPPORT. The charge, the residual and the shed level under every operation of the Battery Monitor (R154 to R158), and HEAT
with its open latch and open-check mark under every operation of the Heater Controller (R172 to R179). -/

namespace Sys2Proof.Machine

/-! ### What the charge invariant reads -/

/-- The residual, the charge and the shed level of a Battery Monitor. -/
def Battery.counts (b : Battery) : Int × Nat × Nat := (b.residual, b.q, b.shed)

/-- The bounds of a Battery Monitor's residual, charge and shed level; the charge's once it has been restored. -/
structure Battery.InBounds (b : Battery) (restored : Bool) (full : Nat) : Prop where
  residual : |b.residual| ≤ 999
  charge : restored = true → b.q ≤ full
  shed : b.shed ≤ 3

theorem chargeInv_iff (s : State) : chargeInv s ↔ s.bat.InBounds (restoredPhase s.phase) s.profile.fullCharge :=
  ⟨fun ⟨h1, h2, h3⟩ => ⟨h1, h2, h3⟩, fun ⟨h1, h2, h3⟩ => ⟨h1, h2, h3⟩⟩

/-- The bounds read the counts alone. -/
theorem Battery.InBounds.congr {a b : Battery} {restored : Bool} {full : Nat} (h : a.InBounds restored full)
    (hc : b.counts = a.counts) : b.InBounds restored full := by
  simp only [Battery.counts, Prod.mk.injEq] at hc
  obtain ⟨hr, hq, hs⟩ := hc
  exact ⟨hr ▸ h.residual, hq ▸ h.charge, hs ▸ h.shed⟩

/-- Two states, the second with its charge in bounds where the first has. -/
def ChargeKept (s t : State) : Prop := chargeInv s → chargeInv t

theorem ChargeKept.trans {s t u : State} (h : ChargeKept s t) (k : ChargeKept t u) : ChargeKept s u := k ∘ h

/-- A state that differs in the Battery Monitor alone, by an operation that keeps its bounds. -/
theorem ChargeKept.of_bat {s t : State} (hp : t.phase = s.phase) (hf : t.profile = s.profile)
    (h : ∀ restored, s.bat.InBounds restored s.profile.fullCharge → t.bat.InBounds restored s.profile.fullCharge) :
    ChargeKept s t := by
  unfold ChargeKept
  rw [chargeInv_iff, chargeInv_iff, hp, hf]
  exact h _

theorem ChargeKept.of_counts {s t : State} (hc : t.bat.counts = s.bat.counts) (hp : t.phase = s.phase)
    (hf : t.profile = s.profile) : ChargeKept s t := .of_bat hp hf fun _ h => h.congr hc

/-- A phase before the restore asks nothing of the charge. -/
theorem ChargeKept.of_unrestored {s t : State} (hc : t.bat.counts = s.bat.counts) (hp : restoredPhase t.phase = false) :
    ChargeKept s t := by
  unfold ChargeKept
  rw [chargeInv_iff, chargeInv_iff, hp]
  exact fun h => Battery.InBounds.congr ⟨h.residual, fun hr => absurd hr Bool.false_ne_true, h.shed⟩ hc

/-! ### Operations that leave the counts -/

theorem startCare_counts {s u : State} (h : startCare s = some u) : u.bat.counts = s.bat.counts := by
  unfold startCare at h
  split at h
  · cases h
  · split at h <;> cases h <;> rfl

/-- The engine's choice moves the placed request of the Battery Monitor on, and nothing else of it (R130). -/
@[simp] theorem engineKick_counts (s : State) : (engineKick s).bat.counts = s.bat.counts := by
  unfold engineKick
  split
  · rfl
  · cases h : startFirst s with
    | none => rfl
    | some u =>
      unfold startFirst at h
      split at h
      next t ht =>
        cases h
        split at ht
        · exact startCare_counts ht
        · cases ht
      · split at h
        · simp only [Option.or_eq_some_iff] at h
          rcases h with h | ⟨-, h | ⟨-, h | ⟨-, h⟩⟩⟩
          · simp [startMark_frame _ _ h]
          · simp [startProgram_frame _ _ h]
          · simp [startAhead_frame _ _ h]
          · simp [startWipe_frame _ _ h]
        · cases h

theorem engineKick_chargeKept (s : State) : ChargeKept s (engineKick s) :=
  .of_counts (engineKick_counts s) (by simp) (by simp)

@[simp] theorem snapshotDue_counts (s : State) (c : SnapCause) : (snapshotDue s c).bat.counts = s.bat.counts := by
  unfold snapshotDue
  split <;> rfl

@[simp] theorem scheduleTest_counts (s : State) : (scheduleTest s).bat.counts = s.bat.counts := by
  unfold scheduleTest
  dsimp only
  split
  · exact snapshotDue_counts (lowerDue s) .schedule
  · rfl

@[simp] theorem formOwed_counts (s : State) : (formOwed s).bat.counts = s.bat.counts := by
  unfold formOwed
  split <;> rfl

@[simp] theorem careErased_counts (s : State) (page : Nat) : (careErased s page).bat.counts = s.bat.counts := by
  unfold careErased
  dsimp only
  split <;> rfl

theorem careDone_counts (s : State) : (careDone s).bat.counts = s.bat.counts := by
  unfold careDone
  split
  · rfl
  · dsimp only
    split
    · rfl
    · exact formOwed_counts _

@[simp] theorem dropPermit_counts (s : State) : (dropPermit s).bat.counts = s.bat.counts := rfl

@[simp] theorem chargePermit_counts (s : State) (temp : Option Int) :
    (chargePermit s temp).bat.counts = s.bat.counts := by
  unfold chargePermit
  split
  · rfl
  · split
    · rfl
    · split <;> rfl

@[simp] theorem heaterDraw_counts (s : State) (t : ArrayTime) (i : Int) : (heaterDraw s t i).bat.counts = s.bat.counts := rfl

@[simp] theorem formPermission_counts (s : State) : (formPermission s).bat.counts = s.bat.counts := rfl

@[simp] theorem restartReply_counts (s : State) : (restartReply s).state.bat.counts = s.bat.counts := by
  unfold restartReply
  split
  · rfl
  · simp

@[simp] theorem latchClearWork_counts (s : State) : (latchClearWork s).bat.counts = s.bat.counts := by
  have hcounters : ∀ u, (clearMoreCounters u).bat.counts = u.bat.counts := fun _ => rfl
  unfold latchClearWork
  rw [hcounters, clearCounters]
  rfl

@[simp] theorem carryOut_counts (s : State) (q : QueryHeader) (code : Nat) (work : State → Reply)
    (h : (work s).state.bat.counts = s.bat.counts) : (carryOut s q code work).bat.counts = s.bat.counts :=
  carryOut_keeps (fun s => s.bat.counts) s q code work (by simp) (by simp) h

@[simp] theorem takeQuery_counts (s : State) (q : QueryHeader) (handler : State → State)
    (h : ∀ u, (handler u).bat.counts = u.bat.counts) : (takeQuery s q handler).bat.counts = s.bat.counts :=
  takeQuery_keeps (fun s => s.bat.counts) s q handler (by simp) (by simp) h

@[simp] theorem takeFrame_counts (s : State) (kind sender : Nat) (work : State → State)
    (h : ∀ u, (work u).bat.counts = u.bat.counts) : (takeFrame s kind sender work).bat.counts = s.bat.counts :=
  takeFrame_keeps (fun s => s.bat.counts) s kind sender work (by simp) h

/-! ### Operations that move the counts -/

/-- What is left of a sum after its whole thousands lies within 999 (R154). -/
theorem abs_sub_thousands_le (x : Int) : |x - x.tdiv 1000 * 1000| ≤ 999 := by
  have hmod : x - x.tdiv 1000 * 1000 = x.tmod 1000 := by
    have := Int.mul_tdiv_add_tmod x 1000
    omega
  rw [hmod, abs_le]
  have h1 := Int.lt_tmod_of_pos x (b := 1000) (by decide)
  have h2 := Int.tmod_lt_of_pos x (b := 1000) (by decide)
  omega

theorem credit_inBounds {b : Battery} {restored : Bool} {full : Nat} (h : b.InBounds restored full) (amount : Int) :
    (b.credit full amount).InBounds restored full where
  residual := abs_sub_thousands_le _
  charge _ := Int.toNat_le.2 (clampInt_range (Int.natCast_nonneg full) _).2
  shed := h.shed

theorem countCharge_chargeKept (s : State) (t : ArrayTime) (i : Int) : ChargeKept s (countCharge s t i) := by
  refine .of_bat (by simp) (by simp) fun restored h => ?_
  have hlast : Battery.InBounds { s.bat with lastCurrent := some t } restored s.profile.fullCharge := h.congr rfl
  unfold countCharge
  split
  · exact hlast
  · exact credit_inBounds hlast _

theorem fullAct_inBounds {b : Battery} {restored : Bool} {full : Nat} (h : b.InBounds restored full) (d : OnDelay) :
    (b.fullAct full d).InBounds restored full := by
  unfold Battery.fullAct
  split
  · exact ⟨by simp, fun _ => le_refl full, h.shed⟩
  · exact h.congr rfl

theorem fullAnchor_chargeKept (s : State) : ChargeKept s (fullAnchor s) :=
  .of_bat rfl rfl fun _ h => fullAct_inBounds h _

theorem emptyAct_inBounds {b : Battery} {restored : Bool} {full : Nat} (h : b.InBounds restored full) (d : OnDelay) :
    (b.emptyAct full d).InBounds restored full := by
  unfold Battery.emptyAct
  split
  · refine ⟨?_, fun hr => (min_le_left _ _).trans (h.charge hr), h.shed⟩
    dsimp only
    split
    · simp
    · exact h.residual
  · exact h.congr rfl

theorem emptyAnchor_chargeKept (s : State) : ChargeKept s (emptyAnchor s) :=
  .of_bat rfl rfl fun _ h => emptyAct_inBounds h _

/-- A change of the shed level moves no charge (R157, R158). -/
theorem setShed_counts (s : State) (level : Nat) :
    (setShed s level).bat.counts = (s.bat.residual, s.bat.q, level) := by
  unfold setShed
  dsimp only
  rw [snapshotDue_counts, formPermission_counts, announceShed_bat]
  rfl

theorem setShed_chargeKept (s : State) {level : Nat} (hl : level ≤ 3) : ChargeKept s (setShed s level) :=
  .of_bat (by simp) (by simp) fun _ h =>
    Battery.InBounds.congr (a := { s.bat with shed := level }) ⟨h.residual, h.charge, hl⟩ (setShed_counts s level)

/-- A fall of the shed level by one. -/
theorem setShed_chargeKept_fall (s : State) : ChargeKept s (setShed s (s.bat.shed - 1)) := fun h =>
  setShed_chargeKept s ((Nat.sub_le _ _).trans ((chargeInv_iff s).1 h).shed) h

theorem entryLevel_le_three (s : State) : entryLevel s ≤ 3 := by
  unfold entryLevel
  split_ifs <;> omega

theorem evaluateShed_chargeKept (s : State) : ChargeKept s (evaluateShed s) := by
  unfold evaluateShed exitRule
  dsimp only
  split_ifs
  · exact setShed_chargeKept s (entryLevel_le_three s)
  · exact id
  · exact setShed_chargeKept_fall s
  · exact .of_counts rfl rfl rfl

/-! ### The conversions and the tick -/

theorem batteryVoltage_chargeKept (s : State) : ChargeKept s (batteryVoltage s) := by
  unfold batteryVoltage
  exact (((fullAnchor_chargeKept s).trans (emptyAnchor_chargeKept _)).trans (evaluateShed_chargeKept _)).trans
    (.of_counts (formPermission_counts _) (by simp) (by simp))

theorem batteryCurrent_chargeKept (s : State) (n : ArrayTime) (i : Int) : ChargeKept s (batteryCurrent s n i) :=
  ((countCharge_chargeKept s n i).trans (fullAnchor_chargeKept _)).trans (evaluateShed_chargeKept _)

theorem hkReaders_chargeKept (s : State) (i : HkInput) (n : ArrayTime) (r : Option Int) :
    ChargeKept s (hkReaders s i n r) := by
  cases i with
  | batVolt => exact batteryVoltage_chargeKept s
  | batCurr => exact batteryCurrent_chargeKept s n _
  | batTemp | encTemp | heatCurr | srcVolt =>
    exact .of_counts (by simp [hkReaders, heaterCurrent]) (by simp [hkReaders]) (by simp [hkReaders])

theorem samplerWork_chargeKept (s : State) (inp : TickInput) (n : ArrayTime) : ChargeKept s (samplerWork s inp n) := by
  have hreaders : ∀ u : State, u.bat.counts = s.bat.counts → u.phase = s.phase → u.profile = s.profile →
      ChargeKept s (engineKick (hkReaders u s.sampler.slot n (hkResult s.sampler.slot inp.hk))) := fun u hc hp hf =>
    ((ChargeKept.of_counts hc hp hf).trans (hkReaders_chargeKept u _ n _)).trans (engineKick_chargeKept _)
  cases h : s.formsSet
  · rw [samplerWork_off h]
    exact hreaders _ rfl rfl rfl
  · rw [samplerWork_on h]
    refine hreaders _ ?_ ?_ ?_ <;> rw [ringEnter_eq] <;> split <;> simp

theorem tickWork_chargeKept (s : State) (inp : TickInput) (n : ArrayTime) : ChargeKept s (tickWork s inp n) :=
  (ChargeKept.of_counts (by simp [tickSweeps]) (by simp [tickSweeps]) (by simp [tickSweeps])).trans
    (samplerWork_chargeKept (tickSweeps (issueTick s n)) inp n)

/-! ### The restore, and every command -/

/-- The restored charge lies within the capacity, and the restored shed level is that of a valid snapshot (R167). -/
theorem restoreCare_inBounds (s : State) (restored : Bool) :
    (restoreCare s).bat.InBounds restored s.profile.fullCharge := by
  cases h : restoredSnapshot s.mem with
  | none =>
    rw [restoreCare_none h]
    exact ⟨by simp [loseBattery], fun _ => Nat.div_le_self _ _, Nat.zero_le _⟩
  | some p =>
    obtain ⟨place, x⟩ := p
    obtain ⟨slot, hx, -⟩ := restoredSnapshot_newest h
    rw [restoreCare_some h]
    exact ⟨by simp [restoreBattery], fun _ => min_le_left _ _, snapshotAt_shed hx⟩

theorem restoreCare_chargeKept (s : State) : ChargeKept s { restoreCare s with phase := .step3 } := fun _ =>
  (chargeInv_iff _).2 (by simpa using restoreCare_inBounds s _)

/-- A step of the start between two steps after the restore. -/
theorem chargeKept_of_start {s t : State} {p : Phase} (hp : s.phase = p) (hrestored : restoredPhase p = true)
    (hc : t.bat = s.bat) (hf : t.profile = s.profile) : ChargeKept s t := by
  unfold ChargeKept
  rw [chargeInv_iff, chargeInv_iff, hp, hrestored, hc, hf]
  exact fun h => ⟨h.residual, fun _ => h.charge rfl, h.shed⟩

/-- A care snapshot's completion leaves the phase, or brings the restart (R165, R166). -/
theorem careDone_chargeKept (s : State) : ChargeKept s (careDone s) := by
  cases hr : s.bat.placed with
  | none =>
    unfold careDone
    rw [hr]
    exact id
  | some r =>
    by_cases hc : r.cause = .restart
    · refine .of_unrestored (careDone_counts s) ?_
      simp only [careDone, hr, hc, if_true]
      rfl
    · refine .of_counts (careDone_counts s) ?_ (by simp)
      simp only [careDone, hr, hc, if_false]
      simp

/-- Every command keeps the charge, the residual and the shed level in bounds (R154, R157). -/
theorem Effect.chargeKept {s t : State} (h : Effect s t) : ChargeKept s t := by
  cases h with
  | start => exact fun _ => by simp [chargeInv, startState, State.reset, Battery.reset, restoredPhase]
  | brownOut a => exact .of_unrestored rfl rfl
  | profileRead reads => exact .of_unrestored (by simp) rfl
  | careRestore => exact restoreCare_chargeKept s
  | startUpScan hp => exact chargeKept_of_start hp rfl (by simp) (by simp)
  | lineEnable hp => exact chargeKept_of_start hp rfl (by simp) (by simp)
  | samplerStart hp => exact chargeKept_of_start hp rfl (by simp) (by simp)
  | sampleTick inp n => exact tickWork_chargeKept s inp n
  | captureMove => exact .of_counts (by simp [moveCapture]) (by simp) (by simp)
  | shedExit => exact (setShed_chargeKept_fall s).trans (engineKick_chargeKept _)
  | fullAnchor => exact fullAnchor_chargeKept s
  | emptyAnchor => exact emptyAnchor_chargeKept s
  | readingQuery q code work hw => exact .of_counts (by simp [hw]) (by simp [hw]) (by simp [hw])
  | openCheck hk => exact .of_counts (by simp [heaterCurrent]) (by simp) (by simp)
  | careSnapshotComplete p offset bytes =>
    refine ChargeKept.trans ?_ (engineKick_chargeKept _)
    unfold careProgramDone
    refine ChargeKept.trans (t := clearFlight _) ?_ (careDone_chargeKept _)
    exact .of_counts rfl rfl rfl
  | _ => exact .of_counts (by simp) (by simp) (by simp)


/-! ### HEAT, the open latch and the open-check mark -/

/-- HEAT is off under an open latch, and the open-check mark stands only while HEAT is on (R175, R178). -/
structure Heater.Guarded (h : Heater) : Prop where
  latch : h.openSince.isSome = true → h.on = false
  mark : h.openCheck = true → h.on = true

theorem heaterInv_iff (s : State) : heaterInv s ↔ s.heat.Guarded := ⟨fun ⟨h1, h2⟩ => ⟨h1, h2⟩, fun ⟨h1, h2⟩ => ⟨h1, h2⟩⟩

/-- HEAT, whether the open latch stands, and the open-check mark. -/
def Heater.levels (h : Heater) : Bool × Bool × Bool := (h.on, h.openSince.isSome, h.openCheck)

theorem Heater.Guarded.congr {a b : Heater} (h : a.Guarded) (hl : b.levels = a.levels) : b.Guarded := by
  simp only [Heater.levels, Prod.mk.injEq] at hl
  obtain ⟨hon, hopen, hmark⟩ := hl
  exact ⟨by rw [hopen, hon]; exact h.latch, by rw [hmark, hon]; exact h.mark⟩

/-- A heater that is off with no check to make, whatever the latch. -/
theorem Heater.Guarded.of_off {h : Heater} (hon : h.on = false) (hmark : h.openCheck = false) : h.Guarded :=
  ⟨fun _ => hon, fun hc => absurd (hmark.symm.trans hc) Bool.false_ne_true⟩

/-! ### The Heater Controller's operations -/

/-- The held times alone are brought into line (R176). -/
theorem inLine_eq (h : Heater) (t : ArrayTime) : ∃ since deferral delay, h.inLine t = { h with
    since := since, deferral := deferral, openSince := h.openSince.map (notAfter t), resetDelay := delay } := ⟨_, _, _, rfl⟩

theorem inLine_levels (h : Heater) (t : ArrayTime) : (h.inLine t).levels = h.levels := by
  obtain ⟨since, deferral, delay, he⟩ := inLine_eq h t
  rw [he]
  simp [Heater.levels]

/-- What the stopwatch of the freeze exposure moves (R181). -/
theorem stopwatch_eq (h : Heater) (limit : Int) (t : ArrayTime) (temp : Option Int) : ∃ exposure rem accumulating,
    h.stopwatch limit t temp = { h with
      exposure := exposure, rem := rem, lastTemp := some t, accumulating := accumulating } := ⟨_, _, _, rfl⟩

theorem stopwatch_levels (h : Heater) (limit : Int) (t : ArrayTime) (temp : Option Int) :
    (h.stopwatch limit t temp).levels = h.levels := by
  obtain ⟨exposure, rem, accumulating, he⟩ := stopwatch_eq h limit t temp
  rw [he]
  rfl

theorem exposureDelay_levels (h : Heater) (limit : Int) (t : ArrayTime) (temp : Option Int) :
    (h.exposureDelay limit t temp).levels = h.levels := by
  unfold Heater.exposureDelay
  dsimp only
  split <;> rfl

theorem reportExit_levels (h : Heater) (now : ArrayTime) : (h.reportExit now).levels = h.levels := by
  obtain ⟨exposure, he, -⟩ := reportExit_gapCounted h now
  rw [he]
  rfl

/-- A latch that is cleared asks nothing of HEAT (R172, R180). -/
theorem Heater.Guarded.cleared {h : Heater} (hg : h.Guarded) : Heater.Guarded { h with openSince := none } :=
  ⟨fun hc => absurd hc Bool.false_ne_true, hg.mark⟩

theorem clearOldOpen_guarded {h : Heater} (hg : h.Guarded) (t : ArrayTime) : (h.clearOldOpen t).Guarded := by
  unfold Heater.clearOldOpen
  split
  · exact hg
  · split
    · exact hg.cleared
    · exact hg

theorem forceOff_guarded (s : State) (t : ArrayTime) (c : ForcedCause) : (forceOff s t c).heat.Guarded :=
  .of_off rfl rfl

/-- No heating is wanted under an open latch (R173, R174). -/
theorem heatWanted_latched {s : State} (h : s.heat.openSince.isSome = true) (temp : Option Int) :
    heatWanted s temp = false := by
  have hshut : (heatDemand s).1 = false := by
    unfold heatDemand
    rw [h]
    split_ifs <;> rfl
  unfold heatWanted
  cases temp with
  | none => rfl
  | some x =>
    dsimp only
    rw [hshut, Bool.false_and]

/-- A wanted switch turns HEAT off, or on while the latch does not stand (R174, R178). -/
theorem makeSwitch_guarded {s : State} {temp : Option Int} (hw : heatWanted s temp ≠ s.heat.on) (t : ArrayTime) :
    (makeSwitch s t).heat.Guarded := by
  cases hon : s.heat.on with
  | true => exact .of_off (by rw [makeSwitch_on, hon]; rfl) (by simp [makeSwitch, switchHeat, hon])
  | false =>
    refine ⟨fun ho => ?_, fun _ => by rw [makeSwitch_on, hon]; rfl⟩
    exact absurd ((heatWanted_latched (s := s) ho temp).trans hon.symm) hw

theorem heaterDecide_guarded {s : State} (h : s.heat.Guarded) (t : ArrayTime) (temp : Option Int) :
    (heaterDecide s t temp).heat.Guarded := by
  unfold heaterDecide
  split
  · exact h.congr rfl
  next hw =>
    split
    · exact h
    · split
      · exact makeSwitch_guarded hw t
      · split
        · exact h.congr rfl
        · split
          · exact (makeSwitch_guarded hw t).congr rfl
          · exact h

theorem heaterEvaluate_guarded {s : State} (h : s.heat.Guarded) (t : ArrayTime) (temp : Option Int) :
    (heaterEvaluate s t temp).heat.Guarded := by
  have hready : ∀ limit, ((((s.heat.inLine t).stopwatch limit t temp).exposureDelay limit t temp).clearOldOpen t).Guarded :=
    fun limit => clearOldOpen_guarded (h.congr ((exposureDelay_levels _ _ _ _).trans
      ((stopwatch_levels _ _ _ _).trans (inLine_levels _ _)))) t
  unfold heaterEvaluate
  dsimp only
  split
  · split
    · exact forceOff_guarded _ _ _
    · exact heaterDecide_guarded (hready _) t temp
  · exact heaterDecide_guarded (hready _) t temp

theorem openCheckMade_guarded {s : State} (h : s.heat.Guarded) (t : ArrayTime) (i : Int) :
    (openCheckMade s t i).heat.Guarded := by
  unfold openCheckMade
  dsimp only
  split
  · exact forceOff_guarded _ _ _
  · exact ⟨h.latch, fun hc => absurd hc Bool.false_ne_true⟩

theorem heaterCurrent_guarded {s : State} (h : s.heat.Guarded) (t : ArrayTime) (i : Int) :
    (heaterCurrent s t i).heat.Guarded := by
  have hline : Heater.Guarded (timesHeld s t).heat := h.congr (inLine_levels s.heat t)
  have hstuck : ∀ u : State, u.heat.Guarded → (stuckCheck u t i).heat.Guarded := by
    intro u hu
    unfold stuckCheck
    split
    · exact hu.congr rfl
    · exact hu
  have hdraw : (heaterCurrent s t i).heat = (heaterCurrentChecks s t i).heat := by simp [heaterCurrent]
  rw [hdraw, heaterCurrentChecks_eq]
  refine hstuck _ ?_
  split
  · exact openCheckMade_guarded hline t i
  · exact hline

/-! ### The report of the exit from UNSET (R25, R183) -/

@[simp] theorem unsetPath_levels (s : State) : (unsetPath s).heat.levels = s.heat.levels := by
  unfold unsetPath seedStep
  split
  · rw [leaveUnset_heat, reportExit_levels]
    simp
  · rfl

@[simp] theorem steerPath_levels (s : State) : (steerPath s).heat.levels = s.heat.levels := by
  unfold steerPath
  split
  · exact unsetPath_levels s
  · split <;> simp
  · simp

@[simp] theorem steeringWork_levels (s : State) : (steeringWork s).heat.levels = s.heat.levels := by
  simp [steeringWork, shiftedInstant]

theorem secondsReply_levels (s : State) (n : Nat) : (secondsReply s n).state.heat.levels = s.heat.levels := by
  unfold secondsReply setSecondsWork
  dsimp only
  split
  · split
    · rw [leaveUnset_heat, reportExit_levels]
      rfl
    · rfl
  · rfl

/-! ### Every command -/

/-- Two states, the second with its heater guarded where the first has. -/
def HeatKept (s t : State) : Prop := s.heat.Guarded → t.heat.Guarded

theorem HeatKept.of_levels {s t : State} (h : t.heat.levels = s.heat.levels) : HeatKept s t := fun hg => hg.congr h

theorem latchClearWork_heatKept (s : State) : HeatKept s (latchClearWork s) := by
  intro hg
  have hcounters : ∀ u, (clearMoreCounters u).heat.levels = u.heat.levels := fun _ => rfl
  have hlatches : Heater.Guarded (clearCounters (clearLatches s)).heat := by
    rw [show (clearCounters (clearLatches s)).heat = { s.heat with openSince := none, stuck := false } by
      simp [clearLatches]]
    exact hg.cleared.congr rfl
  exact hlatches.congr (hcounters _)

/-- A query keeps the heater guarded where its work does. -/
theorem takeQuery_heatKept (s : State) (q : QueryHeader) (code : Nat) (work : State → Reply)
    (h : ∀ u, HeatKept u (work u).state) : HeatKept s (takeQuery s q (fun u => carryOut u q code work)) := by
  have hcarried : ∀ u : State, HeatKept u (carryOut u q code work) := by
    intro u
    unfold carryOut
    dsimp only
    split
    · exact .of_levels (by simp)
    · exact fun hg => (h u hg).congr (by simp)
  intro hg
  have hscreened : Heater.Guarded (screenFrame (endFrame s) 4 q.sender.toNat).heat := hg.congr (by simp)
  unfold takeQuery
  rcases takeFrame_cases s 4 q.sender.toNat fun u =>
    if u.ownId = some q.target.toNat then engineKick (carryOut u q code work) else u with hc | hc | hc <;> rw [hc]
  · exact hg
  · exact hscreened
  · split
    · exact (hcarried _ hscreened).congr (by simp)
    · exact hscreened

theorem hkReaders_heatKept (s : State) (i : HkInput) (n : ArrayTime) (r : Option Int) : HeatKept s (hkReaders s i n r) := by
  cases i with
  | batTemp => exact fun hg => heaterEvaluate_guarded (s := chargePermit s r) (hg.congr (by simp)) n r
  | heatCurr => exact fun hg => heaterCurrent_guarded hg n _
  | batVolt | batCurr | encTemp | srcVolt => exact .of_levels (by simp [hkReaders])

theorem samplerWork_heatKept (s : State) (inp : TickInput) (n : ArrayTime) : HeatKept s (samplerWork s inp n) := by
  have hreaders : ∀ u : State, u.heat = s.heat →
      HeatKept s (engineKick (hkReaders u s.sampler.slot n (hkResult s.sampler.slot inp.hk))) := fun u hu hg =>
    Heater.Guarded.congr (hkReaders_heatKept u s.sampler.slot n (hkResult s.sampler.slot inp.hk) (hu ▸ hg)) (by simp)
  cases h : s.formsSet
  · rw [samplerWork_off h]
    exact hreaders _ rfl
  · rw [samplerWork_on h]
    refine hreaders _ ?_
    rw [ringEnter_eq]
    split <;> simp

/-- Every command keeps HEAT off under an open latch, and the open-check mark with HEAT on (R175, R178). -/
theorem Effect.heatKept {s t : State} (h : Effect s t) : HeatKept s t := by
  cases h with
  | start => exact fun _ => .of_off rfl rfl
  | careRestore => exact .of_levels (by unfold restoreCare; split <;> rfl)
  | sampleTick inp n =>
    exact fun hg => samplerWork_heatKept (tickSweeps (issueTick s n)) inp n (hg.congr (by simp [tickSweeps]))
  | maxOn => exact fun _ => forceOff_guarded s _ _
  | deferralExpired heat hd hh =>
    intro hg
    unfold deferralDue at hd
    simp only [Bool.and_eq_true, bne_iff_ne] at hd
    obtain ⟨⟨⟨-, hw⟩, -⟩, -⟩ := hd
    subst hh
    exact (makeSwitch_guarded hw s.tb.clock).congr rfl
  | heaterOpenClear => exact fun hg => clearOldOpen_guarded hg _
  | exposureReset => exact .of_levels (exposureDelay_levels _ _ _ _)
  | openCheck hk => exact fun hg => heaterCurrent_guarded hg _ _
  | steeringInstant => exact .of_levels (steeringWork_levels s)
  | readingQuery q code work hw => exact takeQuery_heatKept s q code work fun u => .of_levels (by rw [hw])
  | setSeconds q n => exact takeQuery_heatKept s q 8 _ fun u => .of_levels (secondsReply_levels u n)
  | latchClear q => exact takeQuery_heatKept s q 9 _ latchClearWork_heatKept
  | _ => exact .of_levels (by simp)

end Sys2Proof.Machine

namespace Sys2Proof.Proofs

open Sys2Proof.Machine

/-- Settles O9: each command's work keeps the Battery Monitor's bounds and the heater guarded. -/
theorem chargeAndHeatStayInBounds : Obligations.ChargeAndHeatStayInBounds := by
  refine ⟨fun s t hs h => ?_, fun s t hs h => ?_⟩
  · rcases step_effect h with rfl | ⟨rest, he⟩
    · exact hs
    · exact he.chargeKept hs
  · rw [heaterInv_iff] at *
    rcases step_effect h with rfl | ⟨rest, he⟩
    · exact hs
    · exact he.heatKept hs

end Sys2Proof.Proofs

/-! SUPPORT. The rows of the Battery Monitor: the schedule of the care log, the exit from a shed level, and the two anchors (R155
to R165). -/

namespace Sys2Proof.Machine

/-! ### The schedule (R164, R165) -/

theorem dueSnapshot_placed_none {s : State} (h : s.bat.placed = none) (cause : SnapCause) :
    dueSnapshot s cause = formedSnapshot s cause := if_pos h

/-- A snapshot that is owed leaves the due time. -/
theorem dueSnapshot_owed_nextDue {s : State} (h : s.bat.placed ≠ none) (cause : SnapCause) :
    (dueSnapshot s cause).bat.nextDue = s.bat.nextDue := by
  unfold dueSnapshot
  rw [if_neg h]

theorem scheduleReached_iff (s : State) :
    scheduleReached s = true ↔ ∃ d, s.bat.nextDue = some d ∧ 0 ≤ diffUs s.tb.clock d := by
  unfold scheduleReached
  cases s.bat.nextDue <;> simp

theorem lowerDue_some {s : State} {d : ArrayTime} (h : s.bat.nextDue = some d) : lowerDue s = { s with
    bat := { s.bat with
      nextDue := some (if 900000000 < diffUs d s.tb.clock then addUs s.tb.clock 900000000 else d) } } := by
  unfold lowerDue
  rw [h]
  rfl

theorem lowerDue_none {s : State} (h : s.bat.nextDue = none) : lowerDue s = s := by
  have hbat : { s.bat with nextDue := none } = s.bat := by rw [← h]
  unfold lowerDue
  rw [h, Option.map_none, hbat]

theorem scheduleTest_eq (s : State) :
    scheduleTest s = if scheduleReached (lowerDue s) then dueSnapshot (lowerDue s) .schedule else lowerDue s := by
  rw [← snapshotDue_eq_dueSnapshot]
  rfl

theorem formOwed_idle {s : State} (h : s.bat.owed = none ∨ s.bat.placed ≠ none) : formOwed s = s := by
  unfold formOwed
  split
  next cause ho hp => exact absurd hp (h.resolve_left (by rw [ho]; exact Option.some_ne_none cause))
  · rfl

theorem formOwed_formed {s : State} {cause : SnapCause} (ho : s.bat.owed = some cause) (hp : s.bat.placed = none) :
    formOwed s = formedSnapshot { s with bat := { s.bat with owed := none } } cause := by
  unfold formOwed
  rw [ho, hp]
  exact formSnapshot_eq _ cause

theorem exec_owedSnapshot {s : State} (ha : s.awake = true) : exec .owedSnapshot s = .next (engineKick (formOwed s)) := by
  change execOwedSnapshot s = _
  rw [execOwedSnapshot, doWhen, if_pos ha]

/-- SCHEDULE, where the due time stands (log entry 2). -/
theorem exec_schedule {s : State} (ha : s.awake = true) : exec .schedule s =
    .next (if scheduleReached s then engineKick (dueSnapshot s .schedule) else s) := by
  change execSchedule s = _
  rw [execSchedule, doWhen, ha, Bool.true_and, ← snapshotDue_eq_dueSnapshot]

/-! ### The exit from a shed level and the anchors (R155 to R160) -/

/-- The exit on-delay of a level of 1 or more is met, and no higher level is entered (R158). -/
theorem exitDue_iff {s : State} {d : OnDelay} (h3 : s.bat.shed ≤ 3)
    (hd : delayAt s.bat.exit (exitHolds s s.bat.shed) s.tb.clock 300000000 d) :
    exitDue s = true ↔ entryLevel s ≤ s.bat.shed ∧ 1 ≤ s.bat.shed ∧ d.isMet = true := by
  unfold exitDue
  rw [Bool.and_eq_true, Bool.and_eq_true, decide_eq_true_eq, decide_eq_true_eq, and_assoc]
  refine and_congr_right fun _ => and_congr_right fun h1 => ?_
  rw [eval_of_delayAt (exitCondition_iff h1 h3) hd]

/-- An on-delay is met only while its condition holds. -/
theorem holds_of_met {d after : OnDelay} {P : Prop} {now : ArrayTime} {need : Int} (h : delayAt d P now need after)
    (hm : after.isMet = true) : P := by
  by_contra hp
  rw [h.1 hp] at hm
  cases hm

theorem one_le_of_exitHolds {s : State} {level : Nat} (h : exitHolds s level) : 1 ≤ level := by
  rcases h with ⟨rfl, -⟩ | ⟨rfl, -⟩ | ⟨rfl, -⟩ <;> decide

theorem exec_shedExit {s : State} (ha : s.awake = true) : exec .shedExit s =
    .next (if exitDue s then engineKick (setShed s (s.bat.shed - 1)) else s) := by
  change execShedExit s = _
  rw [execShedExit, doWhen, ha, Bool.true_and]

theorem exec_fullAnchor {s : State} {d : OnDelay} (ha : s.awake = true)
    (hd : delayAt s.bat.full (fullHolds s) s.tb.clock 600000000 d) :
    exec .fullAnchor s = .next (if d.isMet then fullActed s d else s) := by
  change execFullAnchor s = _
  rw [execFullAnchor, doWhen, ha, Bool.true_and, eval_of_delayAt (fullCondition_iff s) hd, fullAnchor_eq hd]

theorem exec_emptyAnchor {s : State} {d : OnDelay} (ha : s.awake = true)
    (hd : delayAt s.bat.empty (emptyHolds s) s.tb.clock 60000000 d) :
    exec .emptyAnchor s = .next (if d.isMet then emptyActed s d else s) := by
  change execEmptyAnchor s = _
  rw [execEmptyAnchor, doWhen, ha, Bool.true_and, eval_of_delayAt (emptyCondition_iff s) hd, emptyAnchor_eq hd]

end Sys2Proof.Machine

namespace Sys2Proof.Proofs

open Sys2Proof.Machine

/-- Settles O55: the tick's test on the lowered due time, and the two rows. -/
theorem snapshotsFallDue : Obligations.SnapshotsFallDue := by
  intro s
  refine ⟨fun cause => ⟨fun hp => ?_, fun hp => dueSnapshot_owed_nextDue hp cause⟩, fun d near u hd hnear hu => ?_,
    fun hn => ?_, fun ha => ⟨fun h => ?_, fun d hd => ?_, fun cause ho hp => ?_⟩⟩
  · rw [dueSnapshot_placed_none hp]
    rfl
  · have hlow : lowerDue s = u := by rw [lowerDue_some hd, ← hnear, hu]
    have hreached : scheduleReached u = true ↔ 0 ≤ diffUs s.tb.clock near := by
      rw [scheduleReached_iff, hu]
      simp
    rw [scheduleTest_eq, hlow]
    exact ⟨fun hlt => if_neg (by rw [hreached]; exact Int.not_le.2 hlt), fun hle => if_pos (hreached.2 hle)⟩
  · rw [scheduleTest_eq, lowerDue_none hn, if_neg]
    rw [scheduleReached_iff, hn]
    simp
  · rw [exec_owedSnapshot ha, formOwed_idle h]
  · have hreached : scheduleReached s = true ↔ 0 ≤ diffUs s.tb.clock d := by
      rw [scheduleReached_iff, hd]
      simp
    rw [exec_schedule ha]
    exact ⟨fun hlt => by rw [if_neg (by rw [hreached]; exact Int.not_le.2 hlt)],
      fun hle => by rw [if_pos (hreached.2 hle)]⟩
  · rw [exec_owedSnapshot ha, formOwed_formed ho hp]

/-- Settles O56, row by row. -/
theorem shedAndAnchorsAct : Obligations.ShedAndAnchorsAct := by
  intro s ha
  refine ⟨fun d h3 hd => ⟨fun hnot => ?_, fun hno hm w hw => ?_⟩, fun d hd => ?_, fun d hd => ?_⟩
  · rw [exec_shedExit ha, if_neg]
    rw [exitDue_iff h3 hd]
    rintro ⟨hle, -, hm⟩
    rcases hnot with ⟨k, hk, hentry⟩ | hmet
    · exact (entryLevel_spec s).2 k (hle.trans_lt hk) hentry
    · exact Bool.false_ne_true (hmet.symm.trans hm)
  · have h1 : 1 ≤ s.bat.shed := one_le_of_exitHolds (holds_of_met hd hm)
    refine ⟨setShed s (s.bat.shed - 1), setShed_lowered h1 h3 hw, ?_⟩
    rw [exec_shedExit ha, if_pos ((exitDue_iff h3 hd).2 ⟨entryLevel_le hno, h1, hm⟩)]
  · rw [exec_fullAnchor ha hd]
    exact ⟨fun hm => by rw [hm]; rfl, fun hm => by rw [if_pos hm]⟩
  · rw [exec_emptyAnchor ha hd]
    exact ⟨fun hm => by rw [hm]; rfl, fun hm => by rw [if_pos hm]⟩

end Sys2Proof.Proofs

/-! SUPPORT. The evaluation of the Heater Controller and the rows of its events: the forced-off tests, the wanted state, the
least-time and deferral rules, and the three steps that come before them (R172 to R182). -/

namespace Sys2Proof.Machine

/-! ### The forced-off tests and the wanted state (R173 to R175) -/

theorem forcedTest_eq_some_iff {s : State} {t : ArrayTime} {r : Option Int} {cause : ForcedCause} :
    forcedTest s t r = some cause ↔ forcedBy s t r cause := by
  unfold forcedTest forcedBy
  cases r with
  | none => simp [@eq_comm _ ForcedCause.sensor]
  | some x =>
    dsimp only
    split_ifs with hcut hopen hmax
    · simp [hcut, Int.not_lt.2 hcut, @eq_comm _ ForcedCause.cutout]
    · simp [hcut, Int.not_le.1 hcut, hopen, Option.isSome_iff_ne_none.1 hopen, @eq_comm _ ForcedCause.opened]
    · simp [hcut, Int.not_le.1 hcut, Option.not_isSome_iff_eq_none.1 hopen, hmax, @eq_comm _ ForcedCause.maxOn]
    · simp [hcut, hopen, hmax]

theorem forcedTest_eq_none_iff {s : State} {t : ArrayTime} {r : Option Int} :
    forcedTest s t r = none ↔ ∀ cause, ¬forcedBy s t r cause := by
  simp only [Option.eq_none_iff_forall_ne_some, ne_eq, forcedTest_eq_some_iff]

/-- The demand is the row of R173's table, closed under an open latch and, where the row asks for it, an unspent budget. -/
theorem heatDemand_of_row {s : State} {lo hi : Int} {spentOnly : Bool} (h3 : s.bat.shed ≤ 3)
    (h : demandRow s lo hi spentOnly) :
    heatDemand s = (!s.heat.openSince.isSome && (!spentOnly || s.budgetSpent), lo, hi) := by
  obtain ⟨hsource, hzero, hlowered, hlast⟩ := h
  have hthere : s.sourcePresent = true ↔ sourceThere s := sourcePresent_iff s
  unfold heatDemand
  dsimp only
  split_ifs with h3' hsrc h0 h1
  · obtain ⟨rfl, rfl, rfl⟩ := hlast h3'
    rfl
  · obtain ⟨rfl, rfl, rfl⟩ := hsource (by omega) (hthere.1 hsrc)
    simp
  · obtain ⟨rfl, rfl, rfl⟩ := hzero h0 (mt hthere.2 hsrc)
    simp
  · obtain ⟨rfl, rfl, rfl⟩ := hlowered (.inl h1) (mt hthere.2 hsrc)
    simp [h1]
  · have h2 : s.bat.shed = 2 := by omega
    obtain ⟨rfl, rfl, rfl⟩ := hlowered (.inr h2) (mt hthere.2 hsrc)
    simp [h2]

/-- The wanted state at a reading, and off without one (R172, R174). -/
theorem heatWanted_eq {s : State} {r : Option Int} {want : Bool} (h3 : s.bat.shed ≤ 3)
    (hsome : ∀ x, r = some x → wantedIs s x want) (hnone : r = none → want = false) : heatWanted s r = want := by
  cases r with
  | none => exact (hnone rfl).symm
  | some x =>
    obtain ⟨lo, hi, spentOnly, hrow, hwant⟩ := hsome x rfl
    rw [Bool.eq_iff_iff, hwant]
    unfold heatWanted
    rw [heatDemand_of_row h3 hrow]
    cases s.heat.on <;> cases spentOnly <;> simp [State.budgetSpent, and_assoc]

/-! ### The least time, the quiet and the deferral (R176, R177) -/

theorem leastTimeMet_iff (s : State) (t : ArrayTime) : leastTimeMet s t = true ↔ leastTimeOver s t := decide_eq_true_iff

theorem quietBlocked_iff (s : State) :
    s.quietBlocked = true ↔ (∃ e ∈ s.events.entries, e.active = true) ∨ s.det.trigger = true := by
  simp [State.quietBlocked]

theorem switchFree_iff (s : State) (r : Option Int) : switchFree s r = true ↔ ¬heldByQuiet s r := by
  unfold switchFree heldByQuiet
  rw [← quietBlocked_iff]
  cases r <;> simp [or_assoc, imp_iff_not_or]

theorem deferralOver_iff (s : State) (t : ArrayTime) : deferralOver s t = true ↔
    ∃ d, s.heat.deferral = some d ∧ (s.profile.deferMax : Int) * 1000000 ≤ diffUs t d := by
  unfold deferralOver
  cases s.heat.deferral <;> simp

/-! ### The switch (R178) -/

theorem forceOff_eq_heatForcedOff (s : State) (t : ArrayTime) (cause : ForcedCause) :
    forceOff s t cause = heatForcedOff s t cause := rfl

/-- A wanted switch takes HEAT to the wanted level. -/
theorem makeSwitch_eq_heatSwitched {s : State} {want : Bool} (h : want ≠ s.heat.on) (t : ArrayTime) :
    makeSwitch s t = heatSwitched s t want := by
  rw [Bool.eq_not_of_ne h]
  rfl

/-! ### Steps 5 and 6, branch by branch (R172, R176, R177) -/

section Decision

variable {s : State} {t : ArrayTime} {r : Option Int}

theorem heaterDecide_settled (hw : heatWanted s r = s.heat.on) :
    heaterDecide s t r = { s with heat := { s.heat with deferral := none } } := if_pos hw

theorem heaterDecide_held (hw : heatWanted s r ≠ s.heat.on) (hl : ¬leastTimeOver s t) : heaterDecide s t r = s := by
  have hnot : leastTimeMet s t = false := Bool.eq_false_iff.2 (mt (leastTimeMet_iff s t).1 hl)
  unfold heaterDecide
  rw [if_neg hw, hnot]
  rfl

/-- A switch that is wanted and allowed is weighed against the quiet. -/
theorem heaterDecide_allowed (hw : heatWanted s r ≠ s.heat.on) (hl : leastTimeOver s t) : heaterDecide s t r =
    if switchFree s r then makeSwitch s t
    else if s.heat.deferral.isNone then
      { s with heat := { s.heat with deferral := some t, deferred := bump s.heat.deferred } }
    else if deferralOver s t then
      { makeSwitch s t with heat := { (makeSwitch s t).heat with expired := bump (makeSwitch s t).heat.expired } }
    else s := by
  unfold heaterDecide
  rw [if_neg hw, (leastTimeMet_iff s t).2 hl]
  rfl

theorem heaterDecide_free (hw : heatWanted s r ≠ s.heat.on) (hl : leastTimeOver s t) (hq : ¬heldByQuiet s r) :
    heaterDecide s t r = makeSwitch s t := by
  rw [heaterDecide_allowed hw hl, if_pos ((switchFree_iff s r).2 hq)]

theorem heaterDecide_starts (hw : heatWanted s r ≠ s.heat.on) (hl : leastTimeOver s t) (hq : heldByQuiet s r)
    (hd : s.heat.deferral = none) : heaterDecide s t r =
      { s with heat := { s.heat with deferral := some t, deferred := bump s.heat.deferred } } := by
  rw [heaterDecide_allowed hw hl, if_neg (fun h => (switchFree_iff s r).1 h hq), hd]
  rfl

theorem heaterDecide_runs {d : ArrayTime} (hw : heatWanted s r ≠ s.heat.on) (hl : leastTimeOver s t)
    (hq : heldByQuiet s r) (hd : s.heat.deferral = some d) : heaterDecide s t r =
      if (s.profile.deferMax : Int) * 1000000 ≤ diffUs t d then
        { makeSwitch s t with heat := { (makeSwitch s t).heat with expired := bump (makeSwitch s t).heat.expired } }
      else s := by
  have hover : deferralOver s t = true ↔ (s.profile.deferMax : Int) * 1000000 ≤ diffUs t d := by
    rw [deferralOver_iff, hd]
    simp
  rw [heaterDecide_allowed hw hl, if_neg (fun h => (switchFree_iff s r).1 h hq), if_neg (by simp [hd]), if_congr hover rfl rfl]

end Decision

/-! ### Steps 1 to 3 (R172, R176, R181, R182) -/

theorem warmEnough_iff (limit : Int) (r : Option Int) : warmEnough limit r = true ↔ ∃ x, r = some x ∧ limit + 50 ≤ x := by
  cases r <;> simp [warmEnough]

/-- The stopwatch credits the time since the last conversion where the reading before it was below the limit (R181). -/
theorem stopwatch_credits {h : Heater} {t : ArrayTime} {delta total : Nat} (hfirst : h.lastTemp = none → delta = 0)
    (hlater : ∀ v, h.lastTemp = some v → (delta : Int) = elapsedMs t v)
    (htotal : total = h.rem + if h.accumulating = true then delta else 0) (limit : Int) (r : Option Int) :
    h.stopwatch limit t r = { h with
      exposure := min 4294967295 (h.exposure + total / 1000), rem := total % 1000, lastTemp := some t
      accumulating := r.elim h.accumulating fun x => decide (x < limit) } := by
  have hcredit : total = if h.accumulating then h.rem + delta else h.rem := by
    rw [htotal]
    split_ifs <;> rfl
  unfold Heater.stopwatch
  rw [hcredit]
  cases hl : h.lastTemp with
  | none =>
    rw [hfirst hl]
    cases r <;> rfl
  | some v =>
    have hdelta : (boundedMs (diffUs t v)).toNat = delta := by
      rw [boundedMs_eq, ← hlater v hl]
      rfl
    dsimp only
    rw [hdelta]
    cases r <;> rfl

/-- The exposure-reset on-delay gives the exposure back where it is first met (R182). -/
theorem exposureDelay_eq {h : Heater} {limit : Int} {t : ArrayTime} {r : Option Int} {d : OnDelay} {first : Bool}
    (hd : delayAt h.resetDelay (∃ x, r = some x ∧ limit + 50 ≤ x) t 3600000000 d)
    (hfirst : first = true ↔ d.isMet = true ∧ h.resetDelay.isMet = false) :
    h.exposureDelay limit t r = { h with
      resetDelay := d, exposure := if first = true then 0 else h.exposure, rem := if first = true then 0 else h.rem
      resets := if first = true then min (h.resets + 1) 65535 else h.resets } := by
  have hmet : (d.isMet && !h.resetDelay.isMet) = first := by
    rw [Bool.eq_iff_iff, hfirst]
    simp
  unfold Heater.exposureDelay
  dsimp only
  rw [eval_of_delayAt (warmEnough_iff limit r) hd, hmet]
  cases first <;> rfl

/-- HEATER OPEN is cleared at an age of 3,600 s (R172, R180). -/
theorem clearOldOpen_eq {h : Heater} {t : ArrayTime} {opened : Option ArrayTime} (hclosed : h.openSince = none → opened = none)
    (hopen : ∀ o, h.openSince = some o → opened = if 3600000000 ≤ diffUs t o then none else some o) :
    h.clearOldOpen t = { h with openSince := opened } := by
  unfold Heater.clearOldOpen
  split
  next ho => rw [hclosed ho, ← ho]
  next o ho =>
    rw [hopen o ho]
    split_ifs
    · rfl
    · rw [← ho]

/-- Steps 1 to 3 of an evaluation, as the model makes them. -/
def readied (s : State) (t : ArrayTime) (r : Option Int) : State := { s with
  heat := (((s.heat.inLine t).stopwatch s.profile.freezeLimit t r).exposureDelay s.profile.freezeLimit t r).clearOldOpen t }

theorem readied_eq {s u : State} {t : ArrayTime} {r : Option Int} (h : heaterPrepared s u t r) : readied s t r = u := by
  obtain ⟨delta, total, d, opened, first, hfirst, hlater, htotal, hd, hmet, hclosed, hopen, hu⟩ := h
  have hline : s.heat.inLine t = (timesHeld s t).heat := rfl
  rw [readied, hline, hu]
  rw [timesHeld_heat] at hd ⊢
  -- Kept abstract: comparing a held time with the one it came from would evaluate microsecond counts.
  generalize heldAt t = held at hd hopen ⊢
  dsimp only at hd ⊢
  rw [stopwatch_credits (delta := delta) (total := total), exposureDelay_eq (d := d) (first := first),
    clearOldOpen_eq (opened := opened)]
  · cases r <;> rfl
  · exact fun hn => hclosed (Option.map_eq_none_iff.1 hn)
  · intro o ho
    obtain ⟨o', ho', rfl⟩ := Option.map_eq_some_iff.1 ho
    exact hopen o' ho'
  · exact hd
  · exact hmet
  · exact hfirst
  · exact hlater
  · exact htotal

/-- Steps 4 to 6 of an evaluation (R172). -/
def actedOn (u : State) (t : ArrayTime) (r : Option Int) : State :=
  if u.heat.on then
    match forcedTest u t r with
    | some c => forceOff u t c
    | none => heaterDecide u t r
  else heaterDecide u t r

theorem heaterEvaluate_eq {s u : State} {t : ArrayTime} {r : Option Int} (h : heaterPrepared s u t r) :
    heaterEvaluate s t r = actedOn u t r := by
  rw [← readied_eq h]
  rfl

theorem actedOn_forced {u : State} {t : ArrayTime} {r : Option Int} {cause : ForcedCause} (hon : u.heat.on = true)
    (hf : forcedBy u t r cause) : actedOn u t r = heatForcedOff u t cause := by
  unfold actedOn
  rw [if_pos hon, forcedTest_eq_some_iff.2 hf]
  rfl

theorem actedOn_decides {u : State} {t : ArrayTime} {r : Option Int}
    (hf : u.heat.on = true → ∀ cause, ¬forcedBy u t r cause) : actedOn u t r = heaterDecide u t r := by
  unfold actedOn
  split_ifs with hon
  · rw [forcedTest_eq_none_iff.2 (hf hon)]
  · rfl

theorem heaterPrepared_frame {s u : State} {t : ArrayTime} {r : Option Int} (h : heaterPrepared s u t r) :
    u.profile = s.profile ∧ u.bat = s.bat := by
  obtain ⟨-, -, -, -, -, -, -, -, -, -, -, -, rfl⟩ := h
  exact ⟨rfl, rfl⟩

/-! ### The rows of the Heater Controller's events (log entry 2) -/

section Rows

variable {s : State} {r : Option Int}

/-- The reading at which a row acts: the latest one, and none under the latched sensor fault. -/
theorem batteryTemp_eq (s : State) :
    s.batteryTemp = if s.sampler.batterySensor = true then none else s.sampler.latest.batTemp := rfl

theorem forcedNow_eq_some_iff (hr : s.batteryTemp = r) {cause : ForcedCause} :
    forcedNow s = some cause ↔ s.heat.on = true ∧ forcedBy s s.tb.clock r cause := by
  unfold forcedNow
  rw [hr]
  split_ifs with hon <;> simp [hon, forcedTest_eq_some_iff]

theorem exec_maxOn (ha : s.awake = true) :
    exec .maxOn s = .next (if forcedNow s = some .maxOn then heatForcedOff s s.tb.clock .maxOn else s) := by
  change execMaxOn s = _
  rw [execMaxOn, doWhen, ha, Bool.true_and, if_congr beq_iff_eq rfl rfl, forceOff_eq_heatForcedOff]

/-- A deferral is at its end where the evaluation would come to it and find it there (R172, R177). -/
theorem deferralDue_iff {want : Bool} (hr : s.batteryTemp = r) (hw : heatWanted s r = want) : deferralDue s = true ↔
    (∀ cause, ¬(s.heat.on = true ∧ forcedBy s s.tb.clock r cause)) ∧
      (∃ d, s.heat.deferral = some d ∧ (s.profile.deferMax : Int) * 1000000 ≤ diffUs s.tb.clock d) ∧
      want ≠ s.heat.on ∧ leastTimeOver s s.tb.clock ∧ heldByQuiet s r := by
  have hforced : (forcedNow s).isNone = true ↔ ∀ cause, ¬(s.heat.on = true ∧ forcedBy s s.tb.clock r cause) := by
    simp only [Option.isNone_iff_eq_none, Option.eq_none_iff_forall_ne_some, ne_eq, forcedNow_eq_some_iff hr]
  have hquiet : (!switchFree s r) = true ↔ heldByQuiet s r := by
    rw [Bool.not_eq_true', ← Bool.not_eq_true, switchFree_iff, not_not]
  unfold deferralDue
  rw [hr, hw]
  simp only [Bool.and_eq_true, hforced, deferralOver_iff, bne_iff_ne, leastTimeMet_iff, hquiet, and_assoc]

theorem exec_deferralExpired (ha : s.awake = true) : exec .deferralExpired s = .next (if deferralDue s then
    { makeSwitch s s.tb.clock with heat := { (makeSwitch s s.tb.clock).heat with
        expired := bump (makeSwitch s s.tb.clock).heat.expired } }
    else s) := by
  change execDeferralExpired s = _
  rw [execDeferralExpired, doWhen, ha, Bool.true_and]

theorem exec_heaterOpenClear (ha : s.awake = true) :
    exec .heaterOpenClear s = .next { s with heat := s.heat.clearOldOpen s.tb.clock } := by
  change execHeaterOpenClear s = _
  rw [execHeaterOpenClear, doWhen, if_pos ha]

/-- The on-delay is met at a warm reading once it has run for 3,600 s (R182). -/
theorem eval_reset_met {start : ArrayTime} {x : Int} (hrun : delayRun s s.heat.resetDelay start 3600000000)
    (hx : s.batteryTemp = some x) (hwarm : s.profile.freezeLimit + 50 ≤ x) :
    s.heat.resetDelay.eval (warmEnough s.profile.freezeLimit s.batteryTemp) s.tb.clock 3600000000 = ⟨some start, true⟩ := by
  obtain ⟨hstart, hlong⟩ := hrun
  rw [(warmEnough_iff _ _).2 ⟨x, hx, hwarm⟩, eval_true, hstart, Option.getD_some, decide_eq_true hlong, Bool.or_true]

theorem exec_exposureReset {d : OnDelay} (ha : s.awake = true) (hnot : s.heat.resetDelay.isMet = false)
    (hd : s.heat.resetDelay.eval (warmEnough s.profile.freezeLimit s.batteryTemp) s.tb.clock 3600000000 = d)
    (hmet : d.isMet = true) : exec .exposureReset s = .next { s with heat := { s.heat with
      resetDelay := d, exposure := 0, rem := 0, resets := bump s.heat.resets } } := by
  change execExposureReset s = _
  rw [execExposureReset, doWhen, ha, exposureDue, Heater.exposureDelay, hnot, hd, hmet]
  rfl

theorem exec_openCheck (ha : s.awake = true) (hk : BitVec 12) : exec (.openCheck hk) s =
    .next (if openCheckDue s s.tb.clock then heaterCurrent s s.tb.clock (2 * hk.toNat : Nat) else s) := by
  have hscale : HkInput.scale .heatCurr hk = (2 * hk.toNat : Nat) := by
    simp [HkInput.scale, mul_comm]
  change execOpenCheck hk s = _
  rw [execOpenCheck, doWhen, ha, Bool.true_and, hscale]

/-- A held time that does not lie after the stamp stays (R176). -/
theorem heldAt_past {t held : ArrayTime} (h : 0 ≤ diffUs t held) : heldAt t held = held :=
  if_neg (by unfold diffUs at *; omega)

end Rows

end Sys2Proof.Machine

namespace Sys2Proof.Proofs

open Sys2Proof.Machine

/-- Settles O44: the forced-off tests end the evaluation, and where none holds the decision takes its branch. -/
theorem heaterIsEvaluated : Obligations.HeaterIsEvaluated := by
  intro s u t r want h3 hp hsome hnone
  obtain ⟨hprofile, hbat⟩ := heaterPrepared_frame hp
  have hw : heatWanted u r = want := heatWanted_eq (by rw [hbat]; exact h3) hsome hnone
  subst hw
  rw [heaterEvaluate_eq hp, ← hprofile]
  refine ⟨fun cause hon hf => actedOn_forced hon hf, fun hno => ?_⟩
  rw [actedOn_decides hno]
  refine ⟨heaterDecide_settled, heaterDecide_held, fun hne hl => ⟨fun hq => ?_, fun hq =>
    ⟨heaterDecide_starts hne hl hq, fun d hd => ⟨fun hlt => ?_, fun hle => ?_⟩⟩⟩⟩
  · rw [heaterDecide_free hne hl hq, makeSwitch_eq_heatSwitched hne]
  · rw [heaterDecide_runs hne hl hq hd, if_neg (Int.not_le.2 hlt)]
  · rw [heaterDecide_runs hne hl hq hd, if_pos hle, makeSwitch_eq_heatSwitched hne]
    rfl

/-- Settles O57, row by row. -/
theorem heaterEventsAct : Obligations.HeaterEventsAct := by
  intro s r forced ha hr hforced
  have htemp : s.batteryTemp = r := (batteryTemp_eq s).trans hr.symm
  have hnow : ∀ cause, forcedNow s = some cause ↔ forced cause := fun cause =>
    (forcedNow_eq_some_iff htemp).trans (hforced cause).symm
  refine ⟨fun hf => ?_, fun hf => ?_, fun want lapsed h3 hsome hnone hlapsed => ?_, fun u hu => ?_,
    fun start x hnot hrun hgood hx hwarm => ?_, fun hk i b u hi hb hu => ⟨fun hon hmark hlate => ?_, fun hnot => ?_⟩⟩
  · rw [exec_maxOn ha, if_pos ((hnow _).2 hf)]
  · rw [exec_maxOn ha, if_neg (mt (hnow _).1 hf)]
  · have hdue : deferralDue s = true ↔ lapsed := by
      rw [deferralDue_iff htemp (heatWanted_eq h3 hsome hnone), hlapsed]
      simp only [hforced]
    rw [exec_deferralExpired ha]
    refine ⟨fun hl => ?_, fun hl => by rw [if_neg (mt hdue.1 hl)]⟩
    obtain ⟨-, -, hne, -⟩ := hlapsed.1 hl
    rw [if_pos (hdue.2 hl), makeSwitch_eq_heatSwitched hne]
    rfl
  · rw [exec_heaterOpenClear ha]
    split_ifs with hold
    · rw [clearOldOpen_eq (opened := none) (fun _ => rfl) (by simp [hu, hold])]
    · rw [clearOldOpen_young (by simpa [hu] using hold)]
  · have hread : s.batteryTemp = some x := by rw [batteryTemp_eq, hgood, if_neg Bool.false_ne_true, hx]
    exact exec_exposureReset ha hnot (eval_reset_met hrun hread hwarm) rfl
  · obtain ⟨-, -, -, -, -, -, -, hcurrent, -⟩ := housekeepingResultsAct s s.tb.clock
    obtain ⟨hopen, -, -⟩ := hcurrent i b u _ hb hu Iff.rfl
    obtain ⟨hlow, hgood⟩ := hopen hon hmark (by rw [heldAt_past (by omega)]; exact hlate)
    rw [exec_openCheck ha, ← hi, if_pos ((openCheckDue_iff s _).2 ⟨hon, hmark, hlate⟩)]
    exact ⟨fun hlt => congrArg Host.Outcome.next (hlow hlt), fun hle => congrArg Host.Outcome.next (hgood hle)⟩
  · rw [exec_openCheck ha, if_neg (mt (openCheckDue_iff s _).1 hnot)]

end Sys2Proof.Proofs
